-- ==== Sys2Proof/Word.lean ====
section
/-! DEFINITION. The plain quantities of the Ivjora 2240 (00_scope.md, Conventions): octets, the values the kiosk
link carries whole, and the index ranges of the part's fixed tables. -/

namespace Sys2Proof

/-- One octet of the kiosk link. -/
abbrev Byte := BitVec 8

/-- A station minute: an unsigned 32-bit count (Station time). -/
abbrev Minute := BitVec 32

/-- A pickup code, return code or courier token as the link carries it (Codes); valid up to 99,999,999. -/
abbrev CodeValue := BitVec 32

/-- A parcel reference, assigned by the back office. -/
abbrev Reference := BitVec 32

/-- Compartment number, 0 to 239. -/
abbrev CompNo := Fin 240

/-- Parcel slot, 0 to 383. -/
abbrev Slot := Fin 384

/-- Logical user terminal, 0 to 3. -/
abbrev Term := Fin 4

/-- A column by table index: index `i` stands for the strapped address `i + 1` (addresses 1 to 12). -/
abbrev Col := Fin 12

/-- Place of a compartment within its column, 0 to 19. -/
abbrev Pos := Fin 20

/-- Credential way by entry index, 0 to 511: way `w` of bucket `b` is entry `4 * b + w` (R22). -/
abbrev Way := Fin 512

/-- Tariff plan, 0 to 7. -/
abbrev PlanNo := Fin 8

/-- Courier route, 0 to 31. -/
abbrev Route := Fin 32

/-- Courier number, 0 to 31. -/
abbrev CourierNo := Fin 32

/-- Money in whole minor currency units (Amounts). -/
abbrev Amount := Nat

end Sys2Proof
end

