-- ==== Sys2Proof/Config.lean ====
section
/-! DEFINITION. Constants of the part, and the free values: what the reference leaves without a value. A free value
is an uninterpreted constant: nothing in Lean can evaluate it, so no claim can rest on a number. -/

namespace Sys2Proof.Config

/-- Largest amount (00_scope.md, Amounts). -/
def maxAmount : Nat := 999999

/-- Largest code value (00_scope.md, Codes). -/
def maxCode : Nat := 99999999

/-- Time from one probe mark to the next, in ms (R128). -/
def probePeriod : Nat := 5000

/-- Period of the scrubber's visits, in ms (R191). -/
def scrubPeriod : Nat := 100

/-- Wait after a BUSY answer, in ms (R125). -/
def busyWait : Nat := 10

/-- Length of the restart guard, in ms (R147). -/
def restartGuard : Nat := 1000

/-- FREE VALUE (assumption log 7): the minute field of a window end whose exact minute is past the largest station
minute. R85 and R87 add the window length to the clock and do not say what a sum past 4,294,967,295 becomes. The
argument is the exact sum in minutes. -/
opaque windowEndBeyond : Nat → Minute

/-- FREE VALUE (assumption log 8): the dwell of a record that has no arrival minute. R70 defines the dwell from the
arrival minute alone, and every record whose dwell is asked for has one in a run; the model still needs an answer
for a record written without one. The argument is the parcel slot. -/
opaque dwellWithoutArrival : Slot → Nat

end Sys2Proof.Config
end

