-- ==== Sys2Proof/Syntax.lean ====
section
/-! DEFINITION. The commands of the block: one constructor of `Instr` for each row of spec/opcode_table.json, and
`Request`, the fields of a request once its frame's header is taken off. Operands have the widths the link or the
column bus carries, so that a value outside its range can be sent and is judged by its owner. -/

namespace Sys2Proof

/-- Size classes in their order (00_scope.md, Size classes). -/
inductive SizeClass where
  | small | medium | large | bulky
  deriving DecidableEq, Repr

/-- Kind of a parcel record (R41). -/
inductive ParcelKind where
  | delivery | ret
  deriving DecidableEq, Repr

/-- Door sensed, and the "door now" reading of a poll (R1, R135). -/
inductive DoorState where
  | closed | opened
  deriving DecidableEq, Repr

/-- Occupancy reading (R1, R135). -/
inductive Occupancy where
  | empty | filled | uncertain
  deriving DecidableEq, Repr

/-- Direction of a bolt trace edge (R160). -/
inductive EdgeDir where
  | rise | fall
  deriving DecidableEq, Repr

/-- Panel message kinds (R137). -/
inductive RelayKind where
  | lamp | text | chime
  deriving DecidableEq, Repr

/-- The nine tables of the table cursor (R198), in the order of the cursor's table. -/
inductive TableId where
  | tariff | peak | map | column | parcel | credential | returnQueue | counters | snapshot
  deriving DecidableEq, Repr

/-- Step modes of the table cursor (R198). -/
inductive StepMode where
  | hold | each | writes
  deriving DecidableEq, Repr

/-- The two frame classes the host sends (9.1). -/
inductive FrameClass where
  | request | mgmt
  deriving DecidableEq, Repr

/-- The four readings of one position in a POLL answer (R135). -/
structure PositionReading where
  door : DoorState
  latched : Bool
  occupancy : Occupancy
  driverFault : Bool
  deriving DecidableEq, Repr

/-- One edge of a bolt trace: its offset in ms from the start of the pulse, and its direction (R160). -/
structure Edge where
  offset : Byte
  dir : EdgeDir
  deriving DecidableEq, Repr

/-- The trace a TRACE_READ answer carries for one position (R160). -/
structure PositionTrace where
  position : Byte
  edges : List Edge
  failed : Bool
  deriving DecidableEq, Repr

/-- The fields of a tariff plan WRITE as carried (R65, R66, R213). -/
structure PlanFields where
  free : BitVec 16
  block : BitVec 16
  rates : Vector (BitVec 24) 4
  caps : Vector (Option (BitVec 24)) 4
  peak : Byte
  expiry : BitVec 16
  window : BitVec 16
  deriving DecidableEq, Repr

/-- The fields of an ADVISE as carried (R46, R214). -/
structure AdviceFields where
  ref : Reference
  kind : Byte
  cls : Byte
  upsize : Byte
  plan : Byte
  prepaid : BitVec 24
  route : Byte
  code : CodeValue
  deriving DecidableEq, Repr

/-- A request without its frame header: the fields after the kind octet (12.2). -/
inductive Request where
  | signOn (code : CodeValue)
  | signOff
  | deposit (ref : Reference)
  | returnDrop (code : CodeValue)
  | abandon
  | collect (code : CodeValue)
  | tender (amount : BitVec 24) (tref : BitVec 32)
  | cancel
  | sweepStart
  | sweepStop
  | statusCompartment (compartment : Byte)
  | statusParcel (ref : Reference)
  | relay (column : Byte) (kind : Byte) (message : List Byte)
  | advise (a : AdviceFields)
  | withdraw (ref : Reference)
  | reissue (ref : Reference) (code : CodeValue)
  | enrolCourier (code : CodeValue) (route deposit sweep : Byte)
  | revokeCourier (courier : Byte)
  | timeSet (minute : Minute) (seconds : Byte)
  | retire (ref : Reference)
  | bar (compartment : Byte)
  | unbar (compartment : Byte)
  | maintEnter (compartment : Byte)
  | maintExit (compartment : Byte)
  | maintTestPulse (compartment : Byte)
  | maintTrace (column : Byte)
  | enumerate
  | clearIntegrity
  | snapshot
  | mask (masks : Vector Byte 12)
  | drillStep
  | cursor (table : Byte) (index : BitVec 16) (mode : Byte)
  | read
  | writeTariff (plan : PlanFields)
  | writePeak (first last multiplier : BitVec 16)
  | writeMap (place : Option (Byte × Byte)) (cls : Byte)
  | writeColumn (lamp text chime : Byte)
  | write (fields : List Byte)
  | configSet (fields : List (Byte × BitVec 16))
  | configGet
  | hold
  | unhold
  | clearStranded (slot : BitVec 16)
  | clearQuarantine (slot : BitVec 16)
  | restartEngines
  | resetAll
  deriving DecidableEq, Repr

/-- The commands of the block, one constructor for each row of spec/opcode_table.json. The requests carry the tag
and the origin octet of their frame; the events of the columns carry the address their answer bears; the expiries
of a timer name whose timer it is. -/
inductive Instr where
  /-- FRAME_RECEIVED (R170): the octets of a frame arrive, in order. -/
  | frameReceived (octets : List Byte)
  /-- SILENCE_EXPIRY (R171). -/
  | silenceExpiry
  /-- REPLY_TRANSMIT_COMPLETE (R180). -/
  | replyTransmitComplete
  /-- NOTICE_TRANSMIT_COMPLETE (R185). -/
  | noticeTransmitComplete
  /-- SIGN_ON (R33). -/
  | signOn (tag origin : Byte) (code : CodeValue)
  /-- SIGN_OFF (R34). -/
  | signOff (tag origin : Byte)
  /-- ENROL COURIER (R28). -/
  | enrolCourier (tag origin : Byte) (code : CodeValue) (route deposit sweep : Byte)
  /-- REVOKE COURIER (R29). -/
  | revokeCourier (tag origin : Byte) (courier : Byte)
  /-- ADVISE (R46). -/
  | advise (tag origin : Byte) (a : AdviceFields)
  /-- WITHDRAW (R47). -/
  | withdraw (tag origin : Byte) (ref : Reference)
  /-- REISSUE (R48). -/
  | reissue (tag origin : Byte) (ref : Reference) (code : CodeValue)
  /-- STATUS naming a compartment (R21). -/
  | statusCompartment (tag origin : Byte) (compartment : Byte)
  /-- STATUS naming a parcel reference (R49). -/
  | statusParcel (tag origin : Byte) (ref : Reference)
  /-- DEPOSIT (R51). -/
  | deposit (tag origin : Byte) (ref : Reference)
  /-- RETURN_DROP (R52). -/
  | returnDrop (tag origin : Byte) (code : CodeValue)
  /-- ABANDON (R54). -/
  | abandon (tag origin : Byte)
  /-- TIME SET (R63). -/
  | timeSet (tag origin : Byte) (minute : Minute) (seconds : Byte)
  /-- COLLECT (R81). -/
  | collect (tag origin : Byte) (code : CodeValue)
  /-- The computation in progress completes (R73). -/
  | computationComplete
  /-- TENDER (R88). -/
  | tender (tag origin : Byte) (amount : BitVec 24) (tref : BitVec 32)
  /-- CANCEL (R92). -/
  | cancel (tag origin : Byte)
  /-- The payment window of the terminal's quote reaches 0 (R91). -/
  | quoteLapse (terminal : Term)
  /-- The re-open window of the record in the slot reaches 0 (R96). -/
  | reopenWindowEnd (slot : Slot)
  /-- SWEEP_START (R110). -/
  | sweepStart (tag origin : Byte)
  /-- SWEEP_STOP (R119). -/
  | sweepStop (tag origin : Byte)
  /-- RETIRE (R108). -/
  | retire (tag origin : Byte) (ref : Reference)
  /-- BAR (R14). -/
  | bar (tag origin : Byte) (compartment : Byte)
  /-- UNBAR (R16). -/
  | unbar (tag origin : Byte) (compartment : Byte)
  /-- MAINT ENTER (R17). -/
  | maintEnter (tag origin : Byte) (compartment : Byte)
  /-- MAINT EXIT (R20). -/
  | maintExit (tag origin : Byte) (compartment : Byte)
  /-- MAINT TEST PULSE (R18). -/
  | maintTestPulse (tag origin : Byte) (compartment : Byte)
  /-- MAINT TRACE (R163). -/
  | maintTrace (tag origin : Byte) (column : Byte)
  /-- RELAY (R137). -/
  | relay (tag origin : Byte) (column : Byte) (kind : Byte) (message : List Byte)
  /-- ENUMERATE (R129). -/
  | enumerate (tag origin : Byte)
  /-- CLEAR INTEGRITY (R195). -/
  | clearIntegrity (tag origin : Byte)
  /-- SNAPSHOT (R189). -/
  | snapshot (tag origin : Byte)
  /-- MASK (R186). -/
  | mask (tag origin : Byte) (masks : Vector Byte 12)
  /-- DRILL STEP (R196). -/
  | drillStep (tag origin : Byte)
  /-- CURSOR (R198). -/
  | cursor (tag origin : Byte) (table : Byte) (index : BitVec 16) (mode : Byte)
  /-- READ (R199). -/
  | read (tag origin : Byte)
  /-- WRITE with the fields of a tariff plan (R66). -/
  | writeTariff (tag origin : Byte) (plan : PlanFields)
  /-- WRITE with the fields of a peak window (R67). -/
  | writePeak (tag origin : Byte) (first last multiplier : BitVec 16)
  /-- WRITE with a map value and a size class (R4). -/
  | writeMap (tag origin : Byte) (place : Option (Byte × Byte)) (cls : Byte)
  /-- WRITE with three relay permissions (R122). -/
  | writeColumn (tag origin : Byte) (lamp text chime : Byte)
  /-- WRITE with any octets, as to a table that takes no WRITE (R200). -/
  | write (tag origin : Byte) (fields : List Byte)
  /-- CONFIG SET: pairs of field number and value (R202, R214). -/
  | configSet (tag origin : Byte) (fields : List (Byte × BitVec 16))
  /-- CONFIG GET (R203). -/
  | configGet (tag origin : Byte)
  /-- HOLD (R204). -/
  | hold (tag origin : Byte)
  /-- UNHOLD (R204). -/
  | unhold (tag origin : Byte)
  /-- CLEAR STRANDED (R205). -/
  | clearStranded (tag origin : Byte) (slot : BitVec 16)
  /-- CLEAR QUARANTINE (R205). -/
  | clearQuarantine (tag origin : Byte) (slot : BitVec 16)
  /-- RESTART ENGINES (R206). -/
  | restartEngines (tag origin : Byte)
  /-- RESET ALL (R206). -/
  | resetAll (tag origin : Byte)
  /-- The reset line is asserted (R206). -/
  | resetAssert
  /-- Power is established with the reset line released, or the reset line is released (R206). -/
  | resetRelease
  /-- The retention supply falls below its hold level (R206). -/
  | retentionSupplyLoss
  /-- One elapsed second of the time base (R62). -/
  | secondTick
  /-- The elapsed second at which the seconds pass from 59 (R62). -/
  | minuteBoundary
  /-- The expiry scanner visits the slot at its cursor (R103). -/
  | scanVisit
  /-- The terminal's lockout remaining reaches 0 (R39). -/
  | lockoutEnd (terminal : Term)
  /-- The terminal's inactivity timer expires (R35). -/
  | inactivityExpiry (terminal : Term)
  /-- A poll round starts (R134). -/
  | pollRound
  /-- The 5 s probe mark (R128). -/
  | probeMark
  /-- The attention line is asserted (R136, R211). -/
  | attentionAssert
  /-- A POLL answer: the address it bears and the readings of positions 0, 1, ... (R135). -/
  | pollAccept (address : Byte) (readings : List PositionReading)
  /-- A PROBE answer: the address it bears and the count it reports (R128). -/
  | probeAccept (address : Byte) (count : Byte)
  /-- The column accepts a PULSE (R143). -/
  | pulseAccept (address : Byte)
  /-- A TRACE_READ answer with the traces the column holds (R160). -/
  | traceReadAccept (address : Byte) (traces : List PositionTrace)
  /-- The column accepts a RELAY (R138). -/
  | relayAccept (address : Byte)
  /-- A BUSY answer (R125). -/
  | busyAnswer (address : Byte)
  /-- The 10 ms after a BUSY answer elapse (R125). -/
  | busyRetryWaitEnd
  /-- A WAKE answer (R126). -/
  | wakeAnswer (address : Byte)
  /-- The wake settle interval after a WAKE answer elapses (R126). -/
  | wakeRetryWaitEnd
  /-- Nothing heard within 5 ms, or a bad answer (R124). -/
  | noAnswer
  /-- The column holds the bus past 20 ms (R124). -/
  | stall
  /-- The HOLD_ALL broadcast ends its transmission (R133). -/
  | holdAllSent
  /-- The SLEEP_ALL broadcast ends its transmission (R133). -/
  | sleepAllSent
  /-- The WAKE_ALL broadcast ends its transmission (R133). -/
  | wakeAllSent
  /-- The wake settle interval after WAKE_ALL elapses (R133, R211). -/
  | wakeSettleEnd
  /-- The pulse timer of the compartment reaches its length (R145). -/
  | pulseEnd (compartment : CompNo)
  /-- The restart guard reaches 0 (R147). -/
  | restartGuardElapsed
  /-- The hold line is asserted (R148). -/
  | holdLineAssert
  /-- The hold line is released (R149). -/
  | holdLineRelease
  /-- The confirm timer of the compartment reaches 0 (R158). -/
  | confirmExpiry (compartment : CompNo)
  /-- The open limit of the compartment reaches 0 (R159). -/
  | openLimitExpiry (compartment : CompNo)
  /-- The ajar timer of the compartment reaches 0 (R165). -/
  | ajarExpiry (compartment : CompNo)
  /-- The idle timer reaches 0 (R209). -/
  | idleExpiry
  /-- The scrubber visits the entry at its cursor (R191). -/
  | scrubVisit
  /-- One octet arrives on the receive line (R169). -/
  | octetReceived (octet : Byte)
  /-- The main supply is lost; `cutsColdStart` says whether the loss cut the cold start short (R206, R207). -/
  | powerLoss (cutsColdStart : Bool)
  deriving DecidableEq, Repr

/-- The request a command stands for, with its frame's tag and origin; none for an event. -/
def Instr.request? : Instr → Option (Byte × Byte × Request)
  | .signOn t o code => some (t, o, .signOn code)
  | .signOff t o => some (t, o, .signOff)
  | .enrolCourier t o code route d w => some (t, o, .enrolCourier code route d w)
  | .revokeCourier t o c => some (t, o, .revokeCourier c)
  | .advise t o a => some (t, o, .advise a)
  | .withdraw t o ref => some (t, o, .withdraw ref)
  | .reissue t o ref code => some (t, o, .reissue ref code)
  | .statusCompartment t o n => some (t, o, .statusCompartment n)
  | .statusParcel t o ref => some (t, o, .statusParcel ref)
  | .deposit t o ref => some (t, o, .deposit ref)
  | .returnDrop t o code => some (t, o, .returnDrop code)
  | .abandon t o => some (t, o, .abandon)
  | .timeSet t o m sec => some (t, o, .timeSet m sec)
  | .collect t o code => some (t, o, .collect code)
  | .tender t o a r => some (t, o, .tender a r)
  | .cancel t o => some (t, o, .cancel)
  | .sweepStart t o => some (t, o, .sweepStart)
  | .sweepStop t o => some (t, o, .sweepStop)
  | .retire t o ref => some (t, o, .retire ref)
  | .bar t o n => some (t, o, .bar n)
  | .unbar t o n => some (t, o, .unbar n)
  | .maintEnter t o n => some (t, o, .maintEnter n)
  | .maintExit t o n => some (t, o, .maintExit n)
  | .maintTestPulse t o n => some (t, o, .maintTestPulse n)
  | .maintTrace t o c => some (t, o, .maintTrace c)
  | .relay t o c k m => some (t, o, .relay c k m)
  | .enumerate t o => some (t, o, .enumerate)
  | .clearIntegrity t o => some (t, o, .clearIntegrity)
  | .snapshot t o => some (t, o, .snapshot)
  | .mask t o m => some (t, o, .mask m)
  | .drillStep t o => some (t, o, .drillStep)
  | .cursor t o tb i m => some (t, o, .cursor tb i m)
  | .read t o => some (t, o, .read)
  | .writeTariff t o p => some (t, o, .writeTariff p)
  | .writePeak t o a b m => some (t, o, .writePeak a b m)
  | .writeMap t o p c => some (t, o, .writeMap p c)
  | .writeColumn t o a b c => some (t, o, .writeColumn a b c)
  | .write t o f => some (t, o, .write f)
  | .configSet t o f => some (t, o, .configSet f)
  | .configGet t o => some (t, o, .configGet)
  | .hold t o => some (t, o, .hold)
  | .unhold t o => some (t, o, .unhold)
  | .clearStranded t o sl => some (t, o, .clearStranded sl)
  | .clearQuarantine t o sl => some (t, o, .clearQuarantine sl)
  | .restartEngines t o => some (t, o, .restartEngines)
  | .resetAll t o => some (t, o, .resetAll)
  | .frameReceived _ | .silenceExpiry | .replyTransmitComplete | .noticeTransmitComplete
  | .computationComplete | .quoteLapse _ | .reopenWindowEnd _ | .resetAssert | .resetRelease
  | .retentionSupplyLoss | .secondTick | .minuteBoundary | .scanVisit | .lockoutEnd _
  | .inactivityExpiry _ | .pollRound | .probeMark | .attentionAssert | .pollAccept _ _
  | .probeAccept _ _ | .pulseAccept _ | .traceReadAccept _ _ | .relayAccept _ | .busyAnswer _
  | .busyRetryWaitEnd | .wakeAnswer _ | .wakeRetryWaitEnd | .noAnswer | .stall | .holdAllSent
  | .sleepAllSent | .wakeAllSent | .wakeSettleEnd | .pulseEnd _ | .restartGuardElapsed
  | .holdLineAssert | .holdLineRelease | .confirmExpiry _ | .openLimitExpiry _ | .ajarExpiry _
  | .idleExpiry | .scrubVisit | .octetReceived _ | .powerLoss _ => none

end Sys2Proof
end

