-- ==== Sys2Proof/WellFormed.lean ====
section
/-! DEFINITION. Which commands can be sent as they stand: what the frame layouts (12.1, R214) and the column answers
(R135, R160) leave room for. `exec` gives every command a meaning, well formed or not. -/

namespace Sys2Proof

/-- A request whose fields fit a frame: a RELAY message has 1 to 32 octets, a CONFIG SET at least one pair, and no
body is longer than 121 octets with its kind (9.1, R214). -/
def Request.wellFormed : Request → Bool
  | .relay _ _ m => 1 ≤ m.length && m.length ≤ 32
  | .configSet fs => 1 ≤ fs.length && fs.length ≤ 40
  | .write f => f.length ≤ 120
  | _ => true

/-- A command that can be sent: a request whose fields fit a frame, a frame of 8 to 128 octets (9.1), a POLL answer
of at most 20 positions (R122), a TRACE_READ answer of at most 20 positions with at most four edges each (R160). -/
def Instr.wellFormed (i : Instr) : Bool :=
  match i.request? with
  | some (_, _, r) => r.wellFormed
  | none =>
    match i with
    | .frameReceived octets => 8 ≤ octets.length && octets.length ≤ 128
    | .pollAccept _ rs => rs.length ≤ 20
    | .traceReadAccept _ ts => ts.length ≤ 20 && ts.all (fun t => t.edges.length ≤ 4)
    | _ => true

end Sys2Proof
end

