-- ==== Sys2Proof/Decode.lean ====
section
/-! DEFINITION. The octets of the kiosk link (12_frame_layouts.md): the frame check, big-endian fields, the layout of
every request body, and the reading of a body at the hand-off (R178, R213, R214, R218). The opcode table gives its
rows no bits, so no word spells a command (`decodeTableWord`). -/

namespace Sys2Proof

/-- The command a word spells by the table's bits: the table gives bits to no row (DESIGN CHOICE, assumption log 26).
-/
def decodeTableWord (_nbits _w : Nat) : Option Instr := none

namespace Wire

/-! ### Multi-octet fields, most significant octet first -/

/-- The two octets of a 16-bit field. -/
def oct2 (w : BitVec 16) : List Byte := [w.extractLsb' 8 8, w.extractLsb' 0 8]

/-- The three octets of a 24-bit field. -/
def oct3 (w : BitVec 24) : List Byte := [w.extractLsb' 16 8, w.extractLsb' 8 8, w.extractLsb' 0 8]

/-- The four octets of a 32-bit field. -/
def oct4 (w : BitVec 32) : List Byte :=
  [w.extractLsb' 24 8, w.extractLsb' 16 8, w.extractLsb' 8 8, w.extractLsb' 0 8]

/-- The 16-bit field of two octets. -/
def val2 (a b : Byte) : BitVec 16 := a ++ b

/-- The 24-bit field of three octets. -/
def val3 (a b c : Byte) : BitVec 24 := a ++ b ++ c

/-- The 32-bit field of four octets. -/
def val4 (a b c d : Byte) : BitVec 32 := a ++ b ++ c ++ d

/-- One octet of a number below 256. -/
def num1 (n : Nat) : List Byte := [BitVec.ofNat 8 n]

/-- Two octets of a number below 65,536. -/
def num2 (n : Nat) : List Byte := oct2 (BitVec.ofNat 16 n)

/-- Three octets of an amount, rate or day cap. -/
def num3 (n : Nat) : List Byte := oct3 (BitVec.ofNat 24 n)

/-- A two-valued field: 01h for yes, set, enabled, masked, ON (R213). -/
def flag (b : Bool) : List Byte := [if b then 0x01#8 else 0x00#8]

/-- An optional field: 01h and the value, or 00h alone (R213). -/
def optional {α : Type} (f : α → List Byte) : Option α → List Byte
  | some a => 0x01#8 :: f a
  | none => [0x00#8]

/-! ### Check computations -/

/-- One bit step of a 16-bit register divided by x^16 + x^12 + x^5 + 1. -/
def crc16Shift (r : BitVec 16) : BitVec 16 :=
  if r.getLsbD 15 then (r <<< 1) ^^^ 0x1021#16 else r <<< 1

/-- One octet enters the register from its most significant bit (R213). -/
def crc16Octet (r : BitVec 16) (o : Byte) : BitVec 16 :=
  let x := r ^^^ (o ++ 0x00#8)
  crc16Shift (crc16Shift (crc16Shift (crc16Shift
    (crc16Shift (crc16Shift (crc16Shift (crc16Shift x)))))))

/-- The frame check over a series of octets: the register starts at FFFFh (R213). -/
def crc16 (os : List Byte) : BitVec 16 := os.foldl crc16Octet 0xFFFF#16

/-- One bit step of an 8-bit register divided by x^8 + x^2 + x + 1. -/
def crc8Shift (r : Byte) : Byte := if r.getLsbD 7 then (r <<< 1) ^^^ 0x07#8 else r <<< 1

/-- One octet enters the 8-bit register, from its most significant bit, and the remainder is taken behind eight further
zero bits, as R213 says of the frame check (R190) (DEDUCED, assumption log 23). -/
def crc8Octet (r o : Byte) : Byte :=
  let x := r ^^^ o
  crc8Shift (crc8Shift (crc8Shift (crc8Shift (crc8Shift (crc8Shift (crc8Shift (crc8Shift x)))))))

/-- The check byte of a series of octets, with initial value 0 (R190). -/
def crc8 (os : List Byte) : Byte := os.foldl crc8Octet 0x00#8

/-! ### Frames (12.1) -/

/-- The mark octet. -/
def mark : Byte := 0xA7#8

/-- The class octet of a REQUEST frame. -/
def classRequest : Byte := 0x51#8

/-- The class octet of an MGMT frame. -/
def classMgmt : Byte := 0x52#8

/-- The class octet of a REPLY frame. -/
def classReply : Byte := 0x61#8

/-- The class octet of a NOTICE frame. -/
def classNotice : Byte := 0x62#8

/-- The origin octet of the back office. -/
def originOffice : Byte := 0x0F#8

/-- A whole frame: mark, length, class, tag, origin, body and the check over length through body (12.1, R213). -/
def frame (cls tag origin : Byte) (body : List Byte) : List Byte :=
  let checked := BitVec.ofNat 8 (body.length + 7) :: cls :: tag :: origin :: body
  mark :: checked ++ oct2 (crc16 checked)

/-- The octet of a class the host sends. -/
def classOctet : FrameClass → Byte
  | .request => classRequest
  | .mgmt => classMgmt

/-- The class of a good frame: REQUEST or MGMT (R170). -/
def classOf (o : Byte) : Option FrameClass :=
  if o = classRequest then some .request else if o = classMgmt then some .mgmt else none

/-! ### Enumerated octets of the requests: the value's place in its list (R213) -/

/-- The size class of an octet. -/
def sizeClass? (b : Byte) : Option SizeClass :=
  match b.toNat with
  | 0 => some .small
  | 1 => some .medium
  | 2 => some .large
  | 3 => some .bulky
  | _ => none

/-- The record kind of an octet. -/
def parcelKind? (b : Byte) : Option ParcelKind :=
  match b.toNat with
  | 0 => some .delivery
  | 1 => some .ret
  | _ => none

/-- The panel message kind of an octet. -/
def relayKind? (b : Byte) : Option RelayKind :=
  match b.toNat with
  | 0 => some .lamp
  | 1 => some .text
  | 2 => some .chime
  | _ => none

/-- The cursor table of an octet (R198). -/
def tableId? (b : Byte) : Option TableId :=
  match b.toNat with
  | 0 => some .tariff
  | 1 => some .peak
  | 2 => some .map
  | 3 => some .column
  | 4 => some .parcel
  | 5 => some .credential
  | 6 => some .returnQueue
  | 7 => some .counters
  | 8 => some .snapshot
  | _ => none

/-- The octet of a cursor table. -/
def tableOctet : TableId → Byte
  | .tariff => 0
  | .peak => 1
  | .map => 2
  | .column => 3
  | .parcel => 4
  | .credential => 5
  | .returnQueue => 6
  | .counters => 7
  | .snapshot => 8

/-- The cursor step mode of an octet (R198). -/
def stepMode? (b : Byte) : Option StepMode :=
  match b.toNat with
  | 0 => some .hold
  | 1 => some .each
  | 2 => some .writes
  | _ => none

/-- A two-valued field; any value but 00h or 01h is out of range (R218) (DEDUCED, assumption log 20). -/
def yesNo? (b : Byte) : Option Bool :=
  match b.toNat with
  | 0 => some false
  | 1 => some true
  | _ => none

/-! ### Request bodies (12.1, R214) -/

/-- The class a request is sent in: MGMT for the kinds whose origin is OFFICE alone (R178). -/
def classOfRequest : Request → FrameClass
  | .signOn _ | .signOff | .deposit _ | .returnDrop _ | .abandon | .collect _ | .tender _ _
  | .cancel | .sweepStart | .sweepStop | .statusCompartment _ | .statusParcel _ | .relay _ _ _ => .request
  | _ => .mgmt

/-- The kind octet of a request (12.1). -/
def kindOctet : Request → Byte
  | .signOn _ => 0x01
  | .signOff => 0x02
  | .deposit _ => 0x03
  | .returnDrop _ => 0x04
  | .abandon => 0x05
  | .collect _ => 0x06
  | .tender _ _ => 0x07
  | .cancel => 0x08
  | .sweepStart => 0x09
  | .sweepStop => 0x0A
  | .statusCompartment _ => 0x0B
  | .statusParcel _ => 0x0B
  | .relay _ _ _ => 0x0C
  | .advise _ => 0x20
  | .withdraw _ => 0x21
  | .reissue _ _ => 0x22
  | .enrolCourier _ _ _ _ => 0x23
  | .revokeCourier _ => 0x24
  | .timeSet _ _ => 0x25
  | .retire _ => 0x26
  | .bar _ => 0x27
  | .unbar _ => 0x28
  | .maintEnter _ => 0x29
  | .maintExit _ => 0x2A
  | .maintTestPulse _ => 0x2B
  | .maintTrace _ => 0x2C
  | .enumerate => 0x2D
  | .clearIntegrity => 0x2E
  | .snapshot => 0x2F
  | .mask _ => 0x30
  | .drillStep => 0x31
  | .cursor _ _ _ => 0x32
  | .read => 0x33
  | .writeTariff _ => 0x34
  | .writePeak _ _ _ => 0x34
  | .writeMap _ _ => 0x34
  | .writeColumn _ _ _ => 0x34
  | .write _ => 0x34
  | .configSet _ => 0x35
  | .configGet => 0x36
  | .hold => 0x37
  | .unhold => 0x38
  | .clearStranded _ => 0x39
  | .clearQuarantine _ => 0x3A
  | .restartEngines => 0x3B
  | .resetAll => 0x3C

/-- The writable fields of a tariff plan, in the order of its field list (R65, R214). -/
def planOctets (p : PlanFields) : List Byte :=
  oct2 p.free ++ oct2 p.block ++ oct3 p.rates[0] ++ oct3 p.rates[1] ++ oct3 p.rates[2] ++ oct3 p.rates[3]
    ++ optional oct3 p.caps[0] ++ optional oct3 p.caps[1] ++ optional oct3 p.caps[2] ++ optional oct3 p.caps[3]
    ++ [p.peak] ++ oct2 p.expiry ++ oct2 p.window

/-- The octets after the kind (R214). -/
def fieldOctets : Request → List Byte
  | .signOn code | .collect code | .returnDrop code => oct4 code
  | .deposit ref | .withdraw ref | .retire ref => oct4 ref
  | .signOff | .abandon | .cancel | .sweepStart | .sweepStop => []
  | .tender amount tref => oct3 amount ++ oct4 tref
  | .statusCompartment n => [0x00, n]
  | .statusParcel ref => 0x01 :: oct4 ref
  | .relay c k m => c :: k :: m
  | .advise a =>
    oct4 a.ref ++ [a.kind, a.cls, a.upsize, a.plan] ++ oct3 a.prepaid ++ [a.route] ++ oct4 a.code
  | .reissue ref code => oct4 ref ++ oct4 code
  | .enrolCourier code route d w => oct4 code ++ [route, d, w]
  | .revokeCourier c => [c]
  | .timeSet m sec => oct4 m ++ [sec]
  | .bar n | .unbar n | .maintEnter n | .maintExit n | .maintTestPulse n => [n]
  | .maintTrace c => [c]
  | .enumerate | .clearIntegrity | .snapshot | .drillStep | .read | .configGet | .hold | .unhold
  | .restartEngines | .resetAll => []
  | .mask m => m.toList
  | .cursor t i m => t :: oct2 i ++ [m]
  | .writeTariff p => planOctets p
  | .writePeak a b m => oct2 a ++ oct2 b ++ oct2 m
  | .writeMap place cls => optional (fun cp : Byte × Byte => [cp.1, cp.2]) place ++ [cls]
  | .writeColumn a b c => [a, b, c]
  | .write f => f
  | .configSet fs => fs.flatMap (fun p => p.1 :: oct2 p.2)
  | .clearStranded sl | .clearQuarantine sl => oct2 sl

/-- The body of a request: its kind octet, then its fields (DESIGN CHOICE, assumption log 3). -/
def bodyOctets (r : Request) : List Byte := kindOctet r :: fieldOctets r

/-! ### Reading a body at the hand-off (R178, R218) -/

/-- What the link interface makes of a body: a kind that is not of the class, a body of another length than called
for, or a request. -/
inductive Parsed where
  | unknownKind
  | malformed
  | request (r : Request)
  deriving DecidableEq, Repr

/-- Four octets as a code value or reference, no more and no fewer. -/
def read4 (k : BitVec 32 → Request) : List Byte → Parsed
  | [a, b, c, d] => .request (k (val4 a b c d))
  | _ => .malformed

/-- One octet, no more and no fewer. -/
def read1 (k : Byte → Request) : List Byte → Parsed
  | [a] => .request (k a)
  | _ => .malformed

/-- No octet. -/
def read0 (r : Request) : List Byte → Parsed
  | [] => .request r
  | _ => .malformed

/-- An optional 24-bit field at the head: its presence octet fixes its length (R218). -/
def takeOptional3 : List Byte → Option (Option (BitVec 24) × List Byte)
  | p :: rest =>
    match p.toNat, rest with
    | 0, rest => some (none, rest)
    | 1, a :: b :: c :: rest => some (some (val3 a b c), rest)
    | _, _ => none
  | [] => none

/-- The tail of a tariff plan body: four day caps, then peak, expiry and payment window. -/
def readPlanTail (free block : BitVec 16) (r0 r1 r2 r3 : BitVec 24) (f : List Byte) : Parsed :=
  match takeOptional3 f with
  | none => .malformed
  | some (c0, f) =>
  match takeOptional3 f with
  | none => .malformed
  | some (c1, f) =>
  match takeOptional3 f with
  | none => .malformed
  | some (c2, f) =>
  match takeOptional3 f with
  | none => .malformed
  | some (c3, f) =>
  match f with
  | [peak, e1, e0, w1, w0] =>
    .request (.writeTariff
      { free := free, block := block, rates := #v[r0, r1, r2, r3], caps := #v[c0, c1, c2, c3]
        peak := peak, expiry := val2 e1 e0, window := val2 w1 w0 })
  | _ => .malformed

/-- A tariff plan body (R65). -/
def readPlan : List Byte → Parsed
  | f1 :: f0 :: b1 :: b0 :: a2 :: a1 :: a0 :: m2 :: m1 :: m0 :: l2 :: l1 :: l0 :: k2 :: k1 :: k0 :: rest =>
    readPlanTail (val2 f1 f0) (val2 b1 b0) (val3 a2 a1 a0) (val3 m2 m1 m0) (val3 l2 l1 l0) (val3 k2 k1 k0) rest
  | _ => .malformed

/-- A WRITE body, read against the cursor's table at the hand-off (R218). -/
def readWrite (table : TableId) (f : List Byte) : Parsed :=
  match table with
  | .tariff => readPlan f
  | .peak =>
    match f with
    | [a1, a0, b1, b0, m1, m0] => .request (.writePeak (val2 a1 a0) (val2 b1 b0) (val2 m1 m0))
    | _ => .malformed
  | .map =>
    match f with
    | [p, cls] => if p = 0x00#8 then .request (.writeMap none cls) else .malformed
    | [p, c, pos, cls] => if p = 0x01#8 then .request (.writeMap (some (c, pos)) cls) else .malformed
    | _ => .malformed
  | .column =>
    match f with
    | [a, b, c] => .request (.writeColumn a b c)
    | _ => .malformed
  | .parcel | .credential | .returnQueue | .counters | .snapshot => .request (.write f)

/-- The pairs of a CONFIG SET body: field number and two octets of value. -/
def readPairs : List Byte → Option (List (Byte × BitVec 16))
  | [] => some []
  | n :: v1 :: v0 :: rest => (readPairs rest).map (fun ps => (n, val2 v1 v0) :: ps)
  | _ => none

/-- A body of class REQUEST. -/
def readRequestClass (kind : Byte) (f : List Byte) : Parsed :=
  match kind.toNat with
  | 0x01 => read4 .signOn f
  | 0x02 => read0 .signOff f
  | 0x03 => read4 .deposit f
  | 0x04 => read4 .returnDrop f
  | 0x05 => read0 .abandon f
  | 0x06 => read4 .collect f
  | 0x07 =>
    match f with
    | [a, b, c, r3, r2, r1, r0] => .request (.tender (val3 a b c) (val4 r3 r2 r1 r0))
    | _ => .malformed
  | 0x08 => read0 .cancel f
  | 0x09 => read0 .sweepStart f
  | 0x0A => read0 .sweepStop f
  | 0x0B =>
    match f with
    | [sel, n] => if sel = 0x00#8 then .request (.statusCompartment n) else .malformed
    | [sel, a, b, c, d] => if sel = 0x01#8 then .request (.statusParcel (val4 a b c d)) else .malformed
    | _ => .malformed
  | 0x0C =>
    match f with
    | c :: k :: m => if 1 ≤ m.length ∧ m.length ≤ 32 then .request (.relay c k m) else .malformed
    | _ => .malformed
  | _ => .unknownKind

/-- A body of class MGMT. -/
def readMgmtClass (table : TableId) (kind : Byte) (f : List Byte) : Parsed :=
  match kind.toNat with
  | 0x20 =>
    match f with
    | [r3, r2, r1, r0, kind, cls, up, plan, p2, p1, p0, route, c3, c2, c1, c0] =>
      .request (.advise
        { ref := val4 r3 r2 r1 r0, kind := kind, cls := cls, upsize := up, plan := plan
          prepaid := val3 p2 p1 p0, route := route, code := val4 c3 c2 c1 c0 })
    | _ => .malformed
  | 0x21 => read4 .withdraw f
  | 0x22 =>
    match f with
    | [r3, r2, r1, r0, c3, c2, c1, c0] => .request (.reissue (val4 r3 r2 r1 r0) (val4 c3 c2 c1 c0))
    | _ => .malformed
  | 0x23 =>
    match f with
    | [c3, c2, c1, c0, route, d, w] => .request (.enrolCourier (val4 c3 c2 c1 c0) route d w)
    | _ => .malformed
  | 0x24 => read1 .revokeCourier f
  | 0x25 =>
    match f with
    | [m3, m2, m1, m0, sec] => .request (.timeSet (val4 m3 m2 m1 m0) sec)
    | _ => .malformed
  | 0x26 => read4 .retire f
  | 0x27 => read1 .bar f
  | 0x28 => read1 .unbar f
  | 0x29 => read1 .maintEnter f
  | 0x2A => read1 .maintExit f
  | 0x2B => read1 .maintTestPulse f
  | 0x2C => read1 .maintTrace f
  | 0x2D => read0 .enumerate f
  | 0x2E => read0 .clearIntegrity f
  | 0x2F => read0 .snapshot f
  | 0x30 =>
    match f with
    | [a, b, c, d, e, g, h, i, j, k, l, m] => .request (.mask #v[a, b, c, d, e, g, h, i, j, k, l, m])
    | _ => .malformed
  | 0x31 => read0 .drillStep f
  | 0x32 =>
    match f with
    | [t, i1, i0, m] => .request (.cursor t (val2 i1 i0) m)
    | _ => .malformed
  | 0x33 => read0 .read f
  | 0x34 => readWrite table f
  | 0x35 =>
    match readPairs f with
    | some (p :: ps) => .request (.configSet (p :: ps))
    | _ => .malformed
  | 0x36 => read0 .configGet f
  | 0x37 => read0 .hold f
  | 0x38 => read0 .unhold f
  | 0x39 =>
    match f with
    | [a, b] => .request (.clearStranded (val2 a b))
    | _ => .malformed
  | 0x3A =>
    match f with
    | [a, b] => .request (.clearQuarantine (val2 a b))
    | _ => .malformed
  | 0x3B => read0 .restartEngines f
  | 0x3C => read0 .resetAll f
  | _ => .unknownKind

/-- The reading of a body of a class, given the cursor's table: R178's kind check, then R218's length check (DESIGN
CHOICE, assumption log 3). -/
def readBody (table : TableId) (cls : FrameClass) : List Byte → Parsed
  | [] => .malformed
  | kind :: f =>
    match cls with
    | .request => readRequestClass kind f
    | .mgmt => readMgmtClass table kind f

end Wire

end Sys2Proof
end

