-- ==== Sys2Proof/Machine/Types.lean ====
section
/-! DEFINITION. The pieces of state of the part, block by block (00_scope.md, Block overview): the enumerated values,
the table entries and each block's own record. `Machine/State.lean` puts them together. -/

namespace Sys2Proof.Machine

/-! ### Compartment manager (chapter 1) -/

/-- Compartment states (1.2). -/
inductive CompState where
  | unfitted | vacant | held | loading | loaded | releasing | sweeping | barred | maint
  deriving DecidableEq, Repr

/-- Door phase: progress of the opening under way (R1). -/
inductive DoorPhase where
  | none | awaitGrant | awaitOpen | opened
  deriving DecidableEq, Repr

/-- Why a compartment is out of service (R1). -/
inductive BarCause where
  | management | tamper | lockFault | sensor | integrity | mapMismatch
  deriving DecidableEq, Repr

/-- Where a compartment is on the column bus (R1). -/
structure MapPlace where
  col : Col
  pos : Pos
  deriving DecidableEq, Repr

/-- A compartment entry; its number is its index (R1). -/
structure Compartment where
  place : Option MapPlace
  cls : SizeClass
  state : CompState
  phase : DoorPhase
  door : DoorState
  occ : Occupancy
  link : Option Slot
  cause : Option BarCause
  pendingBar : Bool
  attempts : Fin 3
  suspect : Bool
  check : Byte
  deriving DecidableEq, Repr

/-- The state a MAINT compartment came from (R17). -/
inductive MaintFrom where
  | vacant | barred
  deriving DecidableEq, Repr

/-- The maintenance-loop slot when it holds a compartment (R17). -/
structure MaintSlot where
  comp : CompNo
  origin : MaintFrom
  deriving DecidableEq, Repr

/-- The four free lists, head first (R5). -/
structure FreeLists where
  small : List CompNo
  medium : List CompNo
  large : List CompNo
  bulky : List CompNo
  deriving DecidableEq, Repr

/-! ### Credential unit (chapter 2) -/

/-- What a COURIER entry carries and a sign-on copies: number, route, permissions (R22, R30). -/
structure CourierInfo where
  number : CourierNo
  route : Route
  deposit : Bool
  sweep : Bool
  deriving DecidableEq, Repr

/-- Kind of a credential entry, with the fields present for it (R22). -/
inductive CredKind where
  | pickup (slot : Slot)
  | returnAuth (slot : Slot)
  | courier (info : CourierInfo)
  deriving DecidableEq, Repr

/-- A used way of the credential table (R22). -/
structure Credential where
  kind : CredKind
  code : CodeValue
  check : Byte
  deriving DecidableEq, Repr

/-- Mode of a terminal context; the courier's number, route and permissions are present in COURIER mode (R30). -/
inductive TermMode where
  | idle
  | customer
  | courier (info : CourierInfo)
  deriving DecidableEq, Repr

/-- A terminal context (R30). The inactivity timer holds the seconds left; whether it runs or stands follows from
the mode, the open job and the link state (R35). -/
structure TermContext where
  mode : TermMode
  signOffPending : Bool
  openJob : Option Slot
  lastQuoteLapsed : Bool
  failed : Nat
  lockLevel : Nat
  lockRemaining : Nat
  inactivity : Nat
  deriving DecidableEq, Repr

/-- The credential unit. -/
structure CredentialUnit where
  ways : Vector (Option Credential) 512
  terms : Vector TermContext 4
  deriving DecidableEq, Repr

/-! ### Parcel store (chapter 3) -/

/-- States of a live record (3.1), in the order of the state table. -/
inductive ParcelState where
  | advised | depositing | stored | quoting | due | releasing | untaken | returnQueued | sweeping
  | stranded | quarantined
  deriving DecidableEq, Repr

/-- A record's quote (R41, R85). -/
structure Quote where
  fee : Amount
  owed : Amount
  clamped : Bool
  minute : Minute
  endMinute : Minute
  endSecond : Fin 60
  terminal : Term
  deriving DecidableEq, Repr

/-- A parcel record (R41). -/
structure Parcel where
  ref : Reference
  kind : ParcelKind
  state : ParcelState
  cls : SizeClass
  upsize : Bool
  plan : PlanNo
  prepaid : Amount
  route : Route
  comp : Option CompNo
  arrival : Option Minute
  quote : Option Quote
  tendered : Amount
  change : Amount
  suspect : Bool
  check : Byte
  deriving DecidableEq, Repr

/-- The parcel store: the slots and the free-slot list (R41, R44). -/
structure ParcelStore where
  slots : Vector (Option Parcel) 384
  free : List Slot
  deriving DecidableEq, Repr

/-- An open-deposit marker that is not empty (R50). -/
structure DepositMarker where
  slot : Slot
  comp : CompNo
  deriving DecidableEq, Repr

/-- The deposit engine, and the mark that a job compartment was resumed at a start (R50, R61, R100, R121). -/
structure DepositEngine where
  markers : Vector (Option DepositMarker) 4
  resumed : Vector Bool 240
  deriving DecidableEq, Repr

/-! ### Time base and charge engine (chapter 4) -/

/-- The time base (R62). -/
structure TimeBase where
  minute : Minute
  seconds : Fin 60
  clockSet : Bool
  deriving DecidableEq, Repr

/-- A tariff plan; rates and day caps by size class, SMALL first (R65). -/
structure Plan where
  free : Nat
  block : Nat
  rates : Vector Amount 4
  caps : Vector (Option Amount) 4
  peak : Bool
  expiry : Nat
  window : Nat
  deriving DecidableEq, Repr

/-- A peak window (R67). -/
structure PeakWindow where
  first : Nat
  last : Nat
  multiplier : Nat
  deriving DecidableEq, Repr

/-- An entry of the computation queue, with the tag of the COLLECT it answers (R74, R179). -/
structure QueuedCharge where
  terminal : Term
  slot : Slot
  tag : Byte
  deriving DecidableEq, Repr

/-- The snapshot of the computation in progress (R69). -/
structure Snapshot where
  plan : Plan
  peaks : Vector PeakWindow 4
  cls : SizeClass
  arrival : Option Minute
  slot : Slot
  prepaid : Amount
  quoteMinute : Minute
  deriving DecidableEq, Repr

/-- The charge engine: tariff and peak tables, the computation queue, and the snapshot of the head when its
computation has started (R65, R67, R74). -/
structure ChargeEngine where
  plans : Vector Plan 8
  peaks : Vector PeakWindow 4
  queue : List QueuedCharge
  running : Option Snapshot
  deriving DecidableEq, Repr

/-! ### Collection engine (chapter 5) -/

/-- The reply kept for a repeated tender (R79, R90). -/
inductive TenderReply where
  | part (remaining : Amount)
  | settled (change : Amount) (comp : CompNo)
  deriving DecidableEq, Repr

/-- The last tender taken in a quote: its reference and its reply (R79). -/
structure LastTender where
  tref : BitVec 32
  reply : TenderReply
  deriving DecidableEq, Repr

/-- A quote context; each phase carries the fields present in it (R79). -/
inductive QuoteContext where
  | none
  | quoting (slot : Slot)
  | due (slot : Slot) (window : Nat) (last : Option LastTender)
  | releasing (slot : Slot) (last : Option LastTender)
  | void (slot : Slot)
  deriving DecidableEq, Repr

/-- An entry of the re-open list (R80). -/
structure ReopenEntry where
  slot : Slot
  left : Nat
  deriving DecidableEq, Repr

/-- The collection engine. -/
structure CollectionEngine where
  contexts : Vector QuoteContext 4
  reopen : List ReopenEntry
  deriving DecidableEq, Repr

/-! ### Return engine (chapter 6) -/

/-- Why a sweep stopped (R109). -/
inductive SweepEnd where
  | tail | stop | signOff | hold
  deriving DecidableEq, Repr

/-- Phase of a sweep that is under way (R109). -/
inductive SweepPhase where
  | walking | stopping
  deriving DecidableEq, Repr

/-- The sweep context when its phase is not NONE (R109). -/
structure Sweep where
  phase : SweepPhase
  terminal : Term
  courier : CourierNo
  route : Route
  cursor : Nat
  current : Option Slot
  taken : BitVec 16
  skipped : BitVec 16
  failed : BitVec 16
  cause : Option SweepEnd
  deriving DecidableEq, Repr

/-- The expiry scanner (R101). -/
structure Scanner where
  scanning : Bool
  minute : Minute
  cursor : Slot
  due : Bool
  deriving DecidableEq, Repr

/-- The return engine: the return queue, head first, the sweep context and the expiry scanner. -/
structure ReturnEngine where
  queue : List Slot
  sweep : Option Sweep
  scanner : Scanner
  deriving DecidableEq, Repr

/-! ### Lock grant arbiter (7.7) -/

/-- Grant classes, highest first (R140). -/
inductive GrantClass where
  | collect | deposit | sweep | maint
  deriving DecidableEq, Repr

/-- An entry of the waiting list. The asker follows from the class (7.7) (DESIGN CHOICE, assumption log 29). -/
structure GrantRequest where
  comp : CompNo
  col : Col
  cls : GrantClass
  age : Nat
  deriving DecidableEq, Repr

/-- Stage of a granted pulse; in flight it carries the length its pulse timer started at, in ms (R139, R143) (DESIGN
CHOICE, assumption log 11). -/
inductive PulseStage where
  | sent
  | inFlight (length : Nat)
  deriving DecidableEq, Repr

/-- A member of the committed set (R139), with the class and age its request rejoins at (R144). -/
structure Committed where
  comp : CompNo
  col : Col
  cls : GrantClass
  age : Nat
  stage : PulseStage
  deriving DecidableEq, Repr

/-- The arbiter: waiting list in order of age, committed set, next age to give, restart guard in ms (none when it has
elapsed), hold active (R139). -/
structure Arbiter where
  waiting : List GrantRequest
  committed : List Committed
  nextAge : Nat
  guard : Option Nat
  holdActive : Bool
  deriving DecidableEq, Repr

/-! ### Column bus controller (7.1 to 7.6) -/

/-- Column states (R122). -/
inductive ColumnState where
  | unknown | present | asleep | absent
  deriving DecidableEq, Repr

/-- A column entry; the relay permissions stand in the configuration record (R122, R123). -/
structure ColumnEntry where
  state : ColumnState
  count : Fin 21
  pollDue : Bool
  probeDue : Bool
  deriving DecidableEq, Repr

/-- The broadcasts (R131). -/
inductive Broadcast where
  | holdAll | sleepAll | wakeAll
  deriving DecidableEq, Repr

/-- An operation of the column bus (R131). A PULSE and a TRACE_READ name the compartment they are for; a RELAY keeps
the tag and origin of its request (R179); a PROBE says whether an enumeration made it (R129). -/
inductive Op where
  | broadcast (b : Broadcast)
  | pulse (comp : CompNo) (col : Col) (pos : Pos) (length : Nat)
  | traceRead (comp : CompNo) (col : Col)
  | relay (col : Col) (kind : RelayKind) (message : List Byte) (tag origin : Byte)
  | poll (col : Col)
  | probe (col : Col) (enumerating : Bool)
  deriving DecidableEq, Repr

/-- An operation in its exchange: its busy and silence counts, whether it has met a WAKE, and whether a hold onset
has called its PULSE back (R124 to R126, R148). -/
structure Exchange where
  op : Op
  busy : Nat
  silence : Nat
  woke : Bool
  recalled : Bool
  deriving DecidableEq, Repr

/-- What an operation between two attempts waits for (R124 to R126) (DESIGN CHOICE, assumption log 11). -/
inductive RetryWait where
  | ready
  | afterBusy (ms : Nat)
  | afterWake (ms : Nat)
  deriving DecidableEq, Repr

/-- What is on the bus (R132). -/
inductive BusUse where
  | free
  | attempt (x : Exchange)
  | sending (b : Broadcast)
  deriving DecidableEq, Repr

/-- An operation that keeps the bus between two attempts (R132). -/
structure Retry where
  exchange : Exchange
  wait : RetryWait
  deriving DecidableEq, Repr

/-- An enumeration under way: the columns it has still to probe, and the request it answers, if any (R129). -/
structure Enumeration where
  todo : List Col
  reply : Option (Byte × Byte)
  deriving DecidableEq, Repr

/-- The column bus controller: column table, operation queue and overflow, what is on the bus, the operation in a
retry wait, the enumeration, the returning columns owed a POLL in the order of their answers, and the timers of poll
rounds and probe marks in ms. -/
structure ColumnBus where
  columns : Vector ColumnEntry 12
  queue : List Op
  overflow : List Op
  use : BusUse
  retry : Option Retry
  enumeration : Option Enumeration
  returning : List Col
  roundTimer : Nat
  probeTimer : Nat
  deriving DecidableEq, Repr

/-- Dormancy states (R209). -/
inductive DormancyState where
  | awake | dormant | waking
  deriving DecidableEq, Repr

/-- Dormancy: the state, the wake settle interval while it runs, the columns of the wake round whose POLL has not
ended, and the idle timer in seconds (R209, R211). -/
structure Dormancy where
  state : DormancyState
  settling : Option Nat
  wakeRound : Option (List Col)
  idle : Nat
  deriving DecidableEq, Repr

/-! ### Door supervisor (chapter 8) -/

/-- How a compartment's last delivered pulse ended (R151). -/
inductive PulseEnd where
  | none | elapsed | cut
  deriving DecidableEq, Repr

/-- A trace read owed to a compartment (R151). -/
inductive TraceStep where
  | none | atPulseEnd | queued
  deriving DecidableEq, Repr

/-- Kind of an open limit (R151). -/
inductive LimitKind where
  | deposit | release
  deriving DecidableEq, Repr

/-- An open limit that is not stopped: kind and ms left (R151). -/
structure OpenLimit where
  kind : LimitKind
  left : Nat
  deriving DecidableEq, Repr

/-- A close held for re-polls (R151, R164). -/
structure HeldClose where
  minute : Minute
  repolls : Fin 4
  deriving DecidableEq, Repr

/-- A door record. A timer is absent when stopped; whether it runs or stands follows from its column's state and
first-poll marker, and for an open limit from R159 (DESIGN CHOICE, assumption log 11; DESIGN CHOICE, assumption log
29). -/
structure DoorRecord where
  confirm : Option Nat
  pulseEnd : PulseEnd
  traceStep : TraceStep
  readFailed : Bool
  openLimit : Option OpenLimit
  heldClose : Option HeldClose
  ajar : Option Nat
  openSeconds : BitVec 16
  deriving DecidableEq, Repr

/-- Classes of a bolt trace (R161). -/
inductive TraceClass where
  | coilFault | boltStuck | boltMoved | boltSlow
  deriving DecidableEq, Repr

/-- A column's last trace (R163). -/
structure LastTrace where
  comp : CompNo
  pos : Pos
  pulseEnd : PulseEnd
  edges : List Edge
  failed : Bool
  cls : TraceClass
  minute : Minute
  deriving DecidableEq, Repr

/-- The door supervisor (R151). -/
structure DoorSupervisor where
  records : Vector DoorRecord 240
  lastTrace : Vector (Option LastTrace) 12
  firstPoll : Vector Bool 12
  deriving DecidableEq, Repr

/-! ### Kiosk link (chapter 9) -/

/-- Receiver phases (R169). -/
inductive RxPhase where
  | hunting | collecting
  deriving DecidableEq, Repr

/-- Link states (R172). -/
inductive LinkState where
  | down | up | lost
  deriving DecidableEq, Repr

/-- An entry of the request FIFO (R176). -/
structure FifoEntry where
  cls : FrameClass
  tag : Byte
  origin : Byte
  body : List Byte
  deriving DecidableEq, Repr

/-- A reply in the reply queue: the tag and origin it carries and its body (R179, R215). -/
structure Reply where
  tag : Byte
  origin : Byte
  body : List Byte
  deriving DecidableEq, Repr

/-- What the transmitter sends, with the octets of the frame on the line (R180, R213). -/
inductive Transmission where
  | idle
  | reply (octets : List Byte)
  | notice (octets : List Byte)
  deriving DecidableEq, Repr

/-- The link interface. `again` holds the octets of the frame buffer that are still to be searched in the taking under
way (R169). While a reply is transmitted it stands at the head of the reply queue. -/
structure LinkInterface where
  phase : RxPhase
  buffer : List Byte
  again : List Byte
  silence : Nat
  state : LinkState
  goodRun : Fin 3
  discardRun : Fin 4
  fifo : List FifoEntry
  replies : List Reply
  reserved : Nat
  tx : Transmission
  deriving DecidableEq, Repr

/-! ### Notice unit and counter bank (chapter 10) -/

/-- The twelve notice classes in order of priority (R182). -/
inductive NoticeClass where
  | tamper | integrity | lockFault | column | doorAjar | hold | deposit | collected | ret | sweepEnd | link | drill
  deriving DecidableEq, Repr

/-- Kind of a TAMPER notice (R182). -/
inductive TamperKind where
  | loadedOpened | vacantOpened
  deriving DecidableEq, Repr

/-- Tables an INTEGRITY notice names (R182). -/
inductive CheckedTable where
  | compartment | parcel | credential
  deriving DecidableEq, Repr

/-- What a COLUMN notice says (R182). -/
inductive ColumnNews where
  | absent | returned | mapMismatch
  deriving DecidableEq, Repr

/-- Source of a HOLD notice (R148). -/
inductive HoldSource where
  | line | office
  deriving DecidableEq, Repr

/-- Outcome of a DEPOSIT notice (R217). -/
inductive DepositOutcome where
  | stored | abandoned | notOpened | lockFault | barred | integrity
  deriving DecidableEq, Repr

/-- Outcome of a COLLECTED notice (R217). -/
inductive CollectOutcome where
  | taken | untaken | notOpened | lockFault | barred
  deriving DecidableEq, Repr

/-- What a RETURN notice says (R217). -/
inductive ReturnNews where
  | queued | swept
  deriving DecidableEq, Repr

/-- The start kinds (11.4). -/
inductive StartKind where
  | cold | warm | engine
  deriving DecidableEq, Repr

/-- What a LINK notice says (R217). -/
inductive LinkNews where
  | up
  | start (k : StartKind)
  deriving DecidableEq, Repr

/-- The detail of a notice (R182, R217). A drill names compartment 255 and column 0, so both are octets here. -/
inductive NoticeBody where
  | tamper (comp : Byte) (kind : TamperKind)
  | integrity (table : CheckedTable) (index : BitVec 16)
  | lockFault (comp : Byte) (cls : TraceClass) (ref : Reference)
  | column (address : Byte) (news : ColumnNews)
  | doorAjar (comp : Byte) (seconds : BitVec 16)
  | hold (on : Bool) (source : HoldSource)
  | deposit (ref : Reference) (comp : Byte) (outcome : DepositOutcome) (arrival : Option Minute)
  | collected (ref : Reference) (comp : Byte) (outcome : CollectOutcome)
  | ret (ref : Reference) (news : ReturnNews)
  | sweepEnd (courier : CourierNo) (route : Route) (taken skipped failed : BitVec 16) (cause : SweepEnd)
  | link (news : LinkNews)
  | drill (step : Byte)
  deriving DecidableEq, Repr

/-- A queued detail with its markers (R182, R184, R196). -/
structure Detail where
  body : NoticeBody
  more : Bool
  drill : Bool
  sensor : Bool
  deriving DecidableEq, Repr

/-- A notice class's own state: pending flag, mask, and detail queue, oldest first (R183). -/
structure ClassQueue where
  pending : Bool
  masked : Bool
  details : List Detail
  deriving DecidableEq, Repr

/-- The notice unit. The on-line reference names the class of the detail being sent; its place is always the head
(R183, R185). -/
structure NoticeUnit where
  classes : Vector ClassQueue 12
  onLine : Option NoticeClass
  drillStep : Fin 8
  deriving DecidableEq, Repr

/-- The counter bank: live set and snapshot set (R187). -/
structure CounterBank where
  live : Vector (BitVec 16) 62
  snap : Vector (BitVec 16) 62
  deriving DecidableEq, Repr

/-- The record checker: scrubber cursor, the scrubber's timer in ms, global integrity flag (R191, R195). -/
structure RecordChecker where
  cursor : Fin 1136
  timer : Nat
  flag : Bool
  deriving DecidableEq, Repr

/-! ### Management unit (chapter 11) -/

/-- The table cursor (R198). -/
structure TableCursor where
  table : TableId
  index : Nat
  mode : StepMode
  deriving DecidableEq, Repr

/-- Relay permissions of one column (R122). -/
structure RelayPermissions where
  lamp : Bool
  text : Bool
  chime : Bool
  deriving DecidableEq, Repr

/-- The configuration record (R201). -/
structure ConfigRecord where
  inactivity : Nat
  depositOpen : Nat
  releaseOpen : Nat
  reopen : Nat
  expiryScan : Bool
  pollInterval : Nat
  wakeSettle : Nat
  pulseBudget : Nat
  pulseLength : Nat
  confirm : Nat
  ajar : Nat
  windowMin : Nat
  windowMax : Nat
  silence : Nat
  scrubber : Bool
  idle : Nat
  relay : Vector RelayPermissions 12
  hold : Bool
  deriving DecidableEq, Repr

/-- The reset-cause record (R208). -/
structure ResetCause where
  last : StartKind
  warm : Fin 256
  engine : Fin 256
  deriving DecidableEq, Repr

/-- The management unit. -/
structure ManagementUnit where
  cursor : TableCursor
  config : ConfigRecord
  resetCause : ResetCause
  retentionIntact : Bool
  deriving DecidableEq, Repr

/-- The lines and supplies as the part senses them: hold line, reset line, main supply. -/
structure Lines where
  hold : Bool
  reset : Bool
  power : Bool
  deriving DecidableEq, Repr

end Sys2Proof.Machine
end

