-- ==== Sys2Proof/Machine/Octets.lean ====
section
/-! DEFINITION. The octet of each enumerated value, its place in the list that defines it (R213), and the check bytes
of the three checked tables (R190). -/

namespace Sys2Proof.Machine

open Sys2Proof.Wire

/-! ### Enumerated values (R213): the place in the list where the field is defined, from 00h -/

/-- R41. -/
def kindCode : ParcelKind → Byte
  | .delivery => 0
  | .ret => 1

/-- 00_scope.md: SMALL is 00h and BULKY 03h. -/
def classCode : SizeClass → Byte
  | .small => 0
  | .medium => 1
  | .large => 2
  | .bulky => 3

/-- R1, R135. -/
def doorCode : DoorState → Byte
  | .closed => 0
  | .opened => 1

/-- R1, R135. -/
def occupancyCode : Occupancy → Byte
  | .empty => 0
  | .filled => 1
  | .uncertain => 2

/-- R160. -/
def edgeCode : EdgeDir → Byte
  | .rise => 0
  | .fall => 1

/-- R1. -/
def compStateCode : CompState → Byte
  | .unfitted => 0
  | .vacant => 1
  | .held => 2
  | .loading => 3
  | .loaded => 4
  | .releasing => 5
  | .sweeping => 6
  | .barred => 7
  | .maint => 8

/-- R1. -/
def phaseCode : DoorPhase → Byte
  | .none => 0
  | .awaitGrant => 1
  | .awaitOpen => 2
  | .opened => 3

/-- R1. -/
def causeCode : BarCause → Byte
  | .management => 0
  | .tamper => 1
  | .lockFault => 2
  | .sensor => 3
  | .integrity => 4
  | .mapMismatch => 5

/-- The state table of 3.1. -/
def parcelStateCode : ParcelState → Byte
  | .advised => 0
  | .depositing => 1
  | .stored => 2
  | .quoting => 3
  | .due => 4
  | .releasing => 5
  | .untaken => 6
  | .returnQueued => 7
  | .sweeping => 8
  | .stranded => 9
  | .quarantined => 10

/-- R122. -/
def columnStateCode : ColumnState → Byte
  | .unknown => 0
  | .present => 1
  | .asleep => 2
  | .absent => 3

/-- 12.1: the trace classes run COIL_FAULT 00h, BOLT_STUCK 01h, BOLT_MOVED 02h, BOLT_SLOW 03h. -/
def traceClassCode : TraceClass → Byte
  | .coilFault => 0
  | .boltStuck => 1
  | .boltMoved => 2
  | .boltSlow => 3

/-- R206: the start kinds COLD, WARM, ENGINE. -/
def startCode : StartKind → Byte
  | .cold => 0
  | .warm => 1
  | .engine => 2

/-- R209. -/
def dormancyCode : DormancyState → Byte
  | .awake => 0
  | .dormant => 1
  | .waking => 2

/-! ### Octets of composite fields -/

/-- A map value: 00h alone for unfitted, or 01h, column and position; the column as its address (R213). -/
def placeOctets : Option MapPlace → List Byte :=
  optional (fun p => num1 (p.col.val + 1) ++ num1 p.pos.val)

/-- A quote: fee, owed, clamp marker, quote minute, window end, terminal (R41). -/
def quoteOctets (q : Quote) : List Byte :=
  num3 q.fee ++ num3 q.owed ++ flag q.clamped ++ oct4 q.minute ++ oct4 q.endMinute ++ num1 q.endSecond.val
    ++ num1 q.terminal.val

/-! ### Check bytes (R190): table number, index in two octets, then every field but the check byte in table order -/

/-- The octets a compartment entry's check byte is computed over (DEDUCED, assumption log 23). -/
def compartmentSeries (n : CompNo) (c : Compartment) : List Byte :=
  0x01#8 :: num2 n.val ++ num1 n.val ++ placeOctets c.place ++ [classCode c.cls, compStateCode c.state, phaseCode c.phase,
    doorCode c.door, occupancyCode c.occ] ++ optional (fun k : Slot => num2 k.val) c.link
    ++ optional (fun k => [causeCode k]) c.cause ++ flag c.pendingBar ++ num1 c.attempts.val ++ flag c.suspect

/-- The octets a parcel record's check byte is computed over (DEDUCED, assumption log 23). -/
def parcelSeries (k : Slot) (p : Parcel) : List Byte :=
  0x02#8 :: num2 k.val ++ oct4 p.ref ++ [kindCode p.kind, parcelStateCode p.state, classCode p.cls] ++ flag p.upsize
    ++ num1 p.plan.val ++ num3 p.prepaid ++ num1 p.route.val ++ optional (fun n : CompNo => num1 n.val) p.comp
    ++ optional oct4 p.arrival ++ optional quoteOctets p.quote ++ num3 p.tendered ++ num3 p.change ++ flag p.suspect

/-- The fields of R22 that a kind of credential has; a field not present for the kind is absent. -/
def credKindOctets : CredKind → CodeValue → List Byte
  | .pickup k, code => 0x00#8 :: oct4 code ++ 0x01#8 :: num2 k.val ++ [0, 0, 0, 0]
  | .returnAuth k, code => 0x01#8 :: oct4 code ++ 0x01#8 :: num2 k.val ++ [0, 0, 0, 0]
  | .courier i, code =>
    0x02#8 :: oct4 code ++ 0x00#8 :: 0x01#8 :: num1 i.number.val ++ 0x01#8 :: num1 i.route.val
      ++ 0x01#8 :: flag i.deposit ++ 0x01#8 :: flag i.sweep

/-- The octets a credential entry's check byte is computed over (DEDUCED, assumption log 23). -/
def credentialSeries (w : Way) (c : Credential) : List Byte :=
  0x03#8 :: num2 w.val ++ credKindOctets c.kind c.code

/-- The check byte of a compartment entry as stored. -/
def compartmentCheck (n : CompNo) (c : Compartment) : Byte := crc8 (compartmentSeries n c)

/-- The check byte of a parcel record as stored. -/
def parcelCheck (k : Slot) (p : Parcel) : Byte := crc8 (parcelSeries k p)

/-- The check byte of a credential entry as stored. -/
def credentialCheck (w : Way) (c : Credential) : Byte := crc8 (credentialSeries w c)

/-- The entry with a fresh check byte: how a block writes it (R190). -/
def sealCompartment (n : CompNo) (c : Compartment) : Compartment := { c with check := compartmentCheck n c }

/-- The record with a fresh check byte (R190). -/
def sealParcel (k : Slot) (p : Parcel) : Parcel := { p with check := parcelCheck k p }

/-- The credential with a fresh check byte (R190). -/
def sealCredential (w : Way) (c : Credential) : Credential := { c with check := credentialCheck w c }

/-- The check byte agrees with the entry: no check failure (R190). -/
def compartmentOk (n : CompNo) (c : Compartment) : Bool := c.check == compartmentCheck n c

/-- The check byte agrees with the record (R190). -/
def parcelOk (k : Slot) (p : Parcel) : Bool := p.check == parcelCheck k p

/-- The check byte agrees with the credential (R190). -/
def credentialOk (w : Way) (c : Credential) : Bool := c.check == credentialCheck w c

/-! ### Tables -/

/-- The table whose entry at each index is `f` of the index. -/
def table {α : Type} (n : Nat) (f : Fin n → α) : Vector α n := ⟨((List.finRange n).map f).toArray, by simp⟩

end Sys2Proof.Machine
end

