-- ==== Sys2Proof/Machine/ColdStart.lean ====
section
/-! DEFINITION. The cold-start value of every block, as the rule that defines it gives it. -/

namespace Sys2Proof.Machine.Cold

open Sys2Proof.Machine

/-- R2. -/
def compartment (n : CompNo) : Compartment :=
  sealCompartment n
    { place := none, cls := .small, state := .unfitted, phase := .none, door := .closed, occ := .empty
      link := none, cause := none, pendingBar := false, attempts := 0, suspect := false, check := 0 }

/-- R2. -/
def compartments : Vector Compartment 240 := table 240 compartment

/-- R5: all four lists empty. -/
def freeLists : FreeLists := { small := [], medium := [], large := [], bulky := [] }

/-- R30. The inactivity timer stands; the seconds it stands at are not given: 0 (assumption log 10). -/
def term : TermContext :=
  { mode := .idle, signOffPending := false, openJob := none, lastQuoteLapsed := false, failed := 0, lockLevel := 0
    lockRemaining := 0, inactivity := 0 }

/-- R23, R30. -/
def credentials : CredentialUnit := { ways := Vector.replicate 512 none, terms := Vector.replicate 4 term }

/-- R42. -/
def parcels : ParcelStore := { slots := Vector.replicate 384 none, free := List.finRange 384 }

/-- R50. -/
def deposit : DepositEngine := { markers := Vector.replicate 4 none, resumed := Vector.replicate 240 false }

/-- R62. -/
def time : TimeBase := { minute := 0, seconds := 0, clockSet := false }

/-- R65. -/
def plan : Plan :=
  { free := 240, block := 60, rates := Vector.replicate 4 0, caps := Vector.replicate 4 none, peak := false
    expiry := 10080, window := 180 }

/-- R67. -/
def peak : PeakWindow := { first := 0, last := 0, multiplier := 100 }

/-- R65, R67, R74. -/
def charge : ChargeEngine :=
  { plans := Vector.replicate 8 plan, peaks := Vector.replicate 4 peak, queue := [], running := none }

/-- R79, R80. -/
def collection : CollectionEngine := { contexts := Vector.replicate 4 .none, reopen := [] }

/-- R101. -/
def scanner : Scanner := { scanning := false, minute := 0, cursor := 0, due := false }

/-- R101, R105, R109. -/
def returns : ReturnEngine := { queue := [], sweep := none, scanner := scanner }

/-- R139; hold active follows the hold line and the hold request flag at the start. -/
def arbiter (holdActive : Bool) : Arbiter :=
  { waiting := [], committed := [], nextAge := 0, guard := none, holdActive := holdActive }

/-- R123. -/
def column : ColumnEntry := { state := .unknown, count := 0, pollDue := false, probeDue := false }

/-- R151. -/
def doorRecord : DoorRecord :=
  { confirm := none, pulseEnd := .none, traceStep := .none, readFailed := false, openLimit := none
    heldClose := none, ajar := none, openSeconds := 0 }

/-- R151. -/
def doors : DoorSupervisor :=
  { records := Vector.replicate 240 doorRecord, lastTrace := Vector.replicate 12 none
    firstPoll := Vector.replicate 12 true }

/-- R183. -/
def classQueue : ClassQueue := { pending := false, masked := false, details := [] }

/-- R183. -/
def notices : NoticeUnit := { classes := Vector.replicate 12 classQueue, onLine := none, drillStep := 0 }

/-- R187. -/
def counters : CounterBank := { live := Vector.replicate 62 0, snap := Vector.replicate 62 0 }

/-- R191, R195. -/
def checker : RecordChecker := { cursor := 0, timer := Config.scrubPeriod, flag := false }

/-- R198. -/
def cursor : TableCursor := { table := .tariff, index := 0, mode := .hold }

/-- R201. -/
def config : ConfigRecord :=
  { inactivity := 600, depositOpen := 60, releaseOpen := 30, reopen := 600, expiryScan := true, pollInterval := 200
    wakeSettle := 400, pulseBudget := 2, pulseLength := 300, confirm := 1500, ajar := 120, windowMin := 20
    windowMax := 120, silence := 3, scrubber := true, idle := 0
    relay := Vector.replicate 12 { lamp := true, text := true, chime := true }, hold := false }

/-- R208. -/
def resetCause : ResetCause := { last := .cold, warm := 0, engine := 0 }

/-- R198, R201, R206, R208: the marker is set at the end of the cold start. -/
def management : ManagementUnit :=
  { cursor := cursor, config := config, resetCause := resetCause, retentionIntact := true }

/-- R169, R171, R172, R175, R176, with the silence timer at the configured silence limit. -/
def link (silenceLimit : Nat) : LinkInterface :=
  { phase := .hunting, buffer := [], again := [], silence := silenceLimit * 1000, state := .down, goodRun := 0, discardRun := 0
    fifo := [], replies := [], reserved := 0, tx := .idle }

/-- R131, R134: the queues empty and the bus free; the timers at their first marks. An attempt or a broadcast on the bus as
the start is taken is dropped (DESIGN CHOICE, assumption log 45). -/
def bus (columns : Vector ColumnEntry 12) (pollInterval : Nat) : ColumnBus :=
  { columns := columns, queue := [], overflow := [], use := .free, retry := none, enumeration := none
    returning := [], roundTimer := pollInterval, probeTimer := Config.probePeriod }

/-- R209. -/
def dormancy (idle : Nat) : Dormancy := { state := .awake, settling := none, wakeRound := none, idle := idle }

end Sys2Proof.Machine.Cold
end

