-- ==== Sys2Proof/Machine/State.lean ====
section
/-! DEFINITION. The machine's state: every block's state, the lines the part senses, and the queue of the commands
that wait; why a step can stop; and the state right after a cold start. -/

namespace Sys2Proof.Machine

/-- Why a step faults. No command of this block faults: the reference gives every command an effect in every state,
or none at all. -/
inductive Fault where
  deriving DecidableEq, Repr

/-- Why a step is refused. -/
inductive Refusal where
  /-- A command that has no meaning yet, by its mnemonic: raised by `exec` alone; no command is left so. Safe: the
  machine stops. -/
  | notModelled (mnemonic : String)
  deriving DecidableEq, Repr

end Sys2Proof.Machine

namespace Sys2Proof.Machine

/-- The whole state of the part. -/
structure State where
  /-- Link interface (chapter 9). -/
  link : LinkInterface
  /-- Credential unit (chapter 2). -/
  creds : CredentialUnit
  /-- Compartment table (R1). -/
  comps : Vector Compartment 240
  /-- Free lists (R5). -/
  freeLists : FreeLists
  /-- Maintenance-loop slot (R17). -/
  maintSlot : Option MaintSlot
  /-- Parcel store (R41, R44). -/
  parcels : ParcelStore
  /-- Deposit engine (R50, R61). -/
  deposit : DepositEngine
  /-- Time base (R62). -/
  time : TimeBase
  /-- Charge engine (chapter 4). -/
  charge : ChargeEngine
  /-- Collection engine (R79, R80). -/
  collection : CollectionEngine
  /-- Return engine (chapter 6). -/
  returns : ReturnEngine
  /-- Lock grant arbiter (R139). -/
  arbiter : Arbiter
  /-- Column bus controller (R122, R131). -/
  bus : ColumnBus
  /-- Dormancy (R209). -/
  dormancy : Dormancy
  /-- Door supervisor (R151). -/
  doors : DoorSupervisor
  /-- Notice unit (R183). -/
  notices : NoticeUnit
  /-- Counter bank (R187). -/
  counters : CounterBank
  /-- Record checker (R191, R195). -/
  checker : RecordChecker
  /-- Management unit (chapter 11). -/
  mgmt : ManagementUnit
  /-- Hold line, reset line and main supply as sensed. -/
  lines : Lines
  /-- The commands that wait, first in, first out: the model's own field. -/
  pending : List Instr
  deriving DecidableEq, Repr

/-- The machine right after reset: the taking of a cold start is over (R207). Every item holds its cold-start value,
LINK(COLD) is raised, every column is marked for the enumeration, and its first PROBE, to address 1, is on the bus
(DESIGN CHOICE, assumption log 26; DESIGN CHOICE, assumption log 27). -/
def State.reset : State :=
  { link := Cold.link Cold.config.silence
    creds := Cold.credentials
    comps := Cold.compartments
    freeLists := Cold.freeLists
    maintSlot := none
    parcels := Cold.parcels
    deposit := Cold.deposit
    time := Cold.time
    charge := Cold.charge
    collection := Cold.collection
    returns := Cold.returns
    arbiter := Cold.arbiter false
    bus :=
      { Cold.bus (Vector.replicate 12 { Cold.column with probeDue := true }) Cold.config.pollInterval with
        use := .attempt { op := .probe 0 true, busy := 0, silence := 0, woke := false, recalled := false }
        enumeration := some { todo := List.finRange 12, reply := none } }
    dormancy := Cold.dormancy Cold.config.idle
    doors := Cold.doors
    notices :=
      { Cold.notices with
        classes := Cold.notices.classes.set 10
          { pending := true, masked := false
            details := [{ body := .link (.start .cold), more := false, drill := false, sensor := false }] } }
    counters := Cold.counters
    checker := Cold.checker
    mgmt := Cold.management
    lines := { hold := false, reset := false, power := true }
    pending := [] }

end Sys2Proof.Machine
end

