-- ==== Sys2Proof/Machine/Ops.lean ====
section
/-! DEFINITION. The named operations over the tables every block shares: reading and writing an entry, raising a
notice, counting, placing a reply. An entry is written with a fresh check byte (R190). -/

namespace Sys2Proof.Machine

open Sys2Proof.Wire

/-! ### Table entries -/

/-- Write a compartment entry (R1: every write writes a new check byte). -/
def setComp (n : CompNo) (c : Compartment) (s : State) : State :=
  { s with comps := s.comps.set n.val (sealCompartment n c) n.isLt }

/-- Change a compartment entry. -/
def modComp (n : CompNo) (f : Compartment → Compartment) (s : State) : State := setComp n (f s.comps[n]) s

/-- The live record in a slot, if any (DESIGN CHOICE, assumption log 28). -/
def parcelAt (k : Slot) (s : State) : Option Parcel := s.parcels.slots[k]

/-- Write a parcel record (R41: every write writes a new check byte). -/
def setParcel (k : Slot) (p : Parcel) (s : State) : State :=
  { s with parcels := { s.parcels with slots := s.parcels.slots.set k.val (some (sealParcel k p)) k.isLt } }

/-- Change the live record in a slot; a FREE slot is left alone. -/
def modParcel (k : Slot) (f : Parcel → Parcel) (s : State) : State :=
  match parcelAt k s with
  | some p => setParcel k (f p) s
  | none => s

/-- Write a credential way. -/
def setWay (w : Way) (c : Credential) (s : State) : State :=
  { s with creds := { s.creds with ways := s.creds.ways.set w.val (some (sealCredential w c)) w.isLt } }

/-- Free a credential way; the other ways of the bucket keep their places (R22). -/
def freeWay (w : Way) (s : State) : State :=
  { s with creds := { s.creds with ways := s.creds.ways.set w.val none w.isLt } }

/-- Change a terminal context. -/
def modTerm (t : Term) (f : TermContext → TermContext) (s : State) : State :=
  { s with creds := { s.creds with terms := s.creds.terms.set t.val (f s.creds.terms[t]) t.isLt } }

/-- Write an open-deposit marker (R50). -/
def setMarker (t : Term) (m : Option DepositMarker) (s : State) : State :=
  { s with deposit := { s.deposit with markers := s.deposit.markers.set t.val m t.isLt } }

/-- Write a compartment's resumed mark (R61, R100, R121). -/
def setResumed (n : CompNo) (b : Bool) (s : State) : State :=
  { s with deposit := { s.deposit with resumed := s.deposit.resumed.set n.val b n.isLt } }

/-- Write a quote context (R79). -/
def setContext (t : Term) (c : QuoteContext) (s : State) : State :=
  { s with collection := { s.collection with contexts := s.collection.contexts.set t.val c t.isLt } }

/-- Write the re-open list (R80). -/
def setReopen (l : List ReopenEntry) (s : State) : State :=
  { s with collection := { s.collection with reopen := l } }

/-- Change a column entry (R122). -/
def modColumn (c : Col) (f : ColumnEntry → ColumnEntry) (s : State) : State :=
  { s with bus := { s.bus with columns := s.bus.columns.set c.val (f s.bus.columns[c]) c.isLt } }

/-- The compartment is fitted: its state is not UNFITTED (R3, 1.2). -/
def isFitted (n : CompNo) (s : State) : Bool := s.comps[n].state != .unfitted

/-- The compartment is out of service: BARRED, or in MAINT, where a job request is refused as for a BARRED one (1.2,
R17). -/
def outOfService (n : CompNo) (s : State) : Bool := s.comps[n].state == .barred || s.comps[n].state == .maint

/-- Change a door record; that of an UNFITTED compartment holds every field stopped, absent or 0 (R151). -/
def modDoor (n : CompNo) (f : DoorRecord → DoorRecord) (s : State) : State :=
  { s with doors := { s.doors with
    records := s.doors.records.set n.val (if isFitted n s then f s.doors.records[n] else Cold.doorRecord) n.isLt } }

/-- Set or clear a column's first-poll marker (R151). -/
def setFirstPoll (c : Col) (b : Bool) (s : State) : State :=
  { s with doors := { s.doors with firstPoll := s.doors.firstPoll.set c.val b c.isLt } }

/-- Replace a column's last trace (R163). -/
def setLastTrace (c : Col) (l : LastTrace) (s : State) : State :=
  { s with doors := { s.doors with lastTrace := s.doors.lastTrace.set c.val (some l) c.isLt } }

/-- Write the sweep context (R109). -/
def setSweep (w : Option Sweep) (s : State) : State := { s with returns := { s.returns with sweep := w } }

/-- Write the expiry scanner (R101). -/
def setScanner (w : Scanner) (s : State) : State := { s with returns := { s.returns with scanner := w } }

/-- Write the computation queue and the computation in progress (R74). -/
def setCharge (q : List QueuedCharge) (r : Option Snapshot) (s : State) : State :=
  { s with charge := { s.charge with queue := q, running := r } }

/-- Change the configuration record (R201). -/
def modConfig (f : ConfigRecord → ConfigRecord) (s : State) : State :=
  { s with mgmt := { s.mgmt with config := f s.mgmt.config } }

/-- The configuration record. -/
def cfg (s : State) : ConfigRecord := s.mgmt.config

/-- A column is PRESENT in the column table. -/
def columnPresent (c : Col) (s : State) : Bool := s.bus.columns[c].state == .present

/-- The place a fitted compartment is mapped to; an UNFITTED one has none, whatever map value a check failure may have
left in its entry (R3, R193). -/
def fittedPlace (n : CompNo) (s : State) : Option MapPlace := if isFitted n s then s.comps[n].place else none

/-- The column a compartment is mapped to, if fitted. -/
def columnOf (n : CompNo) (s : State) : Option Col := (fittedPlace n s).map MapPlace.col

/-- The compartment's column is PRESENT. -/
def onPresentColumn (n : CompNo) (s : State) : Bool :=
  match columnOf n s with
  | some c => columnPresent c s
  | none => false

/-- A hold is active, as the arbiter last acted on it (R139, R148). -/
def holdActive (s : State) : Bool := s.arbiter.holdActive

/-- Saturating increment of a 16-bit counter (00_scope.md, Counters). -/
def satInc (w : BitVec 16) : BitVec 16 := if w = 0xFFFF#16 then w else w + 1

/-! ### Counter bank -/

/-- The counters by name; the column counters take the column index (R187). -/
inductive Counter where
  | checkErrors | lengthErrors | discards | silences | drops | pulses | lockFaults | wrongCodes | lockouts
  | integrity | tampers | ajar | absences | holds
  | noAnswer (c : Col) | busy (c : Col) | stall (c : Col) | wake (c : Col)
  deriving DecidableEq, Repr

/-- The index of a counter (R187). -/
def counterIndex : Counter → Fin 62
  | .checkErrors => 0
  | .lengthErrors => 1
  | .discards => 2
  | .silences => 3
  | .drops => 4
  | .pulses => 5
  | .lockFaults => 6
  | .wrongCodes => 7
  | .lockouts => 8
  | .integrity => 9
  | .tampers => 10
  | .ajar => 11
  | .absences => 12
  | .holds => 13
  | .noAnswer c => ⟨14 + 4 * c.val, by omega⟩
  | .busy c => ⟨15 + 4 * c.val, by omega⟩
  | .stall c => ⟨16 + 4 * c.val, by omega⟩
  | .wake c => ⟨17 + 4 * c.val, by omega⟩

/-- A live counter rises by one unless it stands at 65,535 (R188). -/
def count (k : Counter) (s : State) : State :=
  let i := counterIndex k
  { s with counters := { s.counters with live := s.counters.live.set i.val (satInc s.counters.live[i]) i.isLt } }

/-! ### Notice unit -/

/-- The priority of a class, 0 the highest (R182). -/
def classIndex : NoticeClass → Fin 12
  | .tamper => 0
  | .integrity => 1
  | .lockFault => 2
  | .column => 3
  | .doorAjar => 4
  | .hold => 5
  | .deposit => 6
  | .collected => 7
  | .ret => 8
  | .sweepEnd => 9
  | .link => 10
  | .drill => 11

/-- The classes, highest priority first. -/
def allClasses : List NoticeClass :=
  [.tamper, .integrity, .lockFault, .column, .doorAjar, .hold, .deposit, .collected, .ret, .sweepEnd, .link, .drill]

/-- The class of a detail (R182). -/
def bodyClass : NoticeBody → NoticeClass
  | .tamper _ _ => .tamper
  | .integrity _ _ => .integrity
  | .lockFault _ _ _ => .lockFault
  | .column _ _ => .column
  | .doorAjar _ _ => .doorAjar
  | .hold _ _ => .hold
  | .deposit _ _ _ _ => .deposit
  | .collected _ _ _ => .collected
  | .ret _ _ => .ret
  | .sweepEnd _ _ _ _ _ _ => .sweepEnd
  | .link _ => .link
  | .drill _ => .drill

/-- Change one class's queue. -/
def modClass (c : NoticeClass) (f : ClassQueue → ClassQueue) (s : State) : State :=
  let i := classIndex c
  { s with notices := { s.notices with classes := s.notices.classes.set i.val (f s.notices.classes[i]) i.isLt } }

/-- The newest detail is given the more marker (R184). -/
def markNewest : List Detail → List Detail
  | [] => []
  | [d] => [{ d with more := true }]
  | d :: e :: rest => d :: markNewest (e :: rest)

/-- A detail reaches its class's queue: it joins the tail with the more marker clear, or, with 8 details queued, is
lost and marks the newest (R184). -/
def enqueueDetail (d : Detail) (q : ClassQueue) : ClassQueue :=
  if q.details.length < 8 then { q with pending := true, details := q.details ++ [{ d with more := false }] }
  else { q with pending := true, details := markNewest q.details }

/-- A notice is raised with the given drill and sensor markers (R184). -/
def raiseMarked (b : NoticeBody) (drill sensor : Bool) (s : State) : State :=
  modClass (bodyClass b) (enqueueDetail { body := b, more := false, drill := drill, sensor := sensor }) s

/-- A notice of a real event is raised (R182, R184). -/
def raise (b : NoticeBody) (s : State) : State := raiseMarked b false false s

/-- A compartment number as a notice carries it. -/
def compByte (n : CompNo) : Byte := BitVec.ofNat 8 n.val

/-- A column address as the link and the bus carry it: 1 to 12. -/
def addressByte (c : Col) : Byte := BitVec.ofNat 8 (c.val + 1)

/-- TAMPER, with its counter (R154, R155, R187). -/
def raiseTamper (n : CompNo) (k : TamperKind) (s : State) : State :=
  count .tampers (raise (.tamper (compByte n) k) s)

/-- COLUMN(ABSENT), with its counter (R127, R187). -/
def raiseAbsent (c : Col) (s : State) : State := count .absences (raise (.column (addressByte c) .absent) s)

/-- DOOR_AJAR, with its counter (R165, R187). -/
def raiseAjar (n : CompNo) (seconds : BitVec 16) (s : State) : State :=
  count .ajar (raise (.doorAjar (compByte n) seconds) s)

/-- HOLD(ON), with its counter (R148, R187). -/
def raiseHoldOn (src : HoldSource) (s : State) : State := count .holds (raise (.hold true src) s)

/-! ### Replies -/

/-- The origin of a request (00_scope.md, Origins). -/
inductive Origin where
  | terminal (t : Term)
  | office
  deriving DecidableEq, Repr

/-- The origin an octet names; none for an octet that is no origin (R178). -/
def origin? (b : Byte) : Option Origin :=
  if h : b.toNat < 4 then some (.terminal ⟨b.toNat, h⟩) else if b = originOffice then some .office else none

/-- The octet of an origin (12.1). -/
def originOctet : Origin → Byte
  | .terminal t => BitVec.ofNat 8 t.val
  | .office => originOffice

/-- What every reply carries of its request: kind, tag and origin (R179). -/
structure Header where
  kind : Byte
  tag : Byte
  origin : Origin
  deriving DecidableEq, Repr

/-- The reply codes (R215). -/
inductive ReplyCode where
  | ok | badField | unknownRequest | congested | noMatch | lockedOut | duplicateRef | duplicateCode | bucketFull
  | courierLimit | tableFull | notSignedOn | notPermitted | terminalBusy | noCompartment | wrongState | inProgress
  | expired | heldForStaff | columnDown | clockUnset | onHold | quoteLapsed | noQuote | amountRange | sweepActive
  | nothingToSweep | integrity
  deriving DecidableEq, Repr

/-- The octet of a reply code (R215). -/
def replyOctet : ReplyCode → Byte
  | .ok => 0x00
  | .badField => 0x01
  | .unknownRequest => 0x02
  | .congested => 0x03
  | .noMatch => 0x04
  | .lockedOut => 0x05
  | .duplicateRef => 0x06
  | .duplicateCode => 0x07
  | .bucketFull => 0x08
  | .courierLimit => 0x09
  | .tableFull => 0x0A
  | .notSignedOn => 0x0B
  | .notPermitted => 0x0C
  | .terminalBusy => 0x0D
  | .noCompartment => 0x0E
  | .wrongState => 0x0F
  | .inProgress => 0x10
  | .expired => 0x11
  | .heldForStaff => 0x12
  | .columnDown => 0x13
  | .clockUnset => 0x14
  | .onHold => 0x15
  | .quoteLapsed => 0x16
  | .noQuote => 0x17
  | .amountRange => 0x18
  | .sweepActive => 0x19
  | .nothingToSweep => 0x1A
  | .integrity => 0x1B

/-- A reply enters the reply queue by filling a place reserved for it; with no place reserved there is none for it to
fill (R175). -/
def placeReply (r : Reply) (s : State) : State :=
  if s.link.reserved = 0 then s
  else { s with link := { s.link with reserved := s.link.reserved - 1, replies := s.link.replies ++ [r] } }

/-- A reservation is released without a reply (R179). -/
def releasePlace (s : State) : State := { s with link := { s.link with reserved := s.link.reserved - 1 } }

/-- The reply to a request: kind, code, fields (R215). -/
def replyTo (h : Header) (code : ReplyCode) (fields : List Byte) : Reply :=
  { tag := h.tag, origin := originOctet h.origin, body := h.kind :: replyOctet code :: fields }

/-- Answer a request OK with the fields its rule names. -/
def answer (h : Header) (fields : List Byte) (s : State) : State := placeReply (replyTo h .ok fields) s

/-- Refuse a request. NO_MATCH carries FFh when no credential lookup was made; no other code but LOCKED_OUT carries a
field (R216). -/
def refuse (h : Header) (code : ReplyCode) (s : State) : State :=
  placeReply (replyTo h code (if code = .noMatch then [0xFF#8] else [])) s

/-- Refuse NO_MATCH after a failed lookup, with the failures left before a lockout (R37, R216). -/
def refuseNoMatch (h : Header) (left : Nat) (s : State) : State := placeReply (replyTo h .noMatch (num1 left)) s

/-- Refuse LOCKED_OUT with the seconds remaining (R38, R39, R216). -/
def refuseLockedOut (h : Header) (seconds : Nat) (s : State) : State :=
  placeReply (replyTo h .lockedOut (num2 seconds)) s

/-! ### Clock -/

/-- The dwell from an arrival minute to a minute: 0 when the clock stands below the arrival (R70). -/
def dwellFrom (arrival now : Minute) : Nat := now.toNat - arrival.toNat

/-- The dwell of a record in a slot (R70); a record without arrival minute has a free dwell (DESIGN CHOICE,
assumption log 8). -/
def dwellOf (k : Slot) (arrival : Option Minute) (now : Minute) : Nat :=
  match arrival with
  | some a => dwellFrom a now
  | none => Config.dwellWithoutArrival k

/-- The dwell has reached the expiry of the record's plan (R70, R83, R93, R103). -/
def isExpired (k : Slot) (p : Parcel) (now : Minute) (s : State) : Bool :=
  (s.charge.plans[p.plan]).expiry ≤ dwellOf k p.arrival now

/-- Station minute and seconds a number of seconds from now (R85, R87) (DESIGN CHOICE, assumption log 7). -/
def clockAfter (tb : TimeBase) (seconds : Nat) : Minute × Fin 60 :=
  let total := tb.minute.toNat * 60 + tb.seconds.val + seconds
  let m := total / 60
  (if m < 2 ^ 32 then BitVec.ofNat 32 m else Config.windowEndBeyond m, ⟨total % 60, Nat.mod_lt _ (by decide)⟩)

end Sys2Proof.Machine
end

