-- ==== Sys2Proof/Machine/Arbiter.lean ====
section
/-! DEFINITION. The column operation queue (R131) and the lock grant arbiter (7.7): joining, granting, withdrawing,
returning. -/

namespace Sys2Proof.Machine

open Sys2Proof.Wire

/-! ### The operation queue and its overflow (R131) -/

/-- The operation is a RELAY. -/
def isRelay : Op → Bool
  | .relay _ _ _ _ _ => true
  | _ => false

/-- The operation is a POLL. -/
def isPoll : Op → Bool
  | .poll _ => true
  | _ => false

/-- The operation is a PROBE. -/
def isProbe : Op → Bool
  | .probe _ _ => true
  | _ => false

/-- The operation is the PULSE of a compartment. -/
def isPulseOf (n : CompNo) : Op → Bool
  | .pulse m _ _ _ => m == n
  | _ => false

/-- The column an operation is addressed to. -/
def opColumn : Op → Option Col
  | .broadcast _ => none
  | .pulse _ c _ _ => some c
  | .traceRead _ c => some c
  | .relay c _ _ _ _ => some c
  | .poll c => some c
  | .probe c _ => some c

/-- The RELAY of an operation is answered; another operation has no reply (R138, R179). -/
def answerRelay (code : ReplyCode) (op : Op) (s : State) : State :=
  match op with
  | .relay _ _ _ tag origin => placeReply { tag := tag, origin := origin, body := [0x0C, replyOctet code] } s
  | _ => s

/-- Operations held in the overflow join the queue as places free, oldest held first (R131). -/
def refill (b : ColumnBus) : ColumnBus :=
  let room := 16 - b.queue.length
  { b with queue := b.queue ++ b.overflow.take room, overflow := b.overflow.drop room }

/-- The newest queued RELAY and the queue without it. -/
def takeNewestRelay : List Op → Option (Op × List Op)
  | [] => none
  | o :: os =>
    match takeNewestRelay os with
    | some (r, rest) => some (r, o :: rest)
    | none => if isRelay o then some (o, os) else none

/-- An operation of the controller joins: at the tail, else in the place of the newest queued RELAY, which is answered
CONGESTED, else in the overflow (R131). -/
def enqueueOp (op : Op) (s : State) : State :=
  if s.bus.queue.length < 16 then { s with bus := { s.bus with queue := s.bus.queue ++ [op] } }
  else
    match takeNewestRelay s.bus.queue with
    | some (r, rest) => answerRelay .congested r { s with bus := { s.bus with queue := rest ++ [op] } }
    | none => { s with bus := { s.bus with overflow := s.bus.overflow ++ [op] } }

/-- Operations leave the queue and the overflow; freed places go to the overflow (R131). -/
def dropOps (p : Op → Bool) (s : State) : State :=
  { s with bus := refill { s.bus with queue := s.bus.queue.filter (fun o => !p o), overflow := s.bus.overflow.filter (fun o => !p o) } }

/-- A broadcast joins, unless one of its kind is queued; a WAKE_ALL first removes a queued SLEEP_ALL (R131). -/
def enqueueBroadcast (b : Broadcast) (s : State) : State :=
  let s := if b = .wakeAll then dropOps (fun o => o == .broadcast .sleepAll) s else s
  if s.bus.queue.contains (.broadcast b) || s.bus.overflow.contains (.broadcast b) then s
  else enqueueOp (.broadcast b) s

/-! ### Door timers that follow the arbiter (R157 to R159, R166, R167) -/

/-- The door records of a column run: it is PRESENT and its first-poll marker is clear (R158, R166, R167). -/
def columnRuns (c : Col) (s : State) : Bool := columnPresent c s && !s.doors.firstPoll[c]

/-- The door record of a compartment runs. -/
def doorRuns (n : CompNo) (s : State) : Bool :=
  match columnOf n s with
  | some c => columnRuns c s
  | none => false

/-- A TRACE_READ for the compartment joins the operation queue; the trace step is QUEUED (R158, R160, R167). -/
def queueTrace (n : CompNo) (s : State) : State :=
  match columnOf n s with
  | some c => enqueueOp (.traceRead n c) (modDoor n (fun d => { d with traceStep := .queued }) s)
  | none => s

/-- The door phase of the compartment has become NONE, or its job has ended: confirm timer and open limit stop, a
held close is dropped, and it is no longer marked resumed (R158, R159, R164, R168) (DEDUCED, assumption log 18). -/
def stopJobTimers (n : CompNo) (s : State) : State :=
  setResumed n false (modDoor n (fun d => { d with confirm := none, openLimit := none, heldClose := none }) s)

/-! ### Waiting list and committed set -/

/-- The compartment has an entry in the waiting list. -/
def isWaiting (n : CompNo) (s : State) : Bool := s.arbiter.waiting.any (fun r => r.comp == n)

/-- The compartment is in the committed set. -/
def isCommitted (n : CompNo) (s : State) : Bool := s.arbiter.committed.any (fun r => r.comp == n)

/-- The compartment is in the committed set as sent. -/
def isSent (n : CompNo) (s : State) : Bool :=
  s.arbiter.committed.any (fun r => r.comp == n && r.stage == .sent)

/-- A request takes its place in order of age. -/
def insertByAge (r : GrantRequest) : List GrantRequest → List GrantRequest
  | [] => [r]
  | q :: qs => if r.age < q.age then r :: q :: qs else q :: insertByAge r qs

/-- A waiting request can be granted now, by the conditions of R141; one of a compartment in the committed set is not
eligible while that pulse stands (R140), also when a MAP write has meanwhile re-fitted the compartment to another column,
so that the set holds a compartment once. The record behind a request takes no part, so one of class COLLECT that was returned after its release ended is eligible like any other (R94,
R142, R146) (DESIGN CHOICE, assumption log 50). -/
def isEligible (s : State) (r : GrantRequest) : Bool :=
  !s.arbiter.holdActive && s.arbiter.guard.isNone && s.arbiter.committed.length < (cfg s).pulseBudget
    && s.arbiter.committed.all (fun c => c.col != r.col && c.comp != r.comp) && columnPresent r.col s

/-- The oldest eligible request of a class; the list is in order of age (R142). -/
def oldestEligible (cls : GrantClass) (s : State) : Option GrantRequest :=
  s.arbiter.waiting.find? (fun r => r.cls == cls && isEligible s r)

/-- The request to grant next: the highest class that has an eligible request, and its oldest (R140, R142). -/
def nextGrant (s : State) : Option GrantRequest :=
  (oldestEligible .collect s).orElse fun _ =>
    (oldestEligible .deposit s).orElse fun _ =>
      (oldestEligible .sweep s).orElse fun _ => oldestEligible .maint s

/-- One grant: the entry leaves the list, the compartment is committed as sent, a PULSE joins the queue (R142). A request
returned for a compartment that a MAP write has since unfitted or re-fitted is granted on the column it was asked for, at
the position the compartment now has, 0 without one (DESIGN CHOICE, assumption log 30). -/
def grant (r : GrantRequest) (s : State) : State :=
  let a := s.arbiter
  let s := { s with arbiter :=
    { a with
      waiting := a.waiting.filter (fun q => q.comp != r.comp)
      committed := a.committed ++ [{ comp := r.comp, col := r.col, cls := r.cls, age := r.age, stage := .sent }] } }
  let pos : Pos := match s.comps[r.comp].place with
    | some p => p.pos
    | none => 0
  enqueueOp (.pulse r.comp r.col pos (cfg s).pulseLength) s

/-- Grants, one after another, until none is eligible; `fuel` bounds their number. -/
def lookOverUpTo : Nat → State → State
  | 0, s => s
  | fuel + 1, s =>
    match nextGrant s with
    | some r => lookOverUpTo fuel (grant r s)
    | none => s

/-- The arbiter looks over the waiting list (R142). Each grant takes an entry off the list, so the list's length
bounds the grants. -/
def lookOver (s : State) : State := lookOverUpTo s.arbiter.waiting.length s

/-- A grant request joins with the next age and the arbiter looks over the list; a compartment that already waits is
not added (R140). A compartment that is not fitted has no column to pulse. -/
def requestGrant (n : CompNo) (cls : GrantClass) (s : State) : State :=
  if isWaiting n s then s
  else
    match columnOf n s with
    | some c =>
      let a := s.arbiter
      lookOver { s with arbiter :=
        { a with waiting := a.waiting ++ [{ comp := n, col := c, cls := cls, age := a.nextAge }], nextAge := a.nextAge + 1 } }
    | none => s

/-- Whether a withdrawal succeeds: the entry waits, or the compartment is in neither set (R146). -/
def withdrawSucceeds (n : CompNo) (s : State) : Bool := isWaiting n s || !isCommitted n s

/-- A withdrawal removes the waiting entry, if any (R146). -/
def withdraw (n : CompNo) (s : State) : State :=
  { s with arbiter := { s.arbiter with waiting := s.arbiter.waiting.filter (fun r => r.comp != n) } }

/-- Release attempts rise by one, up to 2 (R1, R144, R162). -/
def raiseAttempts (a : Fin 3) : Fin 3 :=
  match a with
  | 0 => 1
  | 1 => 2
  | 2 => 2

/-- A grant is taken back from the committed set: its request rejoins at its old age, unless the compartment already
waits for a new job's grant, in which case it is dropped (R140, R144, R148) (DEDUCED, assumption log 16). Where the new
job's entry has been withdrawn meanwhile, the old request rejoins as any other (R146) (DESIGN CHOICE, assumption log
44). So does the request of a release that has ended, whatever has become of its record (R94, R146) (DESIGN CHOICE,
assumption log 50). -/
def takeBack (n : CompNo) (s : State) : State :=
  match s.arbiter.committed.find? (fun c => c.comp == n) with
  | none => s
  | some g =>
    let a := s.arbiter
    let left := a.committed.filter (fun c => c.comp != n)
    if isWaiting n s then { s with arbiter := { a with committed := left } }
    else { s with arbiter := { a with committed := left, waiting := insertByAge { comp := n, col := g.col, cls := g.cls, age := g.age } a.waiting } }

/-- The end of a pulse is told to the door supervisor: the kind is written, and a trace read that waited for it is
queued while the phase is AWAIT_OPEN and the door record does not stand (R157, R158, R166). In any other phase, a new job's
AWAIT_GRANT among them, the end is written and acts on nothing further (DESIGN CHOICE, assumption log 55). -/
def notePulseEnd (n : CompNo) (e : PulseEnd) (s : State) : State :=
  let s := modDoor n (fun d => { d with pulseEnd := e }) s
  if s.doors.records[n].traceStep == .atPulseEnd && s.comps[n].phase == .awaitOpen && doorRuns n s then queueTrace n s
  else s

/-- The compartment leaves the committed set (R145). -/
def leaveCommitted (n : CompNo) (s : State) : State :=
  { s with arbiter := { s.arbiter with committed := s.arbiter.committed.filter (fun c => c.comp != n) } }

end Sys2Proof.Machine
end

