-- ==== Sys2Proof/Machine/Compartments.lean ====
section
/-! DEFINITION. The compartment manager's own steps (chapter 1): free lists, allocation search, fill, free, cause bar,
release. -/

namespace Sys2Proof.Machine

/-! ### Free lists (R5) -/

/-- The list of a class. -/
def listOf (cls : SizeClass) (l : FreeLists) : List CompNo :=
  match cls with
  | .small => l.small
  | .medium => l.medium
  | .large => l.large
  | .bulky => l.bulky

/-- The lists with the list of a class replaced. -/
def setList (cls : SizeClass) (x : List CompNo) (l : FreeLists) : FreeLists :=
  match cls with
  | .small => { l with small := x }
  | .medium => { l with medium := x }
  | .large => { l with large := x }
  | .bulky => { l with bulky := x }

/-- The compartment leaves its list wherever it stands, in any list (R5, R193). -/
def leaveFree (n : CompNo) (s : State) : State :=
  { s with freeLists :=
    { small := s.freeLists.small.filter (fun m => m != n)
      medium := s.freeLists.medium.filter (fun m => m != n)
      large := s.freeLists.large.filter (fun m => m != n)
      bulky := s.freeLists.bulky.filter (fun m => m != n) } }

/-- The compartment joins the tail of the list of its class when it is VACANT, sensed CLOSED, with no pending bar, and
not in the list yet (R5). -/
def joinFree (n : CompNo) (s : State) : State :=
  let c := s.comps[n]
  let l := listOf c.cls s.freeLists
  if c.state = .vacant ∧ c.door = .closed ∧ c.pendingBar = false ∧ n ∉ l then
    { s with freeLists := setList c.cls (l ++ [n]) s.freeLists }
  else s

/-- The list of a class at a start: its listed compartments in ascending number (R9). -/
def rebuiltList (cls : SizeClass) (s : State) : List CompNo :=
  (List.finRange 240).filter fun n =>
    let c := s.comps[n]
    c.cls == cls && c.state == .vacant && c.door == .closed && !c.pendingBar

/-- The four lists are built anew from the compartment table (R9). -/
def rebuildFreeLists (s : State) : State :=
  { s with freeLists :=
    { small := rebuiltList .small s, medium := rebuiltList .medium s, large := rebuiltList .large s
      bulky := rebuiltList .bulky s } }

/-! ### Links -/

/-- The parcel link is removed on both sides (R7, R13, R43). -/
def unlink (n : CompNo) (s : State) : State :=
  let s :=
    match s.comps[n].link with
    | some k => modParcel k (fun p => if p.comp = some n then { p with comp := none } else p) s
    | none => s
  modComp n (fun c => { c with link := none }) s

/-- The class of the grants of the job a compartment's state tells of (7.7). -/
def grantClassOf (st : CompState) : GrantClass :=
  match st with
  | .held | .loading => .deposit
  | .releasing => .collect
  | .sweeping => .sweep
  | _ => .maint

/-! ### Job outcomes at the compartment (1.5) -/

/-- A fill: LOADED with phase NONE and attempts 0, link kept, suspect marker set when asked. A BARRED compartment
stays as it is; in any other state the fill is refused and nothing changes (R12). -/
def fill (n : CompNo) (suspect : Bool) (s : State) : State :=
  match s.comps[n].state with
  | .held | .loading | .releasing | .sweeping =>
    stopJobTimers n (modComp n (fun c =>
      { c with state := .loaded, phase := .none, attempts := 0, suspect := c.suspect || suspect }) s)
  | _ => s

/-- A free: the compartment is released from its record, any waiting grant request is withdrawn, and it becomes VACANT,
or BARRED(MANAGEMENT) on a pending bar. A BARRED compartment loses its link and its waiting request and stays BARRED; in
any other state the free is refused and nothing changes (R13). -/
def free (n : CompNo) (s : State) : State :=
  match s.comps[n].state with
  | .held | .loading | .releasing | .sweeping | .loaded =>
    let s := stopJobTimers n (withdraw n (unlink n s))
    let s := modComp n (fun c =>
      if c.pendingBar then
        { c with state := .barred, cause := some .management, pendingBar := false, phase := .none, attempts := 0, suspect := false }
      else { c with state := .vacant, phase := .none, attempts := 0, suspect := false }) s
    joinFree n s
  | .barred => withdraw n (unlink n s)
  | _ => s

/-- A cause bar's changes at the manager, in one taking, before any engine is told: BARRED with the cause, out of its
list, phase NONE, attempts 0, pending bar clear, link kept, waiting request withdrawn, the maintenance loop ended. The
cause of a compartment BARRED already is replaced by INTEGRITY alone; an UNFITTED compartment takes no bar (R15). The
maintenance loop ends by the state the entry reads: where damage has changed that state, an entry that reads MAINT empties
the slot, whichever compartment it holds, and the slot's own entry that reads another state keeps it (R17, R193) (DESIGN
CHOICE, assumption log 48). -/
def barWithoutReport (n : CompNo) (cause : BarCause) (s : State) : State :=
  let before := s.comps[n]
  if before.state = .unfitted then s
  else
    let kept : Bool := before.state == .barred && cause != .integrity
    let s := stopJobTimers n (withdraw n (leaveFree n s))
    let s := modComp n (fun c =>
      { c with state := .barred, cause := if kept then c.cause else some cause, phase := .none, attempts := 0
               pendingBar := false }) s
    if before.state = .maint then { s with maintSlot := none } else s

/-- The manager takes a release for collection or sweep: the compartment is LOADED and its link names the record (R10). -/
def releaseTaken (n : CompNo) (k : Slot) (s : State) : Bool := s.comps[n].state == .loaded && s.comps[n].link == some k

/-- A release for collection or sweep: the compartment awaits its grant; refused, the entry is unchanged (R10). -/
def release (n : CompNo) (k : Slot) (st : CompState) (s : State) : State :=
  if releaseTaken n k s then
    modComp n (fun c => { c with state := st, phase := .awaitGrant, attempts := 0 }) s
  else s

/-- The expected opening of the release under way: phase OPEN, a HELD compartment LOADING; confirm timer, open limit
and trace step stopped; a waiting request withdrawn (R11, R153). -/
def expectedOpening (n : CompNo) (s : State) : State :=
  let s := modComp n (fun c => { c with phase := .opened, state := if c.state = .held then .loading else c.state }) s
  let s := modDoor n (fun d => { d with confirm := none, openLimit := none, traceStep := .none }) s
  withdraw n s

/-! ### Allocation (R7, R8) -/

/-- The classes an allocation tries: the requested one and, when upsizing is allowed, each larger in turn (R8). -/
def classesFrom (cls : SizeClass) (upsize : Bool) : List SizeClass :=
  if upsize then
    match cls with
    | .small => [.small, .medium, .large, .bulky]
    | .medium => [.medium, .large, .bulky]
    | .large => [.large, .bulky]
    | .bulky => [.bulky]
  else [cls]

/-- The first compartment of a list whose column is PRESENT (R7). -/
def firstPresent (l : List CompNo) (s : State) : Option CompNo := l.find? (fun n => onPresentColumn n s)

/-- The compartment an allocation would take, searching the lists from head to tail (R7, R8). -/
def findCompartment (cls : SizeClass) (upsize : Bool) (s : State) : Option CompNo :=
  (classesFrom cls upsize).findSome? (fun c => firstPresent (listOf c s.freeLists) s)

/-- Taking a compartment for a record: out of its list, HELD and AWAIT_GRANT, linked on both sides, attempts 0; the
record is DEPOSITING (R7, R51). -/
def takeCompartment (n : CompNo) (k : Slot) (s : State) : State :=
  let s := leaveFree n s
  let s := modComp n (fun c => { c with state := .held, phase := .awaitGrant, link := some k, attempts := 0 }) s
  modParcel k (fun p => { p with state := .depositing, comp := some n }) s

end Sys2Proof.Machine
end

