-- ==== Sys2Proof/Machine/Failures.lean ====
section
/-! DEFINITION. What the record checker does to a damaged entry itself (10.5): the check, the report, the two-sided link
rebuilt, the entry out of use, and the job state of the engines that name it cleared. How a terminal's open job and the
engine of a barred compartment's job follow is said in `Terminals` and `Checker`. -/

namespace Sys2Proof.Machine

/-! ### The check (R190) -/

/-- The record in a slot passes its check; a FREE slot carries no check byte (R190) (DEDUCED, assumption log 21). -/
def parcelGood (k : Slot) (s : State) : Bool :=
  match parcelAt k s with
  | some p => parcelOk k p
  | none => true

/-- The compartment entry passes its check (R190) (DEDUCED, assumption log 21). -/
def compGood (n : CompNo) (s : State) : Bool := compartmentOk n s.comps[n]

/-- The credential way passes its check; a free way carries no check byte (R190) (DEDUCED, assumption log 21). -/
def wayGood (w : Way) (s : State) : Bool :=
  match s.creds.ways[w] with
  | some c => credentialOk w c
  | none => true

/-! ### Job state that names a slot -/

/-- The four terminals. -/
def allTerms : List Term := List.finRange 4

/-- The courier signed on at a terminal. -/
def courierAt (t : Term) (s : State) : Option CourierInfo :=
  match s.creds.terms[t].mode with
  | .courier i => some i
  | _ => none

/-- The inactivity timer of a COURIER terminal restarts at the full configured limit (R35). -/
def restartInactivity (t : Term) (s : State) : State :=
  match courierAt t s with
  | some _ => modTerm t (fun c => { c with inactivity := (cfg s).inactivity }) s
  | none => s

/-- The record leaves the return queue; an entry ahead of the sweep cursor lowers it by one (R107, R117). -/
def leaveReturnQueue (k : Slot) (s : State) : State :=
  let q := s.returns.queue
  if k ∈ q then
    let ahead := q.idxOf k
    let sweep := s.returns.sweep.map (fun w => if ahead < w.cursor then { w with cursor := w.cursor - 1 } else w)
    { s with returns := { s.returns with queue := q.filter (fun j => j != k), sweep := sweep } }
  else s

/-- The slot of the collection a quote context is in; a VOID context is in none: it stays until its terminal's next
TENDER, CANCEL or COLLECT (R79). -/
def contextSlot : QuoteContext → Option Slot
  | .none => Option.none
  | .quoting k => some k
  | .due k _ _ => some k
  | .releasing k _ => some k
  | .void _ => Option.none

/-- The quote contexts in a collection of the slot are set by `f` (R79, R99). -/
def setContextsOn (k : Slot) (f : QuoteContext → QuoteContext) (s : State) : State :=
  allTerms.foldl (fun s t =>
    let c := s.collection.contexts[t]
    if contextSlot c = some k then setContext t (f c) s else s) s

/-- Which count of the sweep a resolution raises (R114 to R116). -/
inductive SweepCount where
  | taken | skipped | failed
  deriving DecidableEq, Repr

/-- The current record resolves: it becomes absent, the count rises, and the sweep terminal's inactivity timer restarts.
A record no sweep owns is resolved without counts (R114 to R116, R121). -/
def sweepResolved (k : Slot) (c : SweepCount) (s : State) : State :=
  match s.returns.sweep with
  | some w =>
    if w.current = some k then
      let w := match c with
        | .taken => { w with current := none, taken := satInc w.taken }
        | .skipped => { w with current := none, skipped := satInc w.skipped }
        | .failed => { w with current := none, failed := satInc w.failed }
      restartInactivity w.terminal (setSweep (some w) s)
    else s
  | none => s

/-- The open-deposit markers that name the slot are emptied (R50). -/
def clearMarkers (k : Slot) (s : State) : State :=
  allTerms.foldl (fun s t =>
    match s.deposit.markers[t] with
    | some m => if m.slot = k then setMarker t none s else s
    | none => s) s

/-- The compartment of the deposit marker that names the slot (R50, R192). -/
def markerComp (k : Slot) (s : State) : Option CompNo :=
  allTerms.findSome? fun t =>
    match s.deposit.markers[t] with
    | some m => if m.slot = k then some m.comp else none
    | none => none

/-! ### A damaged entry -/

/-- What every check failure adds: the counter, notice INTEGRITY, the global integrity flag (R195). -/
def reportFailure (t : CheckedTable) (index : Nat) (s : State) : State :=
  let s := count .integrity (raise (.integrity t (BitVec.ofNat 16 index)) s)
  { s with checker := { s.checker with flag := true } }

/-- The header of the COLLECT a computation answers (R179). -/
def collectHeader (e : QueuedCharge) : Header := { kind := 0x06, tag := e.tag, origin := .terminal e.terminal }

/-- The entries of a slot leave the computation queue; when the head leaves, its computation is discarded (R74, R77). -/
def dropCharge (k : Slot) (s : State) : State :=
  let running := match s.charge.queue with
    | e :: _ => if e.slot = k then none else s.charge.running
    | [] => s.charge.running
  setCharge (s.charge.queue.filter (fun e => e.slot != k)) running s

/-- The compartment whose parcel link names a slot; where more than one names it, the one of the lowest number (R192)
(DESIGN CHOICE, assumption log 36). -/
def compartmentNaming (k : Slot) (s : State) : Option CompNo :=
  (List.finRange 240).find? (fun n => s.comps[n].link == some k)

/-- The live record whose compartment field names a compartment; where more than one names it, the one in the lowest
slot (R193) (DESIGN CHOICE, assumption log 36). -/
def recordNaming (n : CompNo) (s : State) : Option Slot :=
  (List.finRange 384).find? fun k =>
    match s.parcels.slots[k] with
    | some p => p.comp == some n
    | none => false

/-- A damaged compartment entry, before the engine of its job is told: out of every list, its link rebuilt from the
records, BARRED(INTEGRITY), rewritten and reported; an UNFITTED one stays so, without link, its door record stopped
(R151, R193, R195). A record that names the UNFITTED compartment goes on naming it, so that their link is no longer
two-sided (R7, R193) (DESIGN CHOICE, assumption log 52). State and phase are taken as the damaged entry reads them, for
the bar and for the maintenance loop (R17) (DESIGN CHOICE, assumption log 48). -/
def failedEntry (n : CompNo) (s : State) : State :=
  let s := leaveFree n s
  let s :=
    if s.comps[n].state = .unfitted then
      modDoor n (fun _ => Cold.doorRecord) (modComp n (fun c => { c with link := none }) s)
    else
      let found := recordNaming n s
      barWithoutReport n .integrity (modComp n (fun c => { c with link := found }) s)
  reportFailure .compartment n.val s

/-- The compartment a damaged record is found in takes a cause bar INTEGRITY; its entry, when it is damaged too, is a
failure of its own (R192, R195). -/
def barFound (n : CompNo) (s : State) : State :=
  if compGood n s then barWithoutReport n .integrity s else failedEntry n s

/-- A damaged record, before the open jobs that name it end: its link rebuilt from the compartments, QUARANTINED, its
compartment barred, out of the return queue, and every engine that holds the slot told: the deposit engine when it holds
it in a deposit of the compartment `deposit`, the charge engine, the collection engine and the return engine (R59, R77,
R99, R116, R192, R195). The record's INTEGRITY notice stands behind the engines' (DEDUCED, assumption log 63). -/
def failedRecord (deposit : Option CompNo) (k : Slot) (p : Parcel) (s : State) : State :=
  let found := compartmentNaming k s
  let entries := s.charge.queue.filter (fun e => e.slot == k)
  let s := setParcel k { p with state := .quarantined, comp := found } s
  let s := match found with
    | some n => barFound n s
    | none => s
  let s := leaveReturnQueue k s
  let s := match deposit with
    | some n => clearMarkers k (raise (.deposit p.ref (compByte n) .integrity none) s)
    | none => s
  let s := entries.foldl (fun s e => refuse (collectHeader e) .integrity s) (dropCharge k s)
  let s := setContextsOn k (fun _ => .void k) s
  let s := setReopen (s.collection.reopen.filter (fun e => e.slot != k)) s
  reportFailure .parcel k.val (sweepResolved k .failed s)

end Sys2Proof.Machine
end

