-- ==== Sys2Proof/Machine/Terminals.lean ====
section
/-! DEFINITION. Terminal contexts (2.5, 2.6), the return queue and the stop of a sweep (6.2, 6.5), the quarantine of a
damaged record (R192), the return of a record to STORED (R93) and retirement (R45): the steps that end a terminal's
work. -/

namespace Sys2Proof.Machine

/-! ### Return queue (R105 to R107) -/

/-- The record joins the tail of the return queue, with notice RETURN(QUEUED), carrying the sensor marker when asked
(R56, R106). -/
def joinReturnQueue (k : Slot) (sensor : Bool) (s : State) : State :=
  let s :=
    if k ∈ s.returns.queue then s
    else { s with returns := { s.returns with queue := s.returns.queue ++ [k] } }
  match parcelAt k s with
  | some p => raiseMarked (.ret p.ref .queued) false sensor s
  | none => s

/-! ### Stopping a sweep (R118, R120) -/

/-- The sweep ends: SWEEP_END with its counts and the cause, and the context returns to NONE (R120). -/
def endSweep (cause : SweepEnd) (s : State) : State :=
  match s.returns.sweep with
  | some w => setSweep none (raise (.sweepEnd w.courier w.route w.taken w.skipped w.failed cause) s)
  | none => s

/-- The current record of a stopped sweep, its waiting request withdrawn: the compartment is filled and the record back
in RETURN_QUEUED, nothing counted. A damaged record, or a damaged entry of its compartment, is handed to the record
checker and resolves the record as failed (R41, R116, R118, R190) (DEDUCED, assumption log 21). -/
def putBackCurrent (n : CompNo) (k : Slot) (p : Parcel) (s : State) : State :=
  let back := fun (s : State) =>
    if p.state = .sweeping then modParcel k (fun p => { p with state := .returnQueued }) s else s
  if !parcelGood k s then failedRecord none k p s
  else if compGood n s then back (fill n false s)
  else sweepResolved k .failed (back (failedEntry n s))

/-- A WALKING sweep stops: at once with no current record, or when the current record's waiting request can be
withdrawn; otherwise it is STOPPING until that record resolves. A STOPPING sweep keeps its first end cause (R118). The compartment is the
one the record's entry reads, its request withdrawn before the record is verified; a record then found damaged leaves it
withdrawn (R192) (DESIGN CHOICE, assumption log 56). -/
def stopSweep (cause : SweepEnd) (s : State) : State :=
  match s.returns.sweep with
  | none => s
  | some w =>
    match w.phase with
    | .stopping => s
    | .walking =>
      match w.current with
      | none => endSweep cause s
      | some k =>
        let stopping := setSweep (some { w with phase := .stopping, cause := some cause }) s
        match parcelAt k s with
        | none => stopping
        | some p =>
          match p.comp with
          | none => stopping
          | some n =>
            if s.comps[n].phase = .awaitGrant ∧ withdrawSucceeds n s = true then
              endSweep cause (putBackCurrent n k p (withdraw n s))
            else stopping

/-! ### Terminal contexts -/

/-- Signing a terminal off: IDLE, courier fields absent, sign-off pending clear; the sweep it runs is stopped (R36). -/
def signOff (t : Term) (s : State) : State :=
  let s := modTerm t (fun c => { c with mode := .idle, signOffPending := false }) s
  match s.returns.sweep with
  | some w => if w.terminal = t then stopSweep .signOff s else s
  | none => s

/-- The courier's entry is gone: the terminal is signed off at once, or at the end of its open job (R36). -/
def courierRemoved (t : Term) (s : State) : State :=
  match s.creds.terms[t].openJob with
  | none => signOff t s
  | some _ => modTerm t (fun c => { c with signOffPending := true }) s

/-- The terminal's open job is over, when it names the slot: a CUSTOMER returns to IDLE, a COURIER with sign-off
pending is signed off, another COURIER's inactivity timer restarts; a lapse sets the last-quote-lapsed marker (R32). -/
def endOpenJob (t : Term) (k : Slot) (lapsed : Bool) (s : State) : State :=
  let c := s.creds.terms[t]
  if c.openJob = some k then
    let s := modTerm t (fun c => { c with openJob := none, lastQuoteLapsed := c.lastQuoteLapsed || lapsed }) s
    match c.mode with
    | .courier _ => if c.signOffPending then signOff t s else restartInactivity t s
    | _ => modTerm t (fun c => { c with mode := .idle }) s
  else s

/-- The job on a slot is over at every terminal whose open job names it (R32, R45). -/
def endJobsOn (k : Slot) (s : State) : State := allTerms.foldl (fun s t => endOpenJob t k false s) s

/-- The open job of a terminal is set: an IDLE terminal becomes CUSTOMER; the last-quote-lapsed marker is cleared
(R32). -/
def setOpenJob (t : Term) (k : Slot) (s : State) : State :=
  modTerm t (fun c =>
    { c with
      openJob := some k
      lastQuoteLapsed := false
      mode := match c.mode with
        | .idle => .customer
        | m => m }) s

/-- The markers that name the slot are emptied and its open job ends (R56 to R59). -/
def depositOver (k : Slot) (s : State) : State := endJobsOn k (clearMarkers k s)

/-! ### The quarantine of a damaged record (R192), and the records an engine's requests reach (R41, R43) -/

/-- A check failure on a parcel record: the record and every engine that holds its slot, then the open jobs that name
it. The deposit engine judges by its marker, and, for a deposit resumed at a start, by the compartment `resumed` (R61,
R192). -/
def quarantineIn (resumed : Option CompNo) (k : Slot) (s : State) : State :=
  match parcelAt k s with
  | none => s
  | some p => endJobsOn k (failedRecord ((markerComp k s).or resumed) k p s)

/-- The compartment whose link names the slot, when it stands under a deposit (R50, R61). -/
def depositComp (k : Slot) (s : State) : Option CompNo :=
  (compartmentNaming k s).filter (fun n => s.comps[n].state == .held || s.comps[n].state == .loading)

/-- A check failure on a parcel record, whoever finds it (R192). -/
def quarantine (k : Slot) (s : State) : State := quarantineIn (depositComp k s) k s

/-- The record in a slot reads one of the states. -/
def recordIn (k : Slot) (states : List ParcelState) (s : State) : Bool :=
  match parcelAt k s with
  | some p => p.state ∈ states
  | none => false

/-- A request of an engine at the record of its job: a damaged record goes to `bad` instead, and one whose state is none
of those expected is left as it was, WRONG_STATE (R41, R43) (DEDUCED, assumption log 21; DESIGN CHOICE, assumption log
28). -/
def onRecordElse (bad : State → State) (k : Slot) (expected : List ParcelState) (f : Parcel → State → State) (s : State) :
    State :=
  match parcelAt k s with
  | none => s
  | some p => if parcelGood k s then (if p.state ∈ expected then f p s else s) else bad s

/-- A request of an engine at the record of its job; a damaged record is quarantined (R41, R43). -/
def onRecord (k : Slot) (expected : List ParcelState) (f : Parcel → State → State) (s : State) : State :=
  onRecordElse (quarantine k) k expected f s

/-! ### The return of a record to STORED (R93) -/

/-- The record returns to STORED with a credit, tendered total and change due 0 and no quote; one whose dwell has
reached its expiry becomes RETURN_QUEUED instead and joins the return queue (R93). -/
def returnToStored (k : Slot) (credit : Amount) (s : State) : State :=
  match parcelAt k s with
  | none => s
  | some p =>
    let p := { p with prepaid := p.prepaid + credit, tendered := 0, change := 0, quote := none }
    if isExpired k p s.time.minute s then
      joinReturnQueue k false (setParcel k { p with state := .returnQueued } s)
    else setParcel k { p with state := .stored } s

/-! ### Retirement (R45) -/

/-- The credential entry naming a slot, if any (R26, R27); where a damaged way makes two entries name it, the one in the
lowest way (DESIGN CHOICE, assumption log 36). -/
def credentialOf (k : Slot) (s : State) : Option Way :=
  (List.finRange 512).find? fun w =>
    match s.creds.ways[w] with
    | some c =>
      match c.kind with
      | .pickup j => j == k
      | .returnAuth j => j == k
      | .courier _ => false
    | none => false

/-- The PICKUP or RETURN_AUTH entry naming the slot is removed, if one exists (R27). -/
def removeCredentialOf (k : Slot) (s : State) : State :=
  match credentialOf k s with
  | some w => freeWay w s
  | none => s

/-- Retiring a record: its credential goes, it leaves the return queue, its compartment is freed or, BARRED, loses its
link, the slot is FREE at the tail of the free-slot list, and jobs naming it end (R44, R45). -/
def retireRecord (k : Slot) (s : State) : State :=
  let s := removeCredentialOf k s
  let s := leaveReturnQueue k s
  let s :=
    match (parcelAt k s).bind Parcel.comp with
    | some n => free n s
    | none => s
  let s := { s with parcels := { slots := s.parcels.slots.set k.val none k.isLt, free := s.parcels.free ++ [k] } }
  endJobsOn k s

end Sys2Proof.Machine
end

