-- ==== Sys2Proof/Machine/Engines.lean ====
section
/-! DEFINITION. How the deposit, collection and return engines end their jobs: by a close, an open limit, a lock fault,
or a cause bar another block takes (chapters 3, 5 and 6). -/

namespace Sys2Proof.Machine

/-! ### Deposit engine -/

/-- The EMPTY outcome: the compartment is freed, the record is ADVISED again, DEPOSIT with the outcome is raised, and
the job is over (R54, R56, R57). -/
def depositBack (n : CompNo) (k : Slot) (outcome : DepositOutcome) (s : State) : State :=
  onRecord k [.depositing] (fun p s =>
    let s := free n s
    let s := modParcel k (fun p => { p with state := .advised, comp := none, arrival := none }) s
    depositOver k (raise (.deposit p.ref (compByte n) outcome none) s)) s

/-- The outcome of a parcel taken to be inside: a DELIVERY is STORED, a RETURN waits for a sweep (R56, R59). -/
def filledState (kind : ParcelKind) : ParcelState :=
  match kind with
  | .delivery => .stored
  | .ret => .returnQueued

/-- The FILLED outcome, and with the suspect markers the UNCERTAIN one (R56). -/
def depositFilled (n : CompNo) (k : Slot) (suspect : Bool) (minute : Minute) (s : State) : State :=
  onRecord k [.depositing] (fun p s =>
    let s := modParcel k (fun p =>
      { p with state := filledState p.kind, arrival := some minute, suspect := p.suspect || suspect }) (fill n suspect s)
    depositOver k (match p.kind with
      | .delivery => raiseMarked (.deposit p.ref (compByte n) .stored (some minute)) false suspect s
      | .ret => joinReturnQueue k suspect s)) s

/-- A deposit close: EMPTY gives the parcel back; FILLED, or UNCERTAIN after three re-polls, stores a DELIVERY and
queues a RETURN (R56). -/
def depositClose (n : CompNo) (k : Slot) (occ : Occupancy) (minute : Minute) (s : State) : State :=
  match occ with
  | .empty => depositBack n k .abandoned s
  | .filled => depositFilled n k false minute s
  | .uncertain => depositFilled n k true minute s

/-- A lock fault ends a deposit: the compartment BARRED(LOCK_FAULT) without link, the record ADVISED (R58). A damaged
record is quarantined instead, with DEPOSIT(INTEGRITY) and no notice LOCK_FAULT (R59, R192) (DESIGN CHOICE, assumption
log 58). -/
def depositLockFault (n : CompNo) (k : Slot) (cls : TraceClass) (s : State) : State :=
  onRecord k [.depositing] (fun p s =>
    let s := free n (barWithoutReport n .lockFault s)
    let s := modParcel k (fun p => { p with state := .advised, comp := none, arrival := none }) s
    let s := raise (.lockFault (compByte n) cls p.ref) s
    depositOver k (raise (.deposit p.ref (compByte n) .lockFault none) s)) s

/-- A cause bar of another block ends a deposit by the door phase the compartment had before it (R59). DEPOSIT(BARRED)
and the RETURN(QUEUED) of a RETURN carry no sensor marker (DESIGN CHOICE, assumption log 32). A damaged record ends it
DEPOSIT(INTEGRITY) instead (R59). -/
def depositBarred (n : CompNo) (k : Slot) (before : DoorPhase) (s : State) : State :=
  onRecordElse (quarantineIn (some n) k) k [.depositing] (fun p s =>
    depositOver k
      (if before = .opened then
        let now := s.time.minute
        let s := modParcel k (fun p => { p with state := filledState p.kind, arrival := some now, suspect := true }) s
        let s := raise (.deposit p.ref (compByte n) .barred (some now)) s
        match p.kind with
        | .delivery => s
        | .ret => joinReturnQueue k false s
      else
        let s := free n s
        let s := modParcel k (fun p => { p with state := .advised, comp := none, arrival := none }) s
        raise (.deposit p.ref (compByte n) .barred none) s)) s

/-! ### Collection engine -/

/-- A collection on a slot is over: its context returns to NONE and its open job ends (R79). -/
def collectionOver (k : Slot) (s : State) : State := endJobsOn k (setContextsOn k (fun _ => .none) s)

/-- The end of a re-open window: the slot leaves the list and the record returns to STORED with the settled payment
credited, the tendered total less the change due (R96). -/
def endReopen (k : Slot) (s : State) : State :=
  onRecord k [.untaken] (fun p => returnToStored k (p.tendered - p.change))
    (setReopen (s.collection.reopen.filter (fun e => e.slot != k)) s)

/-- The slot joins the re-open list at the full window; a window of length 0 ends in the taking that starts it (R80,
R95, R96). -/
def joinReopen (k : Slot) (s : State) : State :=
  let l := s.collection.reopen.filter (fun e => e.slot != k)
  let s := setReopen (l ++ [{ slot := k, left := (cfg s).reopen }]) s
  if (cfg s).reopen = 0 then endReopen k s else s

/-- The release ended with the parcel in the compartment: UNTAKEN, the compartment filled, COLLECTED with the
outcome, the job over, the re-open window started (R95, R97). -/
def collectionUntaken (n : CompNo) (k : Slot) (outcome : CollectOutcome) (s : State) : State :=
  onRecord k [.releasing] (fun p s =>
    let s := fill n false (modParcel k (fun p => { p with state := .untaken }) s)
    joinReopen k (collectionOver k (raise (.collected p.ref (compByte n) outcome) s))) s

/-- A collection close (R95). -/
def collectionClose (n : CompNo) (k : Slot) (occ : Occupancy) (s : State) : State :=
  match occ with
  | .filled => collectionUntaken n k .untaken s
  | .empty =>
    onRecord k [.releasing] (fun p s =>
      retireRecord k (collectionOver k (raise (.collected p.ref (compByte n) .taken) s))) s
  | .uncertain =>
    onRecord k [.releasing] (fun p s =>
      let s := raiseMarked (.collected p.ref (compByte n) .taken) false true s
      retireRecord k (collectionOver k (barWithoutReport n .sensor s))) s

/-- A lock fault ends a release: BARRED(LOCK_FAULT) with link, the record STRANDED with its money (R98). A damaged record
is quarantined instead, with no notice LOCK_FAULT (R99, R192) (DESIGN CHOICE, assumption log 58). -/
def collectionLockFault (n : CompNo) (k : Slot) (cls : TraceClass) (s : State) : State :=
  onRecord k [.releasing] (fun p s =>
    let s := modParcel k (fun p => { p with state := .stranded }) (barWithoutReport n .lockFault s)
    let s := raise (.lockFault (compByte n) cls p.ref) s
    collectionOver k (raise (.collected p.ref (compByte n) .lockFault) s)) s

/-- A cause bar of another block ends a release: the record back to STORED with the settled payment credited (R99). -/
def collectionBarred (n : CompNo) (k : Slot) (s : State) : State :=
  onRecord k [.releasing] (fun p s =>
    let s := returnToStored k (p.tendered - p.change) s
    collectionOver k (raise (.collected p.ref (compByte n) .barred) s)) s

/-! ### Return engine -/

/-- The record goes back to RETURN_QUEUED at its place, the compartment filled, counted as skipped (R114, R115). -/
def sweepKept (n : CompNo) (k : Slot) (s : State) : State :=
  onRecord k [.sweeping] (fun _ s =>
    let s := modParcel k (fun p => { p with state := .returnQueued }) s
    sweepResolved k .skipped (fill n false s)) s

/-- A sweep close (R114). -/
def sweepClose (n : CompNo) (k : Slot) (occ : Occupancy) (s : State) : State :=
  match occ with
  | .filled => sweepKept n k s
  | .empty =>
    onRecord k [.sweeping] (fun p s =>
      sweepResolved k .taken (retireRecord k (raise (.ret p.ref .swept) s))) s
  | .uncertain =>
    onRecord k [.sweeping] (fun p s =>
      let s := raiseMarked (.ret p.ref .swept) false true s
      sweepResolved k .taken (retireRecord k (barWithoutReport n .sensor s))) s

/-- A lock fault resolves the current record: BARRED(LOCK_FAULT) with link, the record back in the queue (R115). A
damaged record is quarantined instead, with no notice LOCK_FAULT (R116, R192) (DESIGN CHOICE, assumption log 58). -/
def sweepLockFault (n : CompNo) (k : Slot) (cls : TraceClass) (s : State) : State :=
  onRecord k [.sweeping] (fun p s =>
    let s := modParcel k (fun p => { p with state := .returnQueued }) (barWithoutReport n .lockFault s)
    sweepResolved k .failed (raise (.lockFault (compByte n) cls p.ref) s)) s

/-- A cause bar of another block resolves the current record as failed (R116). -/
def sweepBarred (k : Slot) (s : State) : State :=
  onRecord k [.sweeping] (fun _ s =>
    sweepResolved k .failed (modParcel k (fun p => { p with state := .returnQueued }) s)) s

/-! ### A cause bar reported to the engine that owned the job (R15) -/

/-- The engine that owned the job of a barred compartment is told, by the entry's state and phase before the bar (R15,
R59, R99, R116); where the entry was damaged, by those it read (R193) (DESIGN CHOICE, assumption log 48). -/
def tellEngine (n : CompNo) (before : Compartment) (s : State) : State :=
  match s.comps[n].link with
  | none => s
  | some k =>
    match before.state with
    | .held | .loading => depositBarred n k before.phase s
    | .releasing => collectionBarred n k s
    | .sweeping => sweepBarred k s
    | _ => s

/-- A cause bar by a block other than the job's engine: the manager's changes, then the report (R15). -/
def causeBar (n : CompNo) (cause : BarCause) (s : State) : State :=
  tellEngine n s.comps[n] (barWithoutReport n cause s)

end Sys2Proof.Machine
end

