-- ==== Sys2Proof/Machine/Checker.lean ====
section
/-! DEFINITION. The record checker's handling of a check failure on a compartment and on a credential (10.5), the
requests the compartment manager takes on an entry it reads, and the sweep's examination. -/

namespace Sys2Proof.Machine

/-- A check failure on a compartment entry: the entry, then the engine of a job under way, judged by the state and the
phase the damaged entry reads (R193) (DESIGN CHOICE, assumption log 48), its notice behind INTEGRITY (DEDUCED,
assumption log 63). -/
def compartmentFailure (n : CompNo) (s : State) : State := tellEngine n s.comps[n] (failedEntry n s)

/-- The compartment manager takes a request of another block on an entry: a damaged one refuses it, INTEGRITY, and is
handed to the record checker (R1, R190, R193) (DEDUCED, assumption log 21). -/
def onComp (n : CompNo) (f : State → State) (s : State) : State :=
  if compGood n s then f s else compartmentFailure n s

/-- The compartment's entry is verified, and a damaged one barred INTEGRITY (R190, R193). -/
def verifyComp (n : CompNo) (s : State) : State := onComp n id s

/-- Some COURIER entry carries the courier number. -/
def courierEnrolled (i : CourierNo) (s : State) : Bool :=
  s.creds.ways.toList.any fun
    | some c =>
      match c.kind with
      | .courier j => j.number == i
      | _ => false
    | none => false

/-- A check failure on a credential entry (R194): the way is freed; when it was COURIER, each terminal signed on under a
number no entry carries any more is signed off, or given sign-off pending. Whether it was is judged by the kind the damaged
entry reads, which may itself be damaged (R27, R194) (DESIGN CHOICE, assumption log 53). -/
def credentialFailure (w : Way) (s : State) : State :=
  let s :=
    match s.creds.ways[w] with
    | none => s
    | some c =>
      let s := freeWay w s
      match c.kind with
      | .courier _ =>
        allTerms.foldl (fun s t =>
          match courierAt t s with
          | some i => if courierEnrolled i.number s then s else courierRemoved t s
          | none => s) s
      | _ => s
  reportFailure .credential w.val s

/-! ### The sweep's examination (R111, R112) -/

/-- The entry is eligible for a sweep of the route (R111). -/
def sweepEligible (route : Route) (k : Slot) (s : State) : Bool :=
  match parcelAt k s with
  | some p =>
    match p.comp with
    | some n => p.route == route && p.state == .returnQueued && s.comps[n].state == .loaded && onPresentColumn n s
    | none => false
  | none => false

/-- The compartment of the record, when the manager takes its release (R10, R112). -/
def sweepRelease? (k : Slot) (s : State) : Option CompNo :=
  ((parcelAt k s).bind Parcel.comp).filter (fun n => releaseTaken n k s)

/-- Taking a record for the sweep, its release taken: its compartment SWEEPING, the record SWEEPING at its place, a grant
requested in class SWEEP (R10, R112). -/
def sweepTake (n : CompNo) (k : Slot) (s : State) : State :=
  requestGrant n .sweep (modParcel k (fun p => { p with state := .sweeping }) (release n k .sweeping s))

/-- The compartment of the record when its entry is damaged: the manager, asked for the release, finds it so (R1,
R112). -/
def badComp (k : Slot) (s : State) : Option CompNo :=
  ((parcelAt k s).bind Parcel.comp).filter (fun n => !compGood n s)

/-- The walk looks at the entry at the cursor: a damaged one is quarantined and the place looked at again, an
ineligible one passed, an eligible one taken; at the tail the sweep ends (R111). One whose compartment's entry is damaged
is not eligible once that compartment is barred for it (R193); one whose release the manager refuses, the compartment's
link naming another record, is passed (R10) (DESIGN CHOICE, assumption log 54). `fuel` bounds the looks. -/
def examine : Nat → State → State
  | 0, s => s
  | fuel + 1, s =>
    match s.returns.sweep with
    | none => s
    | some w =>
      match s.returns.queue[w.cursor]? with
      | none => endSweep .tail s
      | some k =>
        if !parcelGood k s then examine fuel (quarantine k s)
        else if sweepEligible w.route k s then
          match badComp k s with
          | some n => examine fuel (compartmentFailure n s)
          | none =>
            match sweepRelease? k s with
            | some n => sweepTake n k (setSweep (some { w with cursor := w.cursor + 1, current := some k }) s)
            | none => examine fuel (setSweep (some { w with cursor := w.cursor + 1 }) s)
        else examine fuel (setSweep (some { w with cursor := w.cursor + 1 }) s)

/-- After a resolution: a WALKING sweep with no current record examines on, a STOPPING one ends (R111, R114, R120).
Each look removes an entry, passes one, or bars the compartment of one, so twice the queue bounds the looks. -/
def walkOn (s : State) : State :=
  match s.returns.sweep with
  | some w =>
    match w.current with
    | none =>
      match w.phase with
      | .walking => examine (2 * s.returns.queue.length + 1) s
      | .stopping => endSweep (w.cause.getD .tail) s
    | some _ => s
  | none => s

end Sys2Proof.Machine
end

