-- ==== Sys2Proof/Machine/Charge.lean ====
section
/-! DEFINITION. Storage charges (chapter 4) and what the collection engine does with a quote (5.3, 5.4): the fee, the
judgement of a quote, settlement, and the start of computations. -/

namespace Sys2Proof.Machine

open Sys2Proof.Wire

/-! ### The fee -/

/-- The minute of day lies in the window (R67). -/
def peakCovers (w : PeakWindow) (m : Nat) : Bool :=
  if w.first < w.last then w.first ≤ m && m < w.last
  else if w.last < w.first then w.first ≤ m || m < w.last
  else false

/-- The multiplier of a minute of day: the largest among the windows that cover it, 100 when none does (R68). -/
def multiplierAt (peaks : Vector PeakWindow 4) (m : Nat) : Nat :=
  peaks.toList.foldl (fun best w => if peakCovers w m then max best w.multiplier else best) 100

/-- The dwell of the snapshot (R70). -/
def snapDwell (sn : Snapshot) : Nat := dwellOf sn.slot sn.arrival sn.quoteMinute

/-- Quotient rounded up to a whole number. -/
def ceilDiv (a b : Nat) : Nat := (a + b - 1) / b

/-- The number of chargeable blocks (R70). -/
def blockCount (sn : Snapshot) : Nat := ceilDiv (snapDwell sn - sn.plan.free) sn.plan.block

/-- The station minute block `i` starts at (R70); without an arrival minute, counted back by the free dwell (DESIGN
CHOICE, assumption log 8). -/
def blockStart (sn : Snapshot) (i : Nat) : Nat :=
  let arrival := match sn.arrival with
    | some a => a.toNat
    | none => sn.quoteMinute.toNat - snapDwell sn
  arrival + sn.plan.free + i * sn.plan.block

/-- The index of a size class in a plan's rates and caps. -/
def classAt : SizeClass → Fin 4
  | .small => 0
  | .medium => 1
  | .large => 2
  | .bulky => 3

/-- A block's price from its rate and multiplier: a half unit rounds up (R71). -/
def priceOf (rate multiplier : Nat) : Nat := (rate * multiplier + 50) / 100

/-- The price of block `i` (R71). -/
def blockPrice (sn : Snapshot) (i : Nat) : Nat :=
  priceOf (sn.plan.rates[classAt sn.cls])
    (if sn.plan.peak then multiplierAt sn.peaks (blockStart sn i % 1440) else 100)

/-- The prices of blocks `first` up to, but not including, `first + number`. -/
def sumPrices (sn : Snapshot) (first number : Nat) : Nat :=
  ((List.range number).map (fun j => blockPrice sn (first + j))).sum

/-- The amount of a period of blocks under a day cap (R72). -/
def capped (cap : Option Amount) (sum : Nat) : Nat :=
  match cap with
  | some c => min sum c
  | none => sum

/-- The amount of period `k`: its blocks' prices under the day cap of the record's class (R72). -/
def periodAmount (sn : Snapshot) (k : Nat) : Nat :=
  let per := 1440 / sn.plan.block
  capped (sn.plan.caps[classAt sn.cls]) (sumPrices sn (k * per) (min per (blockCount sn - k * per)))

/-- The sum of the period amounts, before the clamp (R73). -/
def rawFee (sn : Snapshot) : Nat :=
  ((List.range (ceilDiv (blockCount sn) (1440 / sn.plan.block))).map (periodAmount sn)).sum

/-- The fee (R73). -/
def feeOf (sn : Snapshot) : Nat := min (rawFee sn) Config.maxAmount

/-- The clamp marker (R73). -/
def clampOf (sn : Snapshot) : Bool := Config.maxAmount < rawFee sn

/-- The owed amount (R73). -/
def owedOf (sn : Snapshot) : Nat := feeOf sn - sn.prepaid

/-! ### The collection engine's side -/

/-- A release for collection or sweep and, when the manager takes it, the grant asked for it (R10) (DESIGN CHOICE,
assumption log 28). -/
def releaseAndAsk (n : CompNo) (k : Slot) (st : CompState) (cls : GrantClass) (s : State) : State :=
  if releaseTaken n k s then requestGrant n cls (release n k st s) else s

/-- Settlement of the quote of a record at a terminal: change due, RELEASING, window stopped, release and grant asked
for (R89). `last` is the last tender the context keeps (DESIGN CHOICE, assumption log 28). -/
def settlement (t : Term) (k : Slot) (n : CompNo) (owed : Amount) (last : Option LastTender) (s : State) : State :=
  let s := modParcel k (fun p => { p with change := p.tendered - owed, state := .releasing }) s
  let s := setContext t (.releasing k last) s
  releaseAndAsk n k .releasing .collect s

/-- The job of a queued COLLECT ends at its terminal with a refusal: context NONE, open job ended, COLLECT answered
(R85, R86). -/
def endQuoting (e : QueuedCharge) (code : ReplyCode) (s : State) : State :=
  refuse (collectHeader e) code (endOpenJob e.terminal e.slot false (setContext e.terminal .none s))

/-- Expired at quote: the record joins the return queue, the job ends, the COLLECT is answered EXPIRED (R86). -/
def expiredAtQuote (e : QueuedCharge) (s : State) : State :=
  let s := joinReturnQueue e.slot false (modParcel e.slot (fun p => { p with state := .returnQueued }) s)
  endQuoting e .expired s

/-- A record found damaged as its quote is written: quarantined, the context VOID, the job ended, INTEGRITY (R77,
R85). -/
def quoteDamaged (e : QueuedCharge) (s : State) : State :=
  refuse (collectHeader e) .integrity
    (endOpenJob e.terminal e.slot false (setContext e.terminal (.void e.slot) (quarantine e.slot s)))

/-- A QUARANTINED record ends the job of its quote: context VOID, INTEGRITY (R85). -/
def quoteQuarantined (e : QueuedCharge) (s : State) : State :=
  refuse (collectHeader e) .integrity (endOpenJob e.terminal e.slot false (setContext e.terminal (.void e.slot) s))

/-- The quote is written and answered: PAY with the window end, or, nothing owed, RELEASE after a settlement (R85). -/
def quoteWritten (e : QueuedCharge) (sn : Snapshot) (n : CompNo) (s : State) : State :=
  let fee := feeOf sn
  let owed := owedOf sn
  let ends := clockAfter s.time sn.plan.window
  let q : Quote :=
    { fee := fee, owed := owed, clamped := clampOf sn, minute := sn.quoteMinute, endMinute := ends.1
      endSecond := ends.2, terminal := e.terminal }
  let s := modParcel e.slot (fun p => { p with quote := some q, tendered := 0, change := 0, state := .due }) s
  let money := num3 fee ++ num3 owed ++ flag (clampOf sn)
  if owed = 0 then
    answer (collectHeader e) (0x01#8 :: money ++ [compByte n]) (settlement e.terminal e.slot n 0 none s)
  else
    answer (collectHeader e) (0x00#8 :: money ++ oct4 ends.1 ++ num1 ends.2.val)
      (setContext e.terminal (.due e.slot sn.plan.window none) s)

/-- A completed quote is judged against the record and its compartment as they stand (R85); a record in no quote keeps
its state (R43) (DESIGN CHOICE, assumption log 28). A MAINT compartment is judged as a BARRED one (R17). A compartment
whose entry is found damaged here is barred INTEGRITY first and then judged BARRED: HELD_FOR_STAFF, the record back in
STORED (DESIGN CHOICE, assumption log 49). -/
def judgeQuote (e : QueuedCharge) (sn : Snapshot) (s : State) : State :=
  if parcelGood e.slot s then
    match parcelAt e.slot s with
    | none => releasePlace s
    | some p =>
      if p.state = .quarantined then quoteQuarantined e s
      else if p.state ≠ .quoting then releasePlace s
      else
        match p.comp with
        | none => releasePlace s
        | some n =>
          let s := verifyComp n s
          if outOfService n s then endQuoting e .heldForStaff (returnToStored e.slot p.tendered s)
          else quoteWritten e sn n s
  else quoteDamaged e s

/-! ### Starting computations -/

/-- The snapshot of a record taken at the start of its computation (R69). -/
def snapshotOf (k : Slot) (p : Parcel) (s : State) : Snapshot :=
  { plan := s.charge.plans[p.plan], peaks := s.charge.peaks, cls := p.cls, arrival := p.arrival, slot := k
    prepaid := p.prepaid, quoteMinute := s.time.minute }

/-- The head of the computation queue starts when no computation is in progress: a damaged record is quarantined, an
expired one handed back, one of no blocks completes at once, and in each case the next entry becomes the head and
starts (R69, R74, R75, R77); a record in no quote is judged at once and nothing computed for it (R43). `fuel` bounds the
starts (DEDUCED, assumption log 13; DESIGN CHOICE, assumption log 28). -/
def startComputations : Nat → State → State
  | 0, s => s
  | fuel + 1, s =>
    match s.charge.running, s.charge.queue with
    | none, e :: rest =>
      if parcelGood e.slot s then
        match parcelAt e.slot s with
        | none => startComputations fuel (releasePlace (setCharge rest none s))
        | some p =>
          let sn := snapshotOf e.slot p s
          if p.state = .quoting ∧ sn.plan.expiry ≤ snapDwell sn then
            startComputations fuel (expiredAtQuote e (setCharge rest none s))
          else if p.state ≠ .quoting ∨ blockCount sn = 0 then
            startComputations fuel (judgeQuote e sn (setCharge rest none s))
          else setCharge s.charge.queue (some sn) s
      else startComputations fuel (quarantine e.slot s)
    | _, _ => s

/-- Every start the queue allows: each takes an entry off the queue or leaves one in progress. -/
def chargeStarts (s : State) : State := startComputations (s.charge.queue.length + 1) s

/-- The computation in progress completes: its entry leaves the queue and its quote is judged (R73) (DEDUCED,
assumption log 13). -/
def completeComputation (s : State) : State :=
  match s.charge.running, s.charge.queue with
  | some sn, e :: rest => judgeQuote e sn (setCharge rest none s)
  | _, _ => s

end Sys2Proof.Machine
end

