-- ==== Sys2Proof/Machine/Doors.lean ====
section
/-! DEFINITION. The door supervisor (chapter 8): deliveries, confirm timers, open limits, bolt traces, door events,
closes and re-polls, and the first poll of a resumed compartment. -/

namespace Sys2Proof.Machine

/-! ### Deliveries (R11, R143, R157) -/

/-- The timers a delivery starts on a compartment in AWAIT_OPEN (R157). -/
def startTimers (n : CompNo) (s : State) : State :=
  let limit : Option OpenLimit := match s.comps[n].state with
    | .held | .loading => some { kind := .deposit, left := (cfg s).depositOpen * 1000 }
    | .releasing | .sweeping => some { kind := .release, left := (cfg s).releaseOpen * 1000 }
    | _ => none
  modDoor n (fun d =>
    { d with confirm := some (cfg s).confirm, pulseEnd := .none, traceStep := .none, readFailed := false
             openLimit := limit }) s

/-- The job the delivered pulse was granted for has ended: phase NONE, or AWAIT_GRANT with a new job's request
waiting (R143). -/
def deliveryIsStale (n : CompNo) (s : State) : Bool :=
  s.comps[n].phase == .none || (s.comps[n].phase == .awaitGrant && isWaiting n s)

/-- The manager's side of a delivery: a HELD compartment becomes LOADING, AWAIT_GRANT becomes AWAIT_OPEN (R11). -/
def deliveredComp (c : Compartment) : Compartment :=
  { c with
    state := if c.state = .held then .loading else c.state
    phase := if c.phase = .awaitGrant then .awaitOpen else c.phase }

/-- The manager and the door supervisor take a delivery: AWAIT_OPEN, and the timers start (R11, R157). -/
def takeDelivery (n : CompNo) (s : State) : State :=
  let s := modComp n deliveredComp s
  if s.comps[n].phase = .awaitOpen then startTimers n s else s

/-- The committed entry of the compartment goes in flight with its pulse timer at the length carried (R143). -/
def goInFlight (n : CompNo) (length : Nat) (s : State) : State :=
  { s with arbiter := { s.arbiter with
    committed := s.arbiter.committed.map (fun c => if c.comp = n then { c with stage := .inFlight length } else c) } }

/-- A PULSE is delivered: in flight, counted, reported unless its job has ended (R143). -/
def deliver (n : CompNo) (length : Nat) (s : State) : State :=
  let s := count .pulses (goInFlight n length s)
  if deliveryIsStale n s then s else onComp n (takeDelivery n) s

/-! ### Confirm timer and open limit (R158, R159) -/

/-- The confirm time has run out, or a driver fault has ended it: in AWAIT_OPEN the trace is owed, at once when the
pulse has ended (R156, R158). -/
def confirmExpired (n : CompNo) (s : State) : State :=
  let s := modDoor n (fun d => { d with confirm := none }) s
  if s.comps[n].phase = .awaitOpen then
    match s.doors.records[n].pulseEnd with
    | .none => modDoor n (fun d => { d with traceStep := .atPulseEnd }) s
    | _ => queueTrace n s
  else s

/-- The confirm timer of the compartment runs: it is not stopped, and its column is PRESENT and polled since (R158). -/
def confirmRuns (n : CompNo) (s : State) : Bool := s.doors.records[n].confirm.isSome && doorRuns n s

/-- The open limit runs (R159). -/
def openLimitRuns (n : CompNo) (s : State) : Bool :=
  s.doors.records[n].openLimit.isSome && s.comps[n].phase == .awaitOpen && !isWaiting n s && !isSent n s
    && s.doors.records[n].traceStep == .none && doorRuns n s

/-- The open limit has expired: the engine that owns the job ends it as not opened (R57, R97, R115, R159). -/
def openLimitExpired (n : CompNo) (s : State) : State :=
  onComp n (fun s =>
    match s.comps[n].link with
    | none => s
    | some k =>
      match s.comps[n].state with
      | .held | .loading => depositBack n k .notOpened s
      | .releasing => collectionUntaken n k .notOpened s
      | .sweeping => sweepKept n k s
      | _ => s) (modDoor n (fun d => { d with openLimit := none }) s)

/-! ### Bolt traces (R160 to R163) -/

/-- The offset lies in the release window (R161). -/
def inWindow (s : State) (e : Edge) : Bool := (cfg s).windowMin ≤ e.offset.toNat && e.offset.toNat ≤ (cfg s).windowMax

/-- The class of a trace (R161). -/
def classify (s : State) (edges : List Edge) (failed : Bool) : TraceClass :=
  if failed then .coilFault
  else if edges = [] then .boltStuck
  else if edges.any (fun e => e.dir == .fall && inWindow s e) then .boltMoved
  else .boltSlow

/-- The states of a compartment under a job (R12, R162). -/
def isJob (st : CompState) : Bool :=
  match st with
  | .held | .loading | .releasing | .sweeping => true
  | _ => false

/-- A lock fault: counted, and ended by the engine that owns the job (R58, R98, R115, R162). -/
def lockFault (n : CompNo) (cls : TraceClass) (s : State) : State :=
  let s := count .lockFaults s
  match s.comps[n].link with
  | none => s
  | some k =>
    match s.comps[n].state with
    | .held | .loading => depositLockFault n k cls s
    | .releasing => collectionLockFault n k cls s
    | .sweeping => sweepLockFault n k cls s
    | _ => s

/-- A retry: a new grant request in the class of the job; a pulse that ELAPSED uses an attempt (R162). -/
def retry (n : CompNo) (usesAttempt : Bool) (s : State) : State :=
  let cls := grantClassOf s.comps[n].state
  let s := if usesAttempt then modComp n (fun c => { c with attempts := raiseAttempts c.attempts }) s else s
  requestGrant n cls s

/-- What a class leads to on a compartment in AWAIT_OPEN (R162). -/
def traceAction (n : CompNo) (cls : TraceClass) (s : State) : State :=
  let c := s.comps[n]
  if c.state = .maint then stopJobTimers n (modComp n (fun c => { c with phase := .none }) s)
  else
    match cls with
    | .boltMoved => s
    | .coilFault => lockFault n cls s
    | .boltStuck | .boltSlow =>
      if s.doors.records[n].pulseEnd = .cut then retry n false s
      else if c.attempts = 2 then lockFault n cls s
      else retry n true s

/-- The class acts only in AWAIT_OPEN, on the compartment whose read this is; the trace step becomes NONE first
(R160, R162) (DEDUCED, assumption log 18). -/
def actOnTrace (n : CompNo) (cls : TraceClass) (s : State) : State :=
  if s.doors.records[n].traceStep = .queued then
    let s := modDoor n (fun d => { d with traceStep := .none }) s
    if s.comps[n].phase = .awaitOpen then onComp n (traceAction n cls) s else s
  else s

/-- A TRACE_READ answer: the trace of the compartment's position is classified, kept as the column's last trace and
acted on; no trace for the position is one with no edges and the flag clear (R160, R163). A compartment no longer
fitted has no position (DEDUCED, assumption log 18); one re-fitted meanwhile is looked up at its new position in the
answer of the column that was read, whose last trace it becomes (DESIGN CHOICE, assumption log 35). A read made stale by a
new delivery, which has set the pulse end to none, is kept with none (DESIGN CHOICE, assumption log 41). -/
def traceAnswer (n : CompNo) (col : Col) (traces : List PositionTrace) (s : State) : State :=
  match fittedPlace n s with
  | none => s
  | some place =>
    let found := traces.find? (fun t => t.position.toNat == place.pos.val)
    let edges := (found.map PositionTrace.edges).getD []
    let failed := (found.map PositionTrace.failed).getD false
    let cls := classify s edges failed
    let s := setLastTrace col
      { comp := n, pos := place.pos, pulseEnd := s.doors.records[n].pulseEnd, edges := edges, failed := failed
        cls := cls, minute := s.time.minute } s
    actOnTrace n cls s

/-- A TRACE_READ failed COLUMN_BUSY: queued again the first time; the second ends the reading with a trace of no
edges, which is not kept (R160). For a compartment no longer fitted, whose door record holds no failure, it is dropped
(R151) (DEDUCED, assumption log 18). A read sent for an earlier pulse, failing after a new delivery, is counted in the read
failures as they stand, now those of the new pulse, and queued again like any other (DESIGN CHOICE, assumption log 51). -/
def traceBusy (n : CompNo) (col : Col) (s : State) : State :=
  if s.comps[n].state = .unfitted then s
  else if s.doors.records[n].readFailed then actOnTrace n (classify s [] false) s
  else enqueueOp (.traceRead n col) (modDoor n (fun d => { d with readFailed := true }) s)

/-- A TRACE_READ failed with no answer or left the queue of a column become ABSENT: the read is owed until the column
returns (R160). A trace step no longer QUEUED, after an opening or a new delivery, stays as it is (DESIGN CHOICE, assumption
log 47). -/
def traceOwed (n : CompNo) (s : State) : State :=
  if s.doors.records[n].traceStep = .queued then modDoor n (fun d => { d with traceStep := .atPulseEnd }) s else s

/-! ### Closes (R164) -/

/-- A close is handed to the engine that owns the job; a held close becomes absent (R56, R95, R114, R164). -/
def handClose (n : CompNo) (occ : Occupancy) (minute : Minute) (s : State) : State :=
  let s := modDoor n (fun d => { d with heldClose := none }) s
  match s.comps[n].link with
  | none => s
  | some k =>
    match s.comps[n].state with
    | .held | .loading => depositClose n k occ minute s
    | .releasing => collectionClose n k occ s
    | .sweeping => sweepClose n k occ s
    | _ => s

/-- A close: MAINT returns to phase NONE; a definite reading is handed over; UNCERTAIN is held (R19, R164). -/
def close (n : CompNo) (occ : Occupancy) (minute : Minute) (s : State) : State :=
  if s.comps[n].state = .maint then stopJobTimers n (modComp n (fun c => { c with phase := .none }) s)
  else
    match occ with
    | .uncertain => modDoor n (fun d => { d with heldClose := some { minute := minute, repolls := 0 } }) s
    | occ => handClose n occ minute s

/-! ### A poll answer (R135, R152 to R156, R164, R165, R167, R168) -/

/-- How a compartment's reading is judged: by the resumption rule of its engine, as a re-poll of a held close, or by its
door events (R152, R164, R168). -/
inductive Judgement where
  | resumption
  | held (h : HeldClose)
  | events
  deriving DecidableEq, Repr

/-- A compartment with the reading of its position, the door sensed before the poll, and how the reading is judged, all
as they stand at the poll (R152). -/
structure PolledDoor where
  comp : CompNo
  reading : PositionReading
  before : DoorState
  how : Judgement
  deriving DecidableEq, Repr

/-- The reading of a fitted compartment in an answer of its column, when its position carries one (R135, R152). -/
def readingOf (n : CompNo) (col : Col) (readings : List PositionReading) (s : State) : Option PositionReading :=
  match fittedPlace n s with
  | some p =>
    if p.col = col ∧ p.pos.val < s.bus.columns[col].count.val then readings[p.pos.val]? else none
  | none => none

/-- The compartments an answer carries readings for, in ascending number (R135, R152) (DEDUCED, assumption log 18). -/
def polledComps (col : Col) (readings : List PositionReading) (s : State) : List (CompNo × PositionReading) :=
  (List.finRange 240).filterMap (fun n => (readingOf n col readings s).map (fun r => (n, r)))

/-- How a compartment's reading is judged (R152, R164, R168). -/
def judgementOf (n : CompNo) (s : State) : Judgement :=
  if s.deposit.resumed[n] && isJob s.comps[n].state then .resumption
  else
    match s.doors.records[n].heldClose with
    | some h => .held h
    | none => .events

/-- A compartment as it stands at the poll. -/
def asPolled (s : State) (x : CompNo × PositionReading) : PolledDoor :=
  { comp := x.1, reading := x.2, before := s.comps[x.1].door, how := judgementOf x.1 s }

/-- The ajar timer at a good poll: it starts when the door is read open while stopped, and stops when read closed
(R165). -/
def ajarAtPoll (n : CompNo) (door : DoorState) (s : State) : State :=
  match door with
  | .opened =>
    modDoor n (fun d =>
      match d.ajar with
      | none => { d with ajar := some (cfg s).ajar, openSeconds := 0 }
      | some _ => d) s
  | .closed => modDoor n (fun d => { d with ajar := none, openSeconds := 0 }) s

/-- Door and occupancy sensed are written, and the ajar timer follows the door (R135, R152, R165). -/
def senseDoor (n : CompNo) (r : PositionReading) (s : State) : State :=
  ajarAtPoll n r.door (modComp n (fun c => { c with door := r.door, occ := r.occupancy }) s)

/-! #### Openings -/

/-- An OPENED event: the expected opening, tamper on LOADED or VACANT, nothing on the others (R153 to R155). -/
def openedEvent (n : CompNo) (s : State) : State :=
  match s.comps[n].phase with
  | .awaitGrant | .awaitOpen => expectedOpening n s
  | .opened => s
  | .none =>
    match s.comps[n].state with
    | .loaded => raiseTamper n .loadedOpened (causeBar n .tamper s)
    | .vacant => raiseTamper n .vacantOpened (leaveFree n s)
    | _ => s

/-- A CLOSED event in AWAIT_GRANT or AWAIT_OPEN is first taken as the opening (R153). -/
def lateOpening (n : CompNo) (s : State) : State :=
  match s.comps[n].phase with
  | .awaitGrant | .awaitOpen => expectedOpening n s
  | .none | .opened => s

/-- The OPENED event of a reading, by the door sensed before the poll (R152). -/
def openingOf (n : CompNo) (before : DoorState) (r : PositionReading) (s : State) : State :=
  match before, r.door with
  | .closed, .opened => openedEvent n s
  | .opened, .closed => lateOpening n s
  | .closed, .closed => if r.latched then openedEvent n s else s
  | .opened, .opened => s

/-- The resumption rule sets phase OPEN, and a held close is abandoned, by a door read open; other readings open nothing
here (R61, R100, R121, R164). -/
def openingAtPoll (x : PolledDoor) (s : State) : State :=
  match x.how, x.reading.door with
  | .resumption, .opened => modComp x.comp (fun c => { c with phase := .opened }) (setResumed x.comp false s)
  | .resumption, .closed => s
  | .held _, .opened => modDoor x.comp (fun d => { d with heldClose := none }) s
  | .held _, .closed => s
  | .events, _ => openingOf x.comp x.before x.reading s

/-- One compartment's reading is sensed and its opening judged. -/
def takeOpening (s : State) (x : PolledDoor) : State := openingAtPoll x (senseDoor x.comp x.reading s)

/-! #### Closes -/

/-- A later poll of a held close that reads the door closed (R164). -/
def repoll (n : CompNo) (h : HeldClose) (r : PositionReading) (minute : Minute) (s : State) : State :=
  if r.latched then close n r.occupancy minute (modDoor n (fun d => { d with heldClose := none }) s)
  else
    match r.occupancy with
    | .uncertain =>
      if h.repolls = 0 then modDoor n (fun d => { d with heldClose := some { h with repolls := 1 } }) s
      else if h.repolls = 1 then modDoor n (fun d => { d with heldClose := some { h with repolls := 2 } }) s
      else handClose n .uncertain h.minute s
    | occ => handClose n occ h.minute s

/-- A CLOSED event, behind the opening: a close in phase OPEN; a VACANT compartment joins its list (R6, R153, R155,
R164). -/
def closedEvent (n : CompNo) (occ : Occupancy) (minute : Minute) (s : State) : State :=
  match s.comps[n].phase with
  | .opened => close n occ minute s
  | .awaitGrant | .awaitOpen => s
  | .none => joinFree n s

/-- The CLOSED event of a reading, by the door sensed before the poll (R152). -/
def closingOf (n : CompNo) (before : DoorState) (r : PositionReading) (minute : Minute) (s : State) : State :=
  match before, r.door with
  | .opened, .closed => closedEvent n r.occupancy minute s
  | .closed, .closed => if r.latched then closedEvent n r.occupancy minute s else s
  | _, .opened => s

/-- The first good poll after a start on a compartment marked resumed that reads the door closed: an event that closes is
a close; no event is a close for a deposit and in phase OPEN, asks again for a collection, and puts a swept record back
(R61, R100, R121). The close is taken in phase OPEN, which stays while its UNCERTAIN reading is re-polled (DESIGN CHOICE,
assumption log 31). -/
def resumedPoll (n : CompNo) (before : DoorState) (r : PositionReading) (minute : Minute) (s : State) : State :=
  let c := s.comps[n]
  let s := setResumed n false s
  if before = .opened ∨ r.latched = true ∨ c.phase = .opened ∨ c.state = .loading then
    close n r.occupancy minute (modComp n (fun c => { c with phase := .opened }) s)
  else
    match c.state with
    | .releasing => requestGrant n .collect (modComp n (fun c => { c with phase := .awaitGrant }) s)
    | .sweeping =>
      match c.link with
      | some k => sweepKept n k s
      | none => s
    | _ => s

/-- A driver fault ends a running confirm timer of a compartment in AWAIT_OPEN (R156). -/
def driverFault (n : CompNo) (s : State) : State :=
  if s.comps[n].phase = .awaitOpen ∧ confirmRuns n s = true then confirmExpired n s else s

/-- The close of one compartment's reading, by how it is judged. -/
def closingAtPoll (minute : Minute) (x : PolledDoor) (s : State) : State :=
  match x.how, x.reading.door with
  | .resumption, .closed => resumedPoll x.comp x.before x.reading minute s
  | .held h, .closed => repoll x.comp h x.reading minute s
  | .events, _ => closingOf x.comp x.before x.reading minute s
  | _, .opened => s

/-- One compartment's close, then its driver fault (DEDUCED, assumption log 18). -/
def takeClosing (minute : Minute) (s : State) (x : PolledDoor) : State :=
  let s := closingAtPoll minute x s
  if x.reading.driverFault then driverFault x.comp s else s

/-! #### The answer -/

/-- A trace read owed to a compartment in AWAIT_OPEN is queued again at the first good poll, its pulse having ended
(R160, R167) (DEDUCED, assumption log 18). -/
def requeueOwed (n : CompNo) (s : State) : State :=
  let d := s.doors.records[n]
  if d.traceStep = .atPulseEnd ∧ d.pulseEnd ≠ .none ∧ s.comps[n].phase = .awaitOpen then queueTrace n s else s

/-- The readings of an answer: the polled entries are verified, every compartment is judged as it stands at the poll, and
the openings of all of them are taken before the closes (R1, R135, R152) (DEDUCED, assumption log 18). -/
def takeReadings (col : Col) (readings : List PositionReading) (s : State) : State :=
  let polled := polledComps col readings s
  let s := polled.foldl (fun s x => verifyComp x.1 s) s
  let doors := polled.map (asPolled s)
  doors.foldl (takeClosing s.time.minute) (doors.foldl takeOpening s)

/-- A poll answer at the door supervisor: the first-poll marker is cleared, the readings are taken, and at the first good
poll the trace reads owed on the column are queued again (R135, R167). The marker goes first, so a driver fault read at that
poll ends a confirm timer that stood until it (R156) (DESIGN CHOICE, assumption log 46). The owed reads are queued behind
the poll's events, in ascending compartment number (DEDUCED, assumption log 18). -/
def pollAnswer (col : Col) (readings : List PositionReading) (s : State) : State :=
  let first := s.doors.firstPoll[col]
  let s := takeReadings col readings (setFirstPoll col false s)
  if first then
    (List.finRange 240).foldl (fun s n => if columnOf n s = some col then requeueOwed n s else s) s
  else s

/-! ### Columns away (R166) -/

/-- The door supervisor is told that a column is away: its first-poll marker is set (R166). -/
def columnAway (c : Col) (s : State) : State := setFirstPoll c true s

end Sys2Proof.Machine
end

