-- ==== Sys2Proof/Machine/Bus.lean ====
section
/-! DEFINITION. The column bus controller (7.1 to 7.6), the hold (7.8) and dormancy (11.5): how an attempt ends, how an
operation fails, probing and enumeration, polling, broadcasts, and what uses the bus next. -/

namespace Sys2Proof.Machine

open Sys2Proof.Wire

/-- The columns in address order. -/
def allCols : List Col := List.finRange 12

/-! ### The bus -/

/-- What is on the bus. -/
def setUse (u : BusUse) (s : State) : State := { s with bus := { s.bus with use := u } }

/-- The operation that keeps the bus between two attempts. -/
def setRetry (r : Option Retry) (s : State) : State := { s with bus := { s.bus with retry := r } }

/-- The attempt on the bus, if any. -/
def attempt? (s : State) : Option Exchange :=
  match s.bus.use with
  | .attempt x => some x
  | _ => none

/-- The operations queued, held in the overflow, on the bus or between two attempts. -/
def allOps (s : State) : List Op :=
  s.bus.queue ++ s.bus.overflow ++ ((attempt? s).map Exchange.op).toList
    ++ (s.bus.retry.map (fun r => r.exchange.op)).toList

/-- The columns are changed one by one. -/
def modColumns (f : Col → ColumnEntry → ColumnEntry) (s : State) : State :=
  allCols.foldl (fun s c => modColumn c (f c) s) s

/-- A PULSE failed: the grant is returned and the arbiter looks over its list. A COLUMN_BUSY failure raises the
release attempts of a compartment whose request rejoins; other failures and a recalled PULSE do not (R144, R148). -/
def returnGrant (n : CompNo) (busyFailure : Bool) (s : State) : State :=
  let rejoins := isCommitted n s && !isWaiting n s
  let s := takeBack n s
  let s := if busyFailure && rejoins then onComp n (modComp n (fun c => { c with attempts := raiseAttempts c.attempts })) s else s
  lookOver s

/-! ### Columns lost (R127, R133) -/

/-- The compartment of a PULSE. -/
def pulseComp : Op → Option CompNo
  | .pulse n _ _ _ => some n
  | _ => none

/-- The operation of a column that leaves the queue when it becomes ABSENT is dealt with by its kind (R127). -/
def disposeOp (op : Op) (s : State) : State :=
  match op with
  | .relay _ _ _ _ _ => answerRelay .columnDown op s
  | .traceRead n _ => traceOwed n s
  | .pulse n _ _ _ => takeBack n s
  | _ => s

/-- The operation leaves the queue when its column becomes ABSENT: every kind addressed to it but PROBE (R127). -/
def leavesWith (c : Col) (op : Op) : Bool := opColumn op == some c && !isProbe op

/-- The column's poll is over: its poll-due marker is cleared, and the wake round no longer waits for it (R134,
R211). -/
def pollOver (c : Col) (s : State) : State :=
  let s := modColumn c (fun e => { e with pollDue := false }) s
  { s with dormancy := { s.dormancy with wakeRound := s.dormancy.wakeRound.map (fun l => l.filter (fun d => d != c)) } }

/-- A column PRESENT or ASLEEP becomes ABSENT: COLUMN(ABSENT), its operations dealt with, the door supervisor told;
`failed` is the operation that found it (R127). It is dealt with first, then the queue and the overflow in their order
(DESIGN CHOICE, assumption log 62). -/
def columnAbsent (c : Col) (failed : Option Op) (s : State) : State :=
  let s := modColumn c (fun e => { e with state := .absent }) s
  let s := columnAway c (raiseAbsent c s)
  let gone := failed.toList ++ (s.bus.queue ++ s.bus.overflow).filter (leavesWith c)
  let s := gone.foldl (fun s op => disposeOp op s) (dropOps (leavesWith c) s)
  let s := { s with bus := { s.bus with returning := s.bus.returning.filter (fun d => d != c) } }
  lookOver (pollOver c s)

/-! ### Probing and enumeration (R128 to R130) -/

/-- The state and count of each of the twelve columns; a count is two octets (R129, R213). -/
def enumerationFields (s : State) : List Byte :=
  allCols.flatMap (fun c => columnStateCode s.bus.columns[c].state :: num2 s.bus.columns[c].count.val)

/-- A PROBE has ended: its probe-due marker is cleared, unless an enumeration still owes the column its own PROBE.
The enumeration ends with its last PROBE, and the ENUMERATE it answers is answered (R128, R129) (DEDUCED, assumption
log 17). -/
def probeOver (c : Col) (enumerating : Bool) (s : State) : State :=
  match s.bus.enumeration with
  | none => modColumn c (fun e => { e with probeDue := false }) s
  | some en =>
    if enumerating then
      let s := modColumn c (fun e => { e with probeDue := false }) s
      let todo := en.todo.filter (fun d => d != c)
      if todo = [] then
        let s := { s with bus := { s.bus with enumeration := none } }
        match en.reply with
        | some (tag, origin) =>
          placeReply { tag := tag, origin := origin, body := 0x2D#8 :: replyOctet .ok :: enumerationFields s } s
        | none => s
      else { s with bus := { s.bus with enumeration := some { en with todo := todo } } }
    else if c ∈ en.todo then s
    else modColumn c (fun e => { e with probeDue := false }) s

/-- The compartment is fitted to a position of the column (R128). -/
def mappedTo (n : CompNo) (c : Col) (s : State) : Bool := columnOf n s == some c

/-- The compartment is fitted to the column at or beyond its reported count (R130). -/
def mismatched (n : CompNo) (c : Col) (s : State) : Bool :=
  match fittedPlace n s with
  | some p => p.col == c && s.bus.columns[c].count.val ≤ p.pos.val
  | none => false

/-- A cause bar MAP_MISMATCH would newly bar the compartment (R130). -/
def newlyBarred (s : State) (n : CompNo) : Bool := s.comps[n].state != .barred && compGood n s

/-- The map check of a column: each mismatched compartment is handed over as a cause bar, with one COLUMN(MAP_MISMATCH)
when at least one is newly barred; a damaged entry is barred by the record checker (R1, R130, R193). The compartments are
taken in ascending number (DEDUCED, assumption log 63). -/
def mapCheck (c : Col) (s : State) : State :=
  let bad := (List.finRange 240).filter (fun n => mismatched n c s)
  let newly := bad.any (newlyBarred s)
  let s := bad.foldl (fun s n => onComp n (causeBar n .mapMismatch) s) s
  if newly then raise (.column (addressByte c) .mapMismatch) s else s

/-- A count above 20 is entered as 20 (R122). -/
def clampCount (b : Byte) : Fin 21 := if h : b.toNat < 21 then ⟨b.toNat, h⟩ else 20

/-- A PROBE answered: PRESENT with its count, the map check, COLUMN(RETURNED) for an ABSENT column, a POLL owed, and
the arbiter told (R128, R129) (DEDUCED, assumption log 17). -/
def probeAnswer (c : Col) (number : Byte) (s : State) : State :=
  let before := s.bus.columns[c].state
  let s := modColumn c (fun e => { e with state := .present, count := clampCount number, pollDue := true }) s
  let s := mapCheck c s
  let s := if before = .absent then raise (.column (addressByte c) .returned) s else s
  let s := { s with bus := { s.bus with returning := s.bus.returning.filter (fun d => d != c) ++ [c] } }
  lookOver s

/-- A PROBE failed with no answer: an ABSENT column stays so; an UNKNOWN one becomes ABSENT, with a notice when a
fitted compartment is mapped to it; another becomes ABSENT as any lost column does (R128, R129) (DEDUCED, assumption
log 17). -/
def probeNoAnswer (c : Col) (s : State) : State :=
  match s.bus.columns[c].state with
  | .absent => s
  | .unknown =>
    let s := modColumn c (fun e => { e with state := .absent }) s
    if (List.finRange 240).any (fun n => mappedTo n c s) then raiseAbsent c s else s
  | .present | .asleep => columnAbsent c none s

/-! ### How an operation ends (R124 to R127, R138) -/

/-- The operation failed with no answer (R127). -/
def noAnswerFailure (x : Exchange) (s : State) : State :=
  match x.op with
  | .broadcast _ => s
  | .probe c en => probeOver c en (probeNoAnswer c s)
  | op =>
    match opColumn op with
    | none => s
    | some c =>
      match s.bus.columns[c].state with
      | .present | .asleep => columnAbsent c (some op) s
      | .unknown | .absent => lookOver (disposeOp op s)

/-- The operation failed COLUMN_BUSY (R125). -/
def busyFailure (x : Exchange) (s : State) : State :=
  match x.op with
  | .broadcast _ => s
  | .pulse n _ _ _ => returnGrant n true s
  | .poll c => pollOver c s
  | .traceRead n c => traceBusy n c s
  | .relay _ _ _ _ _ => answerRelay .congested x.op s
  | .probe c en => probeOver c en s

/-- The attempt has ended without success and the operation goes on: it keeps the bus for its next attempt. A PULSE a
hold onset has called back is returned instead (R124, R132, R148) (DEDUCED, assumption log 16). -/
def attemptAgain (x : Exchange) (wait : RetryWait) (s : State) : State :=
  let s := setUse .free s
  match x.recalled, pulseComp x.op with
  | true, some n => returnGrant n false s
  | _, _ => setRetry (some { exchange := x, wait := wait }) s

/-- The silence count rises by one; at 3 the operation fails with no answer (R124) (DEDUCED, assumption log 16). -/
def silent (x : Exchange) (s : State) : State :=
  if x.silence < 2 then attemptAgain { x with silence := x.silence + 1 } .ready s
  else noAnswerFailure x (setUse .free s)

/-- Nothing heard: the no-answer counter and the silence count (R124). -/
def heardNothing (x : Exchange) (s : State) : State :=
  match opColumn x.op with
  | some c => silent x (count (.noAnswer c) s)
  | none => s

/-- A stall: the stall counter and the silence count (R124). -/
def stalled (x : Exchange) (s : State) : State :=
  match opColumn x.op with
  | some c => silent x (count (.stall c) s)
  | none => s

/-- A BUSY answer: retried 10 ms later; the fourth fails the operation COLUMN_BUSY, as which a recalled PULSE is not
counted (R125, R148) (DEDUCED, assumption log 16). -/
def busyHeard (x : Exchange) (s : State) : State :=
  match opColumn x.op with
  | none => s
  | some c =>
    let s := count (.busy c) s
    if x.busy < 3 ∨ x.recalled = true then attemptAgain { x with busy := x.busy + 1 } (.afterBusy Config.busyWait) s
    else busyFailure x (setUse .free s)

/-- A WAKE answer: retried after the wake settle interval; the second is taken as nothing heard (R126) (DEDUCED,
assumption log 15). -/
def wakeHeard (x : Exchange) (s : State) : State :=
  match opColumn x.op with
  | none => s
  | some c =>
    let s := count (.wake c) s
    if x.woke then silent x s else attemptAgain { x with woke := true } (.afterWake (cfg s).wakeSettle) s

/-! ### Answers -/

/-- The attempt on the bus and its column, when one is made. -/
def onBus (s : State) : Option (Exchange × Col) :=
  match attempt? s with
  | some x => (opColumn x.op).map (fun c => (x, c))
  | none => none

/-- An answer bearing an address meets the attempt on the bus: from the column addressed it is taken by `f`, from
another it is nothing heard (R124); with no attempt on the bus nothing is awaited (DEDUCED, assumption log 15). -/
def answered (address : Byte) (f : Exchange → Col → State → State) (s : State) : State :=
  match onBus s with
  | none => s
  | some (x, c) => if address = addressByte c then f x c s else heardNothing x s

/-- A POLL ends with ACCEPT. A column that has been put to sleep meanwhile is away: its doors are judged after its
return (R135, R166) (DEDUCED, assumption log 15; DEDUCED, assumption log 18). -/
def acceptPoll (readings : List PositionReading) (x : Exchange) (c : Col) (s : State) : State :=
  match x.op with
  | .poll _ =>
    let s := setUse .free s
    pollOver c (if columnPresent c s then pollAnswer c readings s else s)
  | _ => s

/-- A PROBE ends with ACCEPT (R128) (DEDUCED, assumption log 15), also one that was queued or on the bus when the bank
became DORMANT (DESIGN CHOICE, assumption log 38). -/
def acceptProbe (number : Byte) (x : Exchange) (c : Col) (s : State) : State :=
  match x.op with
  | .probe _ en => probeOver c en (probeAnswer c number (setUse .free s))
  | _ => s

/-- A PULSE ends with ACCEPT (R143) (DEDUCED, assumption log 15). -/
def acceptPulse (x : Exchange) (_c : Col) (s : State) : State :=
  match x.op with
  | .pulse n _ _ length => deliver n length (setUse .free s)
  | _ => s

/-- A TRACE_READ ends with ACCEPT (R160) (DEDUCED, assumption log 15). -/
def acceptTrace (traces : List PositionTrace) (x : Exchange) (c : Col) (s : State) : State :=
  match x.op with
  | .traceRead n _ => traceAnswer n c traces (setUse .free s)
  | _ => s

/-- A RELAY ends with ACCEPT (R138) (DEDUCED, assumption log 15). -/
def acceptRelay (x : Exchange) (_c : Col) (s : State) : State :=
  match x.op with
  | .relay _ _ _ _ _ => answerRelay .ok x.op (setUse .free s)
  | _ => s

/-! ### Polls and probes due (R128, R134) -/

/-- Every PRESENT column is marked for a poll: a round start (R134). -/
def markPolls (s : State) : State :=
  modColumns (fun _ e => if e.state = .present then { e with pollDue := true } else e) s

/-- A poll round starts, and the round timer starts anew at the configured interval (R134, R136). -/
def startRound (s : State) : State :=
  let s := markPolls s
  { s with bus := { s.bus with roundTimer := (cfg s).pollInterval } }

/-- The 5 s mark: each UNKNOWN or ABSENT column is owed a PROBE (R128). -/
def markProbes (s : State) : State :=
  let s := modColumns (fun _ e => if e.state = .unknown ∨ e.state = .absent then { e with probeDue := true } else e) s
  { s with bus := { s.bus with probeTimer := Config.probePeriod } }

/-- Round polls are made: AWAKE, or in the wake round (R134, R211). -/
def roundsRun (s : State) : Bool := s.dormancy.state == .awake || s.dormancy.wakeRound.isSome

/-- The column the next POLL is for: a returning column first, else the lowest PRESENT column marked (R134) (DEDUCED,
assumption log 17). -/
def nextPoll (s : State) : Option Col :=
  match s.bus.returning.find? (fun c => columnPresent c s) with
  | some c => some c
  | none =>
    if roundsRun s then allCols.find? (fun c => columnPresent c s && s.bus.columns[c].pollDue) else none

/-- The next POLL is queued when none is queued or in its exchange (R134). -/
def queuePoll (s : State) : State :=
  if (allOps s).any isPoll then s
  else
    match nextPoll s with
    | none => s
    | some c =>
      enqueueOp (.poll c) { s with bus := { s.bus with returning := s.bus.returning.filter (fun d => d != c) } }

/-- The next PROBE is queued when none is queued or in its exchange, for the lowest column marked, while AWAKE
(R128, R129). -/
def queueProbe (s : State) : State :=
  if (allOps s).any isProbe || s.dormancy.state != .awake then s
  else
    match allCols.find? (fun c => s.bus.columns[c].probeDue) with
    | none => s
    | some c =>
      enqueueOp (.probe c (match s.bus.enumeration with
        | some en => en.todo.contains c
        | none => false)) s

/-- An enumeration begins: all twelve columns are owed a PROBE (R129). -/
def startEnumeration (reply : Option (Byte × Byte)) (s : State) : State :=
  let s := modColumns (fun _ e => { e with probeDue := true }) s
  { s with bus := { s.bus with enumeration := some { todo := allCols, reply := reply } } }

/-! ### What uses the bus next (R132) -/

/-- The oldest queued broadcast; one held in the overflow counts as queued, behind the queue (R131, R132). -/
def nextBroadcast (s : State) : Option Broadcast :=
  (s.bus.queue ++ s.bus.overflow).findSome? fun
    | .broadcast b => some b
    | _ => none

/-- The rank of a kind, 0 the highest (R132). -/
def opRank : Op → Nat
  | .broadcast _ => 0
  | .pulse _ _ _ _ => 1
  | .traceRead _ _ => 2
  | .relay _ _ _ _ _ => 3
  | .poll _ => 4
  | .probe _ _ => 5

/-- An operation can be placed: a PROBE always, another when its column is PRESENT (R132). -/
def placeable (s : State) (op : Op) : Bool :=
  isProbe op ||
    match opColumn op with
    | some c => columnPresent c s
    | none => false

/-- The oldest queued operation of a kind that can be placed. -/
def oldestOfRank (rank : Nat) (s : State) : Option Op :=
  s.bus.queue.find? (fun op => opRank op == rank && placeable s op)

/-- The oldest queued operation of the highest kind (R132). -/
def nextOp (s : State) : Option Op := [1, 2, 3, 4, 5].findSome? (fun r => oldestOfRank r s)

/-- The first occurrence of an operation leaves the queue, or else the overflow; places freed go to the overflow. -/
def takeOp (op : Op) (s : State) : State :=
  let b := s.bus
  if op ∈ b.queue then { s with bus := refill { b with queue := b.queue.erase op } }
  else { s with bus := { b with overflow := b.overflow.erase op } }

/-- The controller chooses what uses a free bus: a broadcast; else the operation in a retry wait, at the end of its
wait, and none beside it; else the oldest queued operation of the highest kind (R132). -/
def chooseBus (s : State) : State :=
  match s.bus.use with
  | .attempt _ | .sending _ => s
  | .free =>
    match nextBroadcast s with
    | some b => setUse (.sending b) (takeOp (.broadcast b) s)
    | none =>
      match s.bus.retry with
      | some r => if r.wait = .ready then setUse (.attempt r.exchange) (setRetry none s) else s
      | none =>
        match nextOp s with
        | some op =>
          setUse (.attempt { op := op, busy := 0, silence := 0, woke := false, recalled := false }) (takeOp op s)
        | none => s

/-! ### Broadcasts sent (R133) -/

/-- The broadcast on the bus ends its transmission (DEDUCED, assumption log 15). -/
def isSending (b : Broadcast) (s : State) : Bool := s.bus.use == .sending b

/-- The stage is in flight. -/
def isInFlight : PulseStage → Bool
  | .inFlight _ => true
  | .sent => false

/-- Every pulse in flight ends, CUT (R133, R145); the pulses, and so the trace reads owed, are taken in the order of the
committed set (DESIGN CHOICE, assumption log 61). -/
def cutPulses (s : State) : State :=
  let cut := (s.arbiter.committed.filter (fun c => isInFlight c.stage)).map Committed.comp
  lookOver (cut.foldl (fun s n => notePulseEnd n .cut (leaveCommitted n s)) s)

/-- A RELAY addressed to a PRESENT column. -/
def relayToPresent (s : State) (op : Op) : Bool :=
  isRelay op &&
    match opColumn op with
    | some c => columnPresent c s
    | none => false

/-- Every PRESENT column becomes ASLEEP: poll-due markers cleared, queued RELAYs answered COLUMN_DOWN in the order of
the queue (DESIGN CHOICE, assumption log 62), the door supervisor told (R133, R138, R166). -/
def sleepColumns (s : State) : State :=
  let relays := s.bus.queue.filter (relayToPresent s)
  let awake := allCols.filter (fun c => columnPresent c s)
  let s := relays.foldl (fun s op => answerRelay .columnDown op s) (dropOps (relayToPresent s) s)
  let s := { s with bus := { s.bus with returning := [] } }
  let s := modColumns (fun _ e => { e with pollDue := false, state := if e.state = .present then .asleep else e.state }) s
  awake.foldl (fun s c => columnAway c s) s

/-! ### Dormancy (R209 to R211) -/

/-- The idle timer restarts at the full idle time (R209). -/
def restartIdle (s : State) : State := { s with dormancy := { s.dormancy with idle := (cfg s).idle } }

/-- The quote context leaves the bank quiet. -/
def contextQuiet : QuoteContext → Bool
  | .none | .void _ => true
  | _ => false

/-- The bank is quiet (R209). -/
def isQuiet (s : State) : Bool :=
  s.creds.terms.toList.all (fun c => c.mode == .idle) && s.comps.toList.all (fun c => c.phase == .none)
    && s.returns.sweep.isNone && s.collection.contexts.toList.all contextQuiet && s.arbiter.committed.isEmpty
    && !(allOps s).any isRelay && s.bus.enumeration.isNone

/-- A wake cause: DORMANT becomes WAKING, and a WAKE_ALL is queued (R211). -/
def wakeCause (s : State) : State :=
  if s.dormancy.state = .dormant then
    enqueueBroadcast .wakeAll { s with dormancy := { s.dormancy with state := .waking } }
  else s

/-- The wake settle interval after WAKE_ALL has elapsed: ASLEEP columns become PRESENT, every PRESENT column is marked
for the wake round, and the arbiter is told (R133, R142, R211). -/
def wakeSettled (s : State) : State :=
  let s := modColumns (fun _ e => if e.state = .asleep then { e with state := .present } else e) s
  let s := markPolls s
  let s := { s with dormancy := { s.dormancy with
    settling := none, wakeRound := some (allCols.filter (fun c => columnPresent c s)) } }
  lookOver s

/-- The wake round has polled every column marked for it: AWAKE, the idle timer and the round timer restarted (R211). The
probe timer starts anew at its full 5 s, so the first probe mark comes 5 s after the wake round (DESIGN CHOICE, assumption
log 27). -/
def endWakeRound (s : State) : State :=
  match s.dormancy.wakeRound with
  | some [] =>
    let s := { s with
      dormancy := { s.dormancy with state := .awake, wakeRound := none }
      bus := { s.bus with roundTimer := (cfg s).pollInterval, probeTimer := Config.probePeriod } }
    restartIdle s
  | _ => s

/-! ### The hold (R148, R149) -/

/-- The source of a change of the hold: the line or the office (R148). -/
def holdWanted (s : State) : Bool := s.lines.hold || (cfg s).hold

/-- A queued, held or waiting PULSE of the onset is called back. -/
def isPulse (op : Op) : Bool := (pulseComp op).isSome

/-- The onset calls back the committed pulses: those not on the bus return at once, one on the bus after its attempt
(R148) (DEDUCED, assumption log 16). -/
def recallPulses (s : State) : State :=
  let retried := (s.bus.retry.bind (fun r => pulseComp r.exchange.op)).toList
  let back := (s.bus.queue ++ s.bus.overflow).filterMap pulseComp ++ retried
  let s := dropOps isPulse s
  let s := if retried = [] then s else setRetry none s
  let s := match s.bus.use with
    | .attempt x => if isPulse x.op then setUse (.attempt { x with recalled := true }) s else s
    | _ => s
  back.foldl (fun s n => takeBack n s) s

/-- The onset of a hold (R118, R148). -/
def holdOnset (src : HoldSource) (s : State) : State :=
  let s := { s with arbiter := { s.arbiter with holdActive := true } }
  let s := enqueueBroadcast .holdAll (recallPulses s)
  stopSweep .hold (raiseHoldOn src s)

/-- The release of a hold (R149). -/
def holdRelease (src : HoldSource) (s : State) : State :=
  lookOver (raise (.hold false src) { s with arbiter := { s.arbiter with holdActive := false } })

/-- The arbiter compares the hold state with its own after a change of the line or the flag (R148, R149) (DEDUCED,
assumption log 19). -/
def judgeHold (src : HoldSource) (s : State) : State :=
  match holdWanted s, s.arbiter.holdActive with
  | true, false => holdOnset src s
  | false, true => holdRelease src s
  | _, _ => s

/-- The hold line is sensed; a change of it is a wake cause and is judged by the arbiter (R148, R149, R211) (DEDUCED,
assumption log 19). -/
def senseHold (level : Bool) (s : State) : State :=
  if s.lines.hold = level then s
  else judgeHold .line (wakeCause { s with lines := { s.lines with hold := level } })

/-- The hold request flag is written; a change of it is a wake cause and is judged by the arbiter (R204, R211)
(DEDUCED, assumption log 19). -/
def requestHold (level : Bool) (s : State) : State :=
  if (cfg s).hold = level then s
  else judgeHold .office (wakeCause (modConfig (fun c => { c with hold := level }) s))

end Sys2Proof.Machine
end

