-- ==== Sys2Proof/Machine/Reports.lean ====
section
/-! DEFINITION. The fields of the replies that report an entry (R21, R49, R107, R163, R199, R202, R203) and the bodies
of notices (R217), coded as R213 states. -/

namespace Sys2Proof.Machine

open Sys2Proof.Wire

/-! ### Reports -/

/-- A code value with its first six digits blanked: the value of its last two digits, in the four octets of a code value
(R49, R199) (DESIGN CHOICE, assumption log 37). -/
def blanked (code : CodeValue) : List Byte := oct4 (BitVec.ofNat 32 (code.toNat % 100))

/-- The service status: IN_SERVICE 00h, NOT_IN_SERVICE 01h, NOT_FITTED 02h (R21). -/
def serviceStatus (st : CompState) : Byte :=
  match st with
  | .vacant | .held | .loading | .loaded | .releasing | .sweeping => 0x00
  | .barred | .maint => 0x01
  | .unfitted => 0x02

/-- The parcel reference of a compartment's linked record, as it reads: its check byte is not verified (R21) (DESIGN
CHOICE, assumption log 57). -/
def linkedRef (n : CompNo) (s : State) : Option Reference :=
  (s.comps[n].link.bind (fun k => parcelAt k s)).map Parcel.ref

/-- The compartment report; a terminal gets the reference absent (R21) (DEDUCED, assumption log 22). -/
def compartmentReport (n : CompNo) (office : Bool) (s : State) : List Byte :=
  let c := s.comps[n]
  num1 n.val ++ placeOctets c.place ++ [classCode c.cls, compStateCode c.state]
    ++ optional (fun k => [causeCode k]) c.cause
    ++ [phaseCode c.phase, doorCode c.door, occupancyCode c.occ] ++ flag c.pendingBar ++ flag c.suspect
    ++ optional oct4 (if office then linkedRef n s else none) ++ [serviceStatus c.state] ++ flag s.checker.flag

/-- The blanked code of the credential that names a slot (R49). -/
def recordCode (k : Slot) (s : State) : Option CodeValue :=
  (credentialOf k s).bind (fun w => s.creds.ways[w].map Credential.code)

/-- The fields of a record in the order of R41, but its check byte. -/
def recordFields (p : Parcel) : List Byte :=
  oct4 p.ref ++ [kindCode p.kind, parcelStateCode p.state, classCode p.cls] ++ flag p.upsize ++ num1 p.plan.val
    ++ num3 p.prepaid ++ num1 p.route.val ++ optional (fun n : CompNo => num1 n.val) p.comp
    ++ optional oct4 p.arrival ++ optional quoteOctets p.quote ++ num3 p.tendered ++ num3 p.change ++ flag p.suspect

/-- The record report from OFFICE (R49) (DEDUCED, assumption log 22). -/
def recordReport (k : Slot) (p : Parcel) (s : State) : List Byte :=
  num2 k.val ++ recordFields p ++ optional blanked (recordCode k s) ++ flag s.checker.flag

/-- The record report from a terminal: state, compartment, owed and window end, tendered total, integrity flag (R49)
(DEDUCED, assumption log 22); owed and window end stand together behind one presence octet (DESIGN CHOICE, assumption log
42). -/
def terminalReport (p : Parcel) (s : State) : List Byte :=
  [parcelStateCode p.state] ++ optional (fun n : CompNo => num1 n.val) p.comp
    ++ optional (fun q : Quote => num3 q.owed ++ oct4 q.endMinute ++ num1 q.endSecond.val) p.quote
    ++ num3 p.tendered ++ flag s.checker.flag

/-- A plan as READ reports it (R65). -/
def planEntry (p : Plan) : List Byte :=
  num2 p.free ++ num2 p.block ++ p.rates.toList.flatMap num3 ++ p.caps.toList.flatMap (optional num3)
    ++ flag p.peak ++ num2 p.expiry ++ num2 p.window

/-- A peak window as READ reports it (R67). -/
def peakEntry (w : PeakWindow) : List Byte := num2 w.first ++ num2 w.last ++ num2 w.multiplier

/-- A compartment entry as READ reports it: every field but the check byte, the link as a slot (R199) (DEDUCED,
assumption log 22). -/
def mapEntry (n : CompNo) (s : State) : List Byte :=
  let c := s.comps[n]
  num1 n.val ++ placeOctets c.place
    ++ [classCode c.cls, compStateCode c.state, phaseCode c.phase, doorCode c.door, occupancyCode c.occ]
    ++ optional (fun k : Slot => num2 k.val) c.link ++ optional (fun k => [causeCode k]) c.cause ++ flag c.pendingBar
    ++ num1 c.attempts.val ++ flag c.suspect

/-- A counter as the link carries it. -/
def counterOctets (set : Vector (BitVec 16) 62) (i : Fin 62) : List Byte := oct2 set[i]

/-- The relay permissions of a column: LAMP, TEXT, CHIME (R122). -/
def permissionOctets (p : RelayPermissions) : List Byte := flag p.lamp ++ flag p.text ++ flag p.chime

/-- A column entry as READ reports it (R122). -/
def columnEntryOctets (c : Col) (s : State) : List Byte :=
  let e := s.bus.columns[c]
  [columnStateCode e.state] ++ num2 e.count.val ++ permissionOctets (cfg s).relay[c]
    ++ [Counter.noAnswer c, .busy c, .stall c, .wake c].flatMap (fun k => counterOctets s.counters.live (counterIndex k))

/-- A parcel slot as READ reports it: 00h when FREE, else 01h and the record report (R199). -/
def parcelEntry (k : Slot) (s : State) : List Byte :=
  optional (fun p => recordReport k p s) (parcelAt k s)

/-- A credential as READ reports it: its kind, its blanked code and the fields of its kind (R199). -/
def credentialOctets (c : Credential) : List Byte :=
  match c.kind with
  | .pickup k => 0x00#8 :: blanked c.code ++ num2 k.val
  | .returnAuth k => 0x01#8 :: blanked c.code ++ num2 k.val
  | .courier i => 0x02#8 :: blanked c.code ++ num1 i.number.val ++ num1 i.route.val ++ flag i.deposit ++ flag i.sweep

/-- A credential way as READ reports it: 00h when free (R199). -/
def credentialEntry (w : Way) (s : State) : List Byte := optional credentialOctets s.creds.ways[w]

/-- A compartment's number, its state and its column's state (R107); one that a check failure has left without a place has
no column, reported UNKNOWN (DESIGN CHOICE, assumption log 43). -/
def standingOctets (s : State) (n : CompNo) : List Byte :=
  let col := match columnOf n s with
    | some c => s.bus.columns[c].state
    | none => .unknown
  num1 n.val ++ [compStateCode s.comps[n].state, columnStateCode col]

/-- A return-queue entry as READ reports it (R107); the compartment's part stands behind a presence octet, 00h alone for
a record without compartment (DESIGN CHOICE, assumption log 34). -/
def queueEntry (k : Slot) (p : Parcel) (s : State) : List Byte :=
  num2 k.val ++ oct4 p.ref ++ [kindCode p.kind] ++ num1 p.route.val ++ [parcelStateCode p.state]
    ++ optional (standingOctets s) p.comp

/-- The octet of a pulse end, its place in the list of R151: none 00h, ELAPSED 01h, CUT 02h (R151, R213). -/
def pulseEndOctet (e : PulseEnd) : Byte :=
  match e with
  | .none => 0x00
  | .elapsed => 0x01
  | .cut => 0x02

/-- A last trace as MAINT TRACE reports it; the edges behind their number (R163) (DEDUCED, assumption log 22). -/
def traceReport (l : LastTrace) : List Byte :=
  num1 l.comp.val ++ num1 l.pos.val ++ [pulseEndOctet l.pulseEnd] ++ num1 l.edges.length
    ++ l.edges.flatMap (fun e => num2 e.offset.toNat ++ [edgeCode e.dir]) ++ flag l.failed
    ++ [traceClassCode l.cls] ++ oct4 l.minute

/-- The eighteen fields of the configuration record, in the order of its table (R201). -/
def configFields (c : ConfigRecord) : List (List Byte) :=
  [num2 c.inactivity, num2 c.depositOpen, num2 c.releaseOpen, num2 c.reopen, flag c.expiryScan, num2 c.pollInterval,
    num2 c.wakeSettle, num2 c.pulseBudget, num2 c.pulseLength, num2 c.confirm, num2 c.ajar, num2 c.windowMin,
    num2 c.windowMax, num2 c.silence, flag c.scrubber, num2 c.idle, c.relay.toList.flatMap permissionOctets, flag c.hold]

/-- The fields of a CONFIG SET reply: each stored value and its mark (R202, R216) (DEDUCED, assumption log 22). -/
def configSetReport (c : ConfigRecord) (badFields : List Nat) : List Byte :=
  ((configFields c).zipIdx).flatMap (fun f => f.1 ++ flag (badFields.contains f.2))

/-- The reset-cause record (R208). -/
def resetCauseOctets (r : ResetCause) : List Byte := startCode r.last :: num2 r.warm.val ++ num2 r.engine.val

/-- The fields of a CONFIG GET reply (R203) (DEDUCED, assumption log 22). -/
def configGetReport (s : State) : List Byte :=
  (configFields (cfg s)).flatten ++ oct4 s.time.minute ++ num1 s.time.seconds.val ++ flag s.time.clockSet
    ++ flag s.checker.flag ++ flag s.lines.hold ++ flag (holdActive s) ++ [dormancyCode s.dormancy.state]
    ++ resetCauseOctets s.mgmt.resetCause ++ num2 s.checker.cursor.val

/-! ### Notices (R217) -/

/-- The octet of a deposit outcome. -/
def depositOutcomeCode : DepositOutcome → Byte
  | .stored => 0
  | .abandoned => 1
  | .notOpened => 2
  | .lockFault => 3
  | .barred => 4
  | .integrity => 5

/-- The octet of a collection outcome. -/
def collectOutcomeCode : CollectOutcome → Byte
  | .taken => 0
  | .untaken => 1
  | .notOpened => 2
  | .lockFault => 3
  | .barred => 4

/-- The octet of a sweep's end cause. -/
def sweepEndCode : SweepEnd → Byte
  | .tail => 0
  | .stop => 1
  | .signOff => 2
  | .hold => 3

/-- The octet of what a LINK notice says. -/
def linkNewsCode : LinkNews → Byte
  | .up => 0
  | .start .cold => 1
  | .start .warm => 2
  | .start .engine => 3

/-- The detail of a notice after its markers. -/
def noticeDetail : NoticeBody → List Byte
  | .tamper n .loadedOpened => [n, 0x00]
  | .tamper n .vacantOpened => [n, 0x01]
  | .integrity .compartment i => 0x00#8 :: oct2 i
  | .integrity .parcel i => 0x01#8 :: oct2 i
  | .integrity .credential i => 0x02#8 :: oct2 i
  | .lockFault n cls ref => n :: traceClassCode cls :: oct4 ref
  | .column a .absent => [a, 0x00]
  | .column a .returned => [a, 0x01]
  | .column a .mapMismatch => [a, 0x02]
  | .doorAjar n sec => n :: oct2 sec
  | .hold on .line => flag on ++ [0x00]
  | .hold on .office => flag on ++ [0x01]
  | .deposit ref n o arrival => oct4 ref ++ [n, depositOutcomeCode o] ++ optional oct4 arrival
  | .collected ref n o => oct4 ref ++ [n, collectOutcomeCode o]
  | .ret ref .queued => oct4 ref ++ [0x00]
  | .ret ref .swept => oct4 ref ++ [0x01]
  | .sweepEnd courier route taken skipped failed cause =>
    num1 courier.val ++ num1 route.val ++ oct2 taken ++ oct2 skipped ++ oct2 failed ++ [sweepEndCode cause]
  | .link news => [linkNewsCode news]
  | .drill step => [step]

/-- The markers octet: more 01h, drill 02h, sensor 04h, added together. -/
def markerOctet (d : Detail) : Byte :=
  (if d.more then 0x01#8 else 0) + (if d.drill then 0x02#8 else 0) + (if d.sensor then 0x04#8 else 0)

/-- The body of a notice: the class as its priority, the markers, the detail. -/
def noticeBody (d : Detail) : List Byte :=
  num1 (classIndex (bodyClass d.body)).val ++ markerOctet d :: noticeDetail d.body

/-- The frame of a notice: tag 0, origin 0Fh (R213). -/
def noticeFrame (d : Detail) : List Byte := frame classNotice 0x00 originOffice (noticeBody d)

/-- The frame of a reply: the tag and origin of its request (R213). -/
def replyFrame (r : Reply) : List Byte := frame classReply r.tag r.origin r.body

end Sys2Proof.Machine
end

