-- ==== Sys2Proof/Machine/Operands.lean ====
section
/-! DEFINITION. The operand forms of the requests: an octet or a number as carried, read as the index, the enumerated
value or the amount it stands for, or out of range (R213, R218); and who may send a request. -/

namespace Sys2Proof.Machine

/-- A request that comes from OFFICE alone is refused NOT_PERMITTED from a terminal (chapter 11) (DEDUCED, assumption
log 20). -/
def fromOffice (h : Header) (f : State → State) (s : State) : State :=
  match h.origin with
  | .office => f s
  | .terminal _ => refuse h .notPermitted s

/-- A request that comes from a terminal is refused NOT_PERMITTED from OFFICE (DEDUCED, assumption log 20). -/
def fromTerminal (h : Header) (f : Term → State → State) (s : State) : State :=
  match h.origin with
  | .terminal t => f t s
  | .office => refuse h .notPermitted s

/-- A number below a bound. -/
def below? (bound n : Nat) : Option (Fin bound) := if h : n < bound then some ⟨n, h⟩ else none

/-- A compartment number, 0 to 239. -/
def comp? (b : Byte) : Option CompNo := below? 240 b.toNat

/-- A column address, 1 to 12. -/
def col? (b : Byte) : Option Col := if b.toNat = 0 then none else below? 12 (b.toNat - 1)

/-- A position, 0 to 19. -/
def pos? (b : Byte) : Option Pos := below? 20 b.toNat

/-- A plan, 0 to 7. -/
def plan? (b : Byte) : Option PlanNo := below? 8 b.toNat

/-- A route, 0 to 31. -/
def route? (b : Byte) : Option Route := below? 32 b.toNat

/-- A courier number, 0 to 31. -/
def courier? (b : Byte) : Option CourierNo := below? 32 b.toNat

/-- A parcel slot, 0 to 383. -/
def slot? (w : BitVec 16) : Option Slot := below? 384 w.toNat

/-- Seconds within the minute, 0 to 59. -/
def seconds? (b : Byte) : Option (Fin 60) := below? 60 b.toNat

/-- A code value is in range (00_scope.md, Codes) (DEDUCED, assumption log 20). -/
def codeInRange (code : CodeValue) : Bool := code.toNat ≤ Config.maxCode

/-- An amount is in range (00_scope.md, Amounts). -/
def amountInRange (a : BitVec 24) : Bool := a.toNat ≤ Config.maxAmount

/-- A request names a compartment: out of range it is refused BAD_FIELD (DEDUCED, assumption log 20). -/
def namingComp (h : Header) (b : Byte) (f : CompNo → State → State) (s : State) : State :=
  match comp? b with
  | some n => f n s
  | none => refuse h .badField s

/-- The compartment manager reads an entry to take a request: a damaged one is handed to the record checker and the
request refused INTEGRITY (R1, R193) (DEDUCED, assumption log 21). -/
def readingComp (h : Header) (n : CompNo) (f : State → State) (s : State) : State :=
  if compGood n s then f s else refuse h .integrity (compartmentFailure n s)

/-- The live record that carries a reference, if any; where damage to a reference makes two live records carry it, the one
in the lowest slot (R41) (DESIGN CHOICE, assumption log 36). -/
def recordOf (ref : Reference) (s : State) : Option Slot :=
  (List.finRange 384).find? fun k =>
    match parcelAt k s with
    | some p => p.ref == ref
    | none => false

/-- The parcel store reads a record to take a request: a damaged one is quarantined and the request refused INTEGRITY
(R41, R192) (DEDUCED, assumption log 21). -/
def readingRecord (h : Header) (k : Slot) (f : State → State) (s : State) : State :=
  if parcelGood k s then f s else refuse h .integrity (quarantine k s)

/-- A request names a parcel reference: with no live record it is refused NO_MATCH; the record found is read
(DEDUCED, assumption log 21). -/
def namingRecord (h : Header) (ref : Reference) (f : Slot → Parcel → State → State) (s : State) : State :=
  match recordOf ref s with
  | none => refuse h .noMatch s
  | some k =>
    readingRecord h k (fun s =>
      match parcelAt k s with
      | some p => f k p s
      | none => refuse h .noMatch s) s

end Sys2Proof.Machine
end

