-- ==== Sys2Proof/Machine/Credentials.lean ====
section
/-! DEFINITION. The credential unit (chapter 2): lookups, insertions, failed lookups and lockouts, and the requests it
owns: SIGN_ON, SIGN_OFF, ENROL COURIER, REVOKE COURIER. -/

namespace Sys2Proof.Machine

open Sys2Proof.Wire

/-! ### The table (R22, R24, R25) -/

/-- The four ways of a code's bucket, in way order (R22). -/
def bucketWays (code : CodeValue) : List Way :=
  let b := code.toNat % 128
  have hb : b < 128 := Nat.mod_lt _ (by decide)
  [⟨4 * b, by omega⟩, ⟨4 * b + 1, by omega⟩, ⟨4 * b + 2, by omega⟩, ⟨4 * b + 3, by omega⟩]

/-- Every way of the list is verified; a damaged one is removed (R24, R194) (DEDUCED, assumption log 21). -/
def verifyWays (ws : List Way) (s : State) : State :=
  ws.foldl (fun s w => if wayGood w s then s else credentialFailure w s) s

/-- The way holds the code value. -/
def wayHolds (code : CodeValue) (s : State) (w : Way) : Bool :=
  match s.creds.ways[w] with
  | some c => c.code == code
  | none => false

/-- The result of a lookup (R24): a fitting entry, a failed lookup (unfitting or not found), or a damaged bucket. -/
inductive Lookup where
  | fitting (kind : CredKind)
  | failed
  | damaged
  deriving DecidableEq, Repr

/-- The result of a lookup in a bucket whose damaged ways are `bad`; a damaged way carries no code (R24). -/
def lookupResult (code : CodeValue) (needs : CredKind → Bool) (s : State) : Lookup :=
  let ways := bucketWays code
  match (ways.filter (fun w => wayGood w s)).find? (wayHolds code s) with
  | some w =>
    match s.creds.ways[w] with
    | some c => if needs c.kind then .fitting c.kind else .failed
    | none => .failed
  | none => if ways.all (fun w => wayGood w s) then .failed else .damaged

/-- A lookup: the bucket is read and verified, damaged ways are removed, and the result goes on to `f` (R24). -/
def lookingUp (code : CodeValue) (needs : CredKind → Bool) (f : Lookup → State → State) (s : State) : State :=
  f (lookupResult code needs s) (verifyWays (bucketWays code) s)

/-- A place found for an insertion (R25). -/
inductive Placement where
  | duplicate
  | full
  | way (w : Way)
  deriving DecidableEq, Repr

/-- Where a code would be inserted in its verified bucket; `old` is a way counted free (R25, R26). -/
def placeFor (code : CodeValue) (old : Option Way) (s : State) : Placement :=
  let ways := bucketWays code
  if ways.any (wayHolds code s) then .duplicate
  else
    match ways.find? (fun w => s.creds.ways[w].isNone || old == some w) with
    | some w => .way w
    | none => .full

/-- The kind is COURIER. -/
def isCourierKind : CredKind → Bool
  | .courier _ => true
  | _ => false

/-- The kind is PICKUP. -/
def isPickup : CredKind → Bool
  | .pickup _ => true
  | _ => false

/-- The kind is RETURN_AUTH. -/
def isReturnAuth : CredKind → Bool
  | .returnAuth _ => true
  | _ => false

/-- The slot a PICKUP or RETURN_AUTH entry names. -/
def kindSlot : CredKind → Option Slot
  | .pickup k => some k
  | .returnAuth k => some k
  | .courier _ => none

/-! ### Failed lookups and lockouts (R37 to R40) -/

/-- The length of the lockout begun at a level (R38). -/
def lockoutLength (level : Nat) : Nat := 60 * 2 ^ min level 4

/-- The fifth failed lookup begins a lockout (R38). -/
def beginLockout (h : Header) (t : Term) (s : State) : State :=
  let length := lockoutLength s.creds.terms[t].lockLevel
  let s := modTerm t (fun c =>
    { c with failed := 0, lockLevel := min 5 (c.lockLevel + 1), lockRemaining := length }) s
  refuseLockedOut h length (count .lockouts s)

/-- A failed lookup: counted, refused NO_MATCH with the failures left, or the lockout (R37). -/
def failedLookup (h : Header) (t : Term) (s : State) : State :=
  let s := count .wrongCodes s
  let failed := s.creds.terms[t].failed + 1
  if failed < 5 then refuseNoMatch h (5 - failed) (modTerm t (fun c => { c with failed := failed }) s)
  else beginLockout h t s

/-- A fitting lookup sets the failed count and the lockout level to 0 (R40). -/
def resetFailures (t : Term) (s : State) : State := modTerm t (fun c => { c with failed := 0, lockLevel := 0 }) s

/-- The lockout check of a request that presents a code (R39). -/
def unlessLockedOut (h : Header) (t : Term) (f : State → State) (s : State) : State :=
  let left := s.creds.terms[t].lockRemaining
  if 0 < left then refuseLockedOut h left s else f s

/-- The lookup of a request that presents a code: a code above 99999999 is no code and is refused BAD_FIELD with no
lookup; a failed lookup is refused and counted, a damaged one refused INTEGRITY (R24, R37, R218) (DEDUCED, assumption
log 20) (DEDUCED, assumption log 20). -/
def presenting (h : Header) (t : Term) (code : CodeValue) (needs : CredKind → Bool) (f : CredKind → State → State)
    (s : State) : State :=
  if codeInRange code then
    lookingUp code needs (fun r s =>
      match r with
      | .fitting k => f k s
      | .failed => failedLookup h t s
      | .damaged => refuse h .integrity s) s
  else refuse h .badField s

/-! ### Sign-on and sign-off (R31, R33, R34) -/

/-- Another terminal is signed on under the courier number. -/
def signedOnElsewhere (t : Term) (i : CourierNo) (s : State) : Bool :=
  allTerms.any fun u =>
    u != t &&
      match courierAt u s with
      | some j => j.number == i
      | none => false

/-- A fitting SIGN_ON: TERMINAL_BUSY when the courier is signed on elsewhere, else the terminal is COURIER (R33). -/
def signOnFitting (h : Header) (t : Term) (k : CredKind) (s : State) : State :=
  let s := resetFailures t s
  match k with
  | .courier i =>
    if signedOnElsewhere t i.number s then refuse h .terminalBusy s
    else
      let s := modTerm t (fun c =>
        { c with mode := .courier i, signOffPending := false, lastQuoteLapsed := false
                 inactivity := (cfg s).inactivity }) s
      answer h (num1 i.number.val ++ num1 i.route.val) s
  | _ => s

/-- SIGN_ON (R31, R33). -/
def takeSignOn (h : Header) (code : CodeValue) (s : State) : State :=
  fromTerminal h (fun t s =>
    if s.creds.terms[t].mode = .idle then
      unlessLockedOut h t (presenting h t code isCourierKind (signOnFitting h t)) s
    else refuse h .terminalBusy s) s

/-- SIGN_OFF (R31, R34). -/
def takeSignOff (h : Header) (s : State) : State :=
  fromTerminal h (fun t s =>
    match courierAt t s with
    | none => refuse h .notSignedOn s
    | some _ =>
      if s.creds.terms[t].openJob.isSome then refuse h .terminalBusy s
      else answer h [] (signOff t s)) s

/-! ### Enrolment (R28, R29) -/

/-- The courier number is held by a COURIER entry or by a terminal in COURIER mode (R28). -/
def courierHeld (s : State) (i : CourierNo) : Bool :=
  courierEnrolled i s ||
    allTerms.any fun t =>
      match courierAt t s with
      | some j => j.number == i
      | none => false

/-- The courier number an enrolment is given: the lowest not held (R28). -/
def freeCourier (s : State) : Option CourierNo := (List.finRange 32).find? (fun i => !courierHeld s i)

/-- The insertion of a courier into its verified bucket, in the order of R25. -/
def insertCourier (h : Header) (code : CodeValue) (route : Route) (deposit sweep : Bool) (s : State) : State :=
  match placeFor code none s, freeCourier s with
  | .duplicate, _ => refuse h .duplicateCode s
  | _, none => refuse h .courierLimit s
  | .full, some _ => refuse h .bucketFull s
  | .way w, some i =>
    let info : CourierInfo := { number := i, route := route, deposit := deposit, sweep := sweep }
    answer h (num1 i.val) (setWay w { kind := .courier info, code := code, check := 0 } s)

/-- ENROL COURIER (R28). -/
def takeEnrol (h : Header) (code : CodeValue) (route deposit sweep : Byte) (s : State) : State :=
  fromOffice h (fun s =>
    match codeInRange code, route? route, yesNo? deposit, yesNo? sweep with
    | true, some r, some d, some w => insertCourier h code r d w (verifyWays (bucketWays code) s)
    | _, _, _, _ => refuse h .badField s) s

/-- The way of the COURIER entry that carries a number (R29); where a damaged way makes two entries carry it, the lowest
(DESIGN CHOICE, assumption log 36). -/
def courierWay (i : CourierNo) (s : State) : Option Way :=
  (List.finRange 512).find? fun w =>
    match s.creds.ways[w] with
    | some c =>
      match c.kind with
      | .courier j => j.number == i
      | _ => false
    | none => false

/-- The terminals signed on under a number are signed off, at once or at the end of their open job (R36). -/
def removeCourierFrom (i : CourierNo) (s : State) : State :=
  allTerms.foldl (fun s t =>
    match courierAt t s with
    | some j => if j.number = i then courierRemoved t s else s
    | none => s) s

/-- REVOKE COURIER (R29). -/
def takeRevoke (h : Header) (courier : Byte) (s : State) : State :=
  fromOffice h (fun s =>
    match courier? courier with
    | none => refuse h .badField s
    | some i =>
      match courierWay i s with
      | none => refuse h .noMatch s
      | some w => answer h [] (removeCourierFrom i (freeWay w s))) s

end Sys2Proof.Machine
end

