-- ==== Sys2Proof/Machine/ParcelRequests.lean ====
section
/-! DEFINITION. The requests the parcel store owns: ADVISE, WITHDRAW, REISSUE, STATUS (3.2, 1.8), and TIME SET, which
the time base owns (4.1). -/

namespace Sys2Proof.Machine

open Sys2Proof.Wire

/-! ### ADVISE (R46) -/

/-- The fields of an advice in their ranges. -/
structure Advice where
  ref : Reference
  kind : ParcelKind
  cls : SizeClass
  upsize : Bool
  plan : PlanNo
  prepaid : Amount
  route : Route
  code : CodeValue
  deriving DecidableEq, Repr

/-- The advice an ADVISE carries; none when a field is out of its range (R46 step 2). -/
def advice? (a : AdviceFields) : Option Advice :=
  match parcelKind? a.kind, sizeClass? a.cls, yesNo? a.upsize, plan? a.plan, route? a.route,
    amountInRange a.prepaid && codeInRange a.code with
  | some kind, some cls, some up, some plan, some route, true =>
    some { ref := a.ref, kind := kind, cls := cls, upsize := up, plan := plan, prepaid := a.prepaid.toNat
           route := route, code := a.code }
  | _, _, _, _, _, _ => none

/-- Every live record is verified, in slot order; a damaged one is quarantined and keeps its slot (R46 step 3). -/
def verifyRecords (s : State) : State :=
  (List.finRange 384).foldl (fun s k => if parcelGood k s then s else quarantine k s) s

/-- The record an advice writes (R46). -/
def advisedRecord (a : Advice) : Parcel :=
  { ref := a.ref, kind := a.kind, state := .advised, cls := a.cls, upsize := a.upsize, plan := a.plan
    prepaid := a.prepaid, route := a.route, comp := none, arrival := none, quote := none, tendered := 0, change := 0
    suspect := false, check := 0 }

/-- The credential an advice inserts: PICKUP for a DELIVERY, RETURN_AUTH for a RETURN (R46 step 5). -/
def credKindFor (kind : ParcelKind) (k : Slot) : CredKind :=
  match kind with
  | .delivery => .pickup k
  | .ret => .returnAuth k

/-- A taken advice: the slot leaves the list with the insertion, and the record is written ADVISED (R44, R46). -/
def writeAdvice (a : Advice) (k : Slot) (rest : List Slot) (w : Way) (s : State) : State :=
  let s := setWay w { kind := credKindFor a.kind k, code := a.code, check := 0 } s
  setParcel k (advisedRecord a) { s with parcels := { s.parcels with free := rest } }

/-- Steps 4 and 5 of R46. -/
def insertAdvice (h : Header) (a : Advice) (s : State) : State :=
  match s.parcels.free with
  | [] => refuse h .tableFull s
  | k :: rest =>
    let s := verifyWays (bucketWays a.code) s
    match placeFor a.code none s with
    | .duplicate => refuse h .duplicateCode s
    | .full => refuse h .bucketFull s
    | .way w => answer h (num2 k.val) (writeAdvice a k rest w s)

/-- ADVISE (R46). -/
def takeAdvise (h : Header) (f : AdviceFields) (s : State) : State :=
  fromOffice h (fun s =>
    match advice? f with
    | none => refuse h .badField s
    | some a =>
      let s := verifyRecords s
      if (recordOf a.ref s).isSome then refuse h .duplicateRef s else insertAdvice h a s) s

/-! ### WITHDRAW, REISSUE (R47, R48) -/

/-- WITHDRAW (R47). -/
def takeWithdraw (h : Header) (ref : Reference) (s : State) : State :=
  fromOffice h (namingRecord h ref (fun k p s =>
    if p.state = .advised then answer h [] (retireRecord k s) else refuse h .wrongState s)) s

/-- The replacement of a record's code: the new bucket is verified, the old entry found, and the new code placed with
the old way counted free (R26). -/
def replaceCode (h : Header) (k : Slot) (p : Parcel) (code : CodeValue) (s : State) : State :=
  let s := verifyWays (bucketWays code) s
  let old := credentialOf k s
  match placeFor code old s with
  | .duplicate => refuse h .duplicateCode s
  | .full => refuse h .bucketFull s
  | .way w =>
    let kind := ((old.bind (fun v => s.creds.ways[v])).map Credential.kind).getD (credKindFor p.kind k)
    answer h [] (setWay w { kind := kind, code := code, check := 0 } (removeCredentialOf k s))

/-- REISSUE (R48). -/
def takeReissue (h : Header) (ref : Reference) (code : CodeValue) (s : State) : State :=
  fromOffice h (fun s =>
    if codeInRange code then
      namingRecord h ref (fun k p s =>
        if p.state = .quarantined then refuse h .wrongState s else replaceCode h k p code s) s
    else refuse h .badField s) s

/-! ### STATUS (R21, R49) -/

/-- The origin is OFFICE. -/
def isOffice (h : Header) : Bool := h.origin == .office

/-- STATUS naming a compartment (R21). -/
def takeStatusCompartment (h : Header) (b : Byte) (s : State) : State :=
  namingComp h b (fun n => readingComp h n (fun s => answer h (compartmentReport n (isOffice h) s) s)) s

/-- STATUS naming a reference, from OFFICE: a failing record already QUARANTINED is reported all the same (R49), as the
record checker has rewritten it and with the flag it has set (R192, R195) (DESIGN CHOICE, assumption log 60). -/
def statusOffice (h : Header) (k : Slot) (p : Parcel) (s : State) : State :=
  if parcelGood k s then answer h (recordReport k p s) s
  else
    let s := quarantine k s
    if p.state = .quarantined then
      match parcelAt k s with
      | some q => answer h (recordReport k q s) s
      | none => refuse h .integrity s
    else refuse h .integrity s

/-- STATUS naming a reference, from a terminal: the record of its open job alone (R49). -/
def statusTerminal (h : Header) (t : Term) (k : Slot) (s : State) : State :=
  if s.creds.terms[t].openJob = some k then
    readingRecord h k (fun s =>
      match parcelAt k s with
      | some p => if p.state = .quarantined then refuse h .integrity s else answer h (terminalReport p s) s
      | none => refuse h .noMatch s) s
  else refuse h .noMatch s

/-- STATUS naming a parcel reference (R49). -/
def takeStatusParcel (h : Header) (ref : Reference) (s : State) : State :=
  match recordOf ref s with
  | none => refuse h .noMatch s
  | some k =>
    match h.origin with
    | .terminal t => statusTerminal h t k s
    | .office =>
      match parcelAt k s with
      | some p => statusOffice h k p s
      | none => refuse h .noMatch s

/-! ### TIME SET (R63) -/

/-- TIME SET (R63). -/
def takeTimeSet (h : Header) (minute : Minute) (seconds : Byte) (s : State) : State :=
  fromOffice h (fun s =>
    match seconds? seconds with
    | none => refuse h .badField s
    | some sec =>
      answer h (oct4 minute ++ num1 sec.val) { s with time := { minute := minute, seconds := sec, clockSet := true } }) s

end Sys2Proof.Machine
end

