-- ==== Sys2Proof/Machine/DepositRequests.lean ====
section
/-! DEFINITION. The requests of the deposit engine: DEPOSIT, RETURN_DROP, ABANDON (3.3). -/

namespace Sys2Proof.Machine

open Sys2Proof.Wire

/-- The checks that need no record: the clock, then the hold (R51, R52, R64). -/
def unlessClockOrHold (h : Header) (f : State → State) (s : State) : State :=
  if !s.time.clockSet then refuse h .clockUnset s
  else if holdActive s then refuse h .onHold s
  else f s

/-- A taken deposit: the compartment HELD and linked, the record DEPOSITING, the open job and the marker set, a grant
asked for in class DEPOSIT (R7, R51). -/
def openDeposit (t : Term) (k : Slot) (n : CompNo) (s : State) : State :=
  let s := takeCompartment n k s
  let s := setMarker t (some { slot := k, comp := n }) (setOpenJob t k s)
  requestGrant n .deposit s

/-- Allocation: NO_COMPARTMENT, or INTEGRITY when the entry chosen fails its check, or the deposit is taken and
answered with the compartment and its class (R7, R8, R51). -/
def allocate (h : Header) (t : Term) (k : Slot) (p : Parcel) (s : State) : State :=
  match findCompartment p.cls p.upsize s with
  | none => refuse h .noCompartment s
  | some n =>
    readingComp h n (fun s =>
      answer h (num1 n.val ++ [classCode s.comps[n].cls]) (openDeposit t k n s)) s

/-- The record of a DEPOSIT is judged (R51 steps 5 onward). -/
def depositOn (h : Header) (t : Term) (k : Slot) (p : Parcel) (s : State) : State :=
  if p.kind = .ret then refuse h .wrongState s
  else
    match p.state with
    | .advised => allocate h t k p s
    | .depositing => refuse h .inProgress s
    | _ => refuse h .wrongState s

/-- DEPOSIT (R31, R51). -/
def takeDeposit (h : Header) (ref : Reference) (s : State) : State :=
  fromTerminal h (fun t s =>
    let c := s.creds.terms[t]
    match c.mode with
    | .courier i =>
      if c.signOffPending then refuse h .notSignedOn s
      else if !i.deposit then refuse h .notPermitted s
      else if c.openJob.isSome then refuse h .terminalBusy s
      else unlessClockOrHold h (namingRecord h ref (depositOn h t)) s
    | _ => refuse h .notSignedOn s) s

/-- The record a fitting RETURN_DROP names is judged (R52). -/
def returnOn (h : Header) (t : Term) (k : Slot) (s : State) : State :=
  readingRecord h k (fun s =>
    match parcelAt k s with
    | none => refuse h .noMatch s
    | some p =>
      match p.state with
      | .advised => allocate h t k p s
      | .depositing => refuse h .inProgress s
      | _ => refuse h .wrongState s) s

/-- The context check of COLLECT and RETURN_DROP: a COURIER is NOT_PERMITTED, an open job TERMINAL_BUSY (R31). -/
def customerAt (h : Header) (t : Term) (f : State → State) (s : State) : State :=
  match courierAt t s with
  | some _ => refuse h .notPermitted s
  | none => if s.creds.terms[t].openJob.isSome then refuse h .terminalBusy s else f s

/-- RETURN_DROP (R31, R52). -/
def takeReturnDrop (h : Header) (code : CodeValue) (s : State) : State :=
  fromTerminal h (fun t =>
    customerAt h t (unlessLockedOut h t (unlessClockOrHold h
      (presenting h t code isReturnAuth (fun kind s =>
        match kindSlot kind with
        | some k => returnOn h t k (resetFailures t s)
        | none => s))))) s

/-- An ABANDON whose request can be withdrawn takes the EMPTY outcome; a record that is not DEPOSITING, or that is not the
one in the compartment, keeps its state (R43, R54) (DESIGN CHOICE, assumption log 28). -/
def abandonOn (h : Header) (m : DepositMarker) (s : State) : State :=
  if recordIn m.slot [.depositing] s && s.comps[m.comp].link == some m.slot then answer h [] (depositBack m.comp m.slot .abandoned (withdraw m.comp s))
  else refuse h .wrongState s

/-- ABANDON (R54). The marker's compartment is verified first, whatever state it reads, and the record only once the
withdrawal succeeds; R54 gives INTEGRITY no place (DESIGN CHOICE, assumption log 59). -/
def takeAbandon (h : Header) (s : State) : State :=
  fromTerminal h (fun t s =>
    match s.deposit.markers[t] with
    | none => refuse h .wrongState s
    | some m =>
      readingComp h m.comp (fun s =>
        if s.comps[m.comp].state = .held ∧ s.comps[m.comp].phase = .awaitGrant ∧ withdrawSucceeds m.comp s = true then
          readingRecord h m.slot (abandonOn h m) s
        else refuse h .wrongState s) s) s

end Sys2Proof.Machine
end

