-- ==== Sys2Proof/Machine/CollectionRequests.lean ====
section
/-! DEFINITION. The requests of the collection engine: COLLECT, TENDER, CANCEL (chapter 5). -/

namespace Sys2Proof.Machine

open Sys2Proof.Wire

/-! ### COLLECT (R81 to R84) -/

/-- A taken COLLECT: QUOTING, the open job, the context, and the entry at the tail of the computation queue (R83). It
is not answered yet. -/
def startQuoting (h : Header) (t : Term) (k : Slot) (s : State) : State :=
  let s := modParcel k (fun p => { p with state := .quoting }) s
  let s := setContext t (.quoting k) (setOpenJob t k s)
  setCharge (s.charge.queue ++ [{ terminal := t, slot := k, tag := h.tag }]) s.charge.running s

/-- A COLLECT on a STORED record whose column and compartment allow it: expired, or taken (R83 steps 3 and 4). -/
def collectStored (h : Header) (t : Term) (k : Slot) (p : Parcel) (s : State) : State :=
  if isExpired k p s.time.minute s then
    refuse h .expired (joinReturnQueue k false (modParcel k (fun p => { p with state := .returnQueued }) s))
  else startQuoting h t k s

/-- The money of a quote as the outcomes carry it: fee, owed, clamp marker (R216). -/
def quoteMoney (q : Option Quote) : List Byte :=
  num3 ((q.map Quote.fee).getD 0) ++ num3 ((q.map Quote.owed).getD 0) ++ flag ((q.map Quote.clamped).getD false)

/-- A re-open release: no quote and no payment (R84). -/
def reopenRelease (h : Header) (t : Term) (k : Slot) (n : CompNo) (p : Parcel) (s : State) : State :=
  let s := modParcel k (fun p => { p with state := .releasing }) s
  let s := setReopen (s.collection.reopen.filter (fun e => e.slot != k)) s
  let s := setContext t (.releasing k none) (setOpenJob t k s)
  answer h (0x01#8 :: quoteMoney p.quote ++ [compByte n]) (releaseAndAsk n k .releasing .collect s)

/-- The compartment of a STORED or UNTAKEN record: a damaged entry INTEGRITY, judged before the column, the lookup a
fitting one (DESIGN CHOICE, assumption log 33); a column not PRESENT COLUMN_DOWN, with the failed count and the level as
they were; BARRED, or in MAINT, HELD_FOR_STAFF; else on to `f` (R17, R40, R83, R84). -/
def collectableComp (h : Header) (t : Term) (p : Parcel) (f : CompNo → State → State) (s : State) : State :=
  match p.comp with
  | none => refuse h .columnDown s
  | some n =>
    if compGood n s then
      if !onPresentColumn n s then refuse h .columnDown s
      else
        let s := resetFailures t s
        if outOfService n s then refuse h .heldForStaff s else f n s
    else refuse h .integrity (compartmentFailure n (resetFailures t s))

/-- A COLLECT whose record was read is judged by the record's state (R82). -/
def collectOn (h : Header) (t : Term) (k : Slot) (p : Parcel) (s : State) : State :=
  match p.state with
  | .stored => collectableComp h t p (fun _ => collectStored h t k p) s
  | .untaken => collectableComp h t p (fun n => reopenRelease h t k n p) s
  | .quoting | .due | .releasing => refuse h .inProgress (resetFailures t s)
  | .returnQueued | .sweeping => refuse h .expired (resetFailures t s)
  | .stranded | .quarantined => refuse h .heldForStaff (resetFailures t s)
  | .advised | .depositing => refuse h .wrongState (resetFailures t s)

/-- The record a fitting COLLECT names is read (R81 step 5). -/
def collectRecord (h : Header) (t : Term) (k : Slot) (s : State) : State :=
  if parcelGood k s then
    match parcelAt k s with
    | some p => collectOn h t k p s
    | none => refuse h .noMatch (resetFailures t s)
  else refuse h .integrity (quarantine k (resetFailures t s))

/-- A VOID context is taken as NONE once the first check has passed (R81). -/
def clearVoid (t : Term) (s : State) : State :=
  match s.collection.contexts[t] with
  | .void _ => setContext t .none s
  | _ => s

/-- The clock check of COLLECT (R81 step 3). -/
def unlessClockUnset (h : Header) (f : State → State) (s : State) : State :=
  if s.time.clockSet then f s else refuse h .clockUnset s

/-- COLLECT (R81). -/
def takeCollect (h : Header) (code : CodeValue) (s : State) : State :=
  fromTerminal h (fun t =>
    customerAt h t (fun s =>
      unlessLockedOut h t (unlessClockUnset h (presenting h t code isPickup (fun kind s =>
        match kindSlot kind with
        | some k => collectRecord h t k s
        | none => s))) (clearVoid t s))) s

/-! ### TENDER (R88 to R90) -/

/-- The fields of a tender's reply (R216). -/
def tenderFields : TenderReply → List Byte
  | .part remaining => 0x02#8 :: num3 remaining
  | .settled change n => 0x03#8 :: num3 change ++ [compByte n]

/-- A taken tender: the total rises; PART below the owed amount, else settlement (R88, R89). -/
def addTender (h : Header) (t : Term) (k : Slot) (n : CompNo) (window : Nat) (owed total : Amount) (tref : BitVec 32)
    (s : State) : State :=
  let s := modParcel k (fun p => { p with tendered := total }) s
  if total < owed then
    let r := TenderReply.part (owed - total)
    answer h (tenderFields r) (setContext t (.due k window (some { tref := tref, reply := r })) s)
  else
    let r := TenderReply.settled (total - owed) n
    answer h (tenderFields r) (settlement t k n owed (some { tref := tref, reply := r }) s)

/-- A tender on a DUE context whose record was read good: the compartment, the range of the total, the tender (R88
steps 8 and 9), a MAINT compartment as a BARRED one (R17); a record that is not DUE stays as it is (R43) (DESIGN CHOICE,
assumption log 28). -/
def tenderOn (h : Header) (t : Term) (k : Slot) (p : Parcel) (window amount : Nat) (tref : BitVec 32) (s : State) :
    State :=
  match p.comp, p.quote with
  | some n, some q =>
    readingComp h n (fun s =>
      if p.state ≠ .due then refuse h .wrongState s
      else if outOfService n s then refuse h .heldForStaff s
      else if Config.maxAmount < p.tendered + amount then refuse h .amountRange s
      else addTender h t k n window q.owed (p.tendered + amount) tref s) s
  | _, _ => refuse h .heldForStaff s

/-- The last tender of a context, when its reference is the one tendered (R90). -/
def repeated? (last : Option LastTender) (tref : BitVec 32) : Option TenderReply :=
  match last with
  | some l => if l.tref = tref then some l.reply else none
  | none => none

/-- The context check of TENDER (R88 steps 3 to 8). -/
def tenderAt (h : Header) (t : Term) (amount : Nat) (tref : BitVec 32) (s : State) : State :=
  match s.collection.contexts[t] with
  | .void _ => refuse h .integrity (setContext t .none s)
  | .none => refuse h (if s.creds.terms[t].lastQuoteLapsed then .quoteLapsed else .noQuote) s
  | .quoting _ => refuse h .inProgress s
  | .releasing _ last =>
    match repeated? last tref with
    | some r => answer h (tenderFields r) s
    | none => refuse h .wrongState s
  | .due k window last =>
    match repeated? last tref with
    | some r => answer h (tenderFields r) s
    | none =>
      readingRecord h k (fun s =>
        match parcelAt k s with
        | some p => tenderOn h t k p window amount tref s
        | none => refuse h .noQuote s) s

/-- TENDER (R88). -/
def takeTender (h : Header) (amount : BitVec 24) (tref : BitVec 32) (s : State) : State :=
  fromTerminal h (fun t s =>
    if 1 ≤ amount.toNat ∧ amount.toNat ≤ Config.maxAmount then tenderAt h t amount.toNat tref s
    else refuse h .badField s) s

/-! ### CANCEL, and the ends of windows (R91, R92, R96) -/

/-- The collection of a terminal is given up: its record returns to STORED with the tendered total credited, its open
job ends, the context returns to NONE (R92, R93). -/
def giveUp (t : Term) (k : Slot) (lapsed : Bool) (p : Parcel) (s : State) : State :=
  setContext t .none (endOpenJob t k lapsed (returnToStored k p.tendered s))

/-- The prepaid credit of a record as a CANCEL reports it. -/
def prepaidOf (k : Slot) (s : State) : List Byte := num3 (((parcelAt k s).map Parcel.prepaid).getD 0)

/-- A queued computation of the slot is discarded, and the place reserved for its COLLECT is released (R76, R179). -/
def discardCharge (k : Slot) (s : State) : State :=
  if s.charge.queue.any (fun e => e.slot == k) then releasePlace (dropCharge k s) else s

/-- A cancel is answered with the prepaid credit after it (R92). -/
def cancelled (h : Header) (t : Term) (k : Slot) (p : Parcel) (s : State) : State :=
  let s := giveUp t k false p s
  answer h (prepaidOf k s) s

/-- A CANCEL reads the record: a damaged one is handled by R99 and refused INTEGRITY; one that is in no quote keeps its
state (R41, R43, R92) (DESIGN CHOICE, assumption log 28). `discard` is what becomes of the record's computation. -/
def cancelOn (h : Header) (t : Term) (k : Slot) (expected : ParcelState) (discard : State → State) (s : State) : State :=
  readingRecord h k (fun s =>
    match parcelAt k s with
    | some p => if p.state = expected then cancelled h t k p (discard s) else refuse h .wrongState s
    | none => refuse h .wrongState s) s

/-- CANCEL: in QUOTING the computation is discarded with it; in DUE there is none (R76, R92). -/
def takeCancel (h : Header) (s : State) : State :=
  fromTerminal h (fun t s =>
    match s.collection.contexts[t] with
    | .void _ => refuse h .integrity (setContext t .none s)
    | .quoting k => cancelOn h t k .quoting (discardCharge k) s
    | .due k _ _ => cancelOn h t k .due id s
    | .releasing _ _ => refuse h .wrongState s
    | .none => refuse h .wrongState s) s

/-- The payment window of a DUE quote reaches 0: the quote lapses (R91). A damaged record is quarantined instead, its
context VOID (R99). -/
def lapse (t : Term) (s : State) : State :=
  match s.collection.contexts[t] with
  | .due k _ _ => onRecord k [.due] (giveUp t k true) s
  | _ => s

end Sys2Proof.Machine
end

