-- ==== Sys2Proof/Machine/ReturnRequests.lean ====
section
/-! DEFINITION. The requests of the return engine: SWEEP_START, SWEEP_STOP, RETIRE (chapter 6), and the expiry
scanner's visits (6.1). -/

namespace Sys2Proof.Machine

open Sys2Proof.Wire

/-! ### SWEEP_START, SWEEP_STOP (R110, R119) -/

/-- The number of eligible records of a route in the queue, by the four conditions of R111; the walk verifies each
record when it examines it (R110, R111) (DEDUCED, assumption log 21). -/
def eligibleCount (route : Route) (s : State) : Nat := (s.returns.queue.filter (fun k => sweepEligible route k s)).length

/-- The sweep context as a start sets it (R110). -/
def newSweep (t : Term) (i : CourierInfo) : Sweep :=
  { phase := .walking, terminal := t, courier := i.number, route := i.route, cursor := 0, current := none, taken := 0
    skipped := 0, failed := 0, cause := none }

/-- The compartment of the sweep's current record. -/
def sweptComp (s : State) : Option CompNo :=
  ((s.returns.sweep.bind Sweep.current).bind (fun k => parcelAt k s)).bind Parcel.comp

/-- The walk's first examination of a starting sweep, and its reply: the eligible count and the compartment taken, if
any (R110, R111) (DEDUCED, assumption log 9). -/
def startSweep (h : Header) (t : Term) (i : CourierInfo) (s : State) : State :=
  let number := eligibleCount i.route s
  let s := walkOn (setSweep (some (newSweep t i)) s)
  answer h (num2 number ++ ((sweptComp s).toList.map compByte)) s

/-- SWEEP_START (R31, R110). -/
def takeSweepStart (h : Header) (s : State) : State :=
  fromTerminal h (fun t s =>
    let c := s.creds.terms[t]
    match c.mode with
    | .courier i =>
      if c.signOffPending then refuse h .notSignedOn s
      else if !i.sweep then refuse h .notPermitted s
      else if s.returns.sweep.isSome then refuse h .sweepActive s
      else if holdActive s then refuse h .onHold s
      else if eligibleCount i.route s = 0 then refuse h .nothingToSweep s
      else startSweep h t i s
    | _ => refuse h .notSignedOn s) s

/-- SWEEP_STOP (R31, R119). -/
def takeSweepStop (h : Header) (s : State) : State :=
  fromTerminal h (fun t s =>
    match courierAt t s with
    | none => refuse h .notSignedOn s
    | some _ =>
      match s.returns.sweep with
      | none => refuse h .wrongState s
      | some w => if w.terminal = t then answer h [] (stopSweep .stop s) else refuse h .notPermitted s) s

/-! ### RETIRE (R108) -/

/-- A LOADED compartment that may still hold the item takes a pending bar before it is freed (R14, R108). -/
def barUnlessEmpty (n : CompNo) (s : State) : State :=
  if s.comps[n].state = .loaded ∧ s.comps[n].occ ≠ .empty then modComp n (fun c => { c with pendingBar := true }) s
  else s

/-- RETIRE (R108). A damaged entry of the record's compartment is barred INTEGRITY, and the record retired all the same
(DESIGN CHOICE, assumption log 40). -/
def takeRetire (h : Header) (ref : Reference) (s : State) : State :=
  fromOffice h (namingRecord h ref (fun k p s =>
    if p.state = .returnQueued then
      let s := match p.comp with
        | some n => barUnlessEmpty n (verifyComp n s)
        | none => s
      answer h [] (retireRecord k s)
    else refuse h .wrongState s)) s

/-! ### The expiry scanner (R102, R103) -/

/-- A minute boundary reaches the return engine (R102). -/
def boundary (minute : Minute) (s : State) : State :=
  let c := s.returns.scanner
  if !(cfg s).expiryScan || !s.time.clockSet then s
  else if c.scanning then setScanner { c with due := true } s
  else setScanner { c with scanning := true, minute := minute, cursor := 0 } s

/-- The record in a slot is judged as the scanner finds it: a damaged one is quarantined, a STORED one at or beyond
its expiry joins the return queue (R103). -/
def judgeExpiry (k : Slot) (minute : Minute) (s : State) : State :=
  match parcelAt k s with
  | none => s
  | some p =>
    if !parcelGood k s then quarantine k s
    else if p.state = .stored ∧ isExpired k p minute s = true then
      joinReturnQueue k false (modParcel k (fun p => { p with state := .returnQueued }) s)
    else s

/-- The cursor after a visit: the next slot, or after slot 383 a new scan when one is due, else IDLE (R102) (DEDUCED,
assumption log 24). -/
def scanOn (k : Slot) (s : State) : State :=
  let c := s.returns.scanner
  match below? 384 (k.val + 1) with
  | some next => setScanner { c with cursor := next } s
  | none =>
    if c.due then setScanner { c with due := false, cursor := 0, minute := s.time.minute } s
    else setScanner { c with scanning := false, cursor := 0 } s

/-- The scanner visits the slot at its cursor (R103); it visits while a scan is under way. -/
def scanVisit (s : State) : State :=
  let c := s.returns.scanner
  if c.scanning then scanOn c.cursor (judgeExpiry c.cursor c.minute s) else s

end Sys2Proof.Machine
end

