-- ==== Sys2Proof/Machine/CompartmentRequests.lean ====
section
/-! DEFINITION. The requests of the compartment manager: BAR, UNBAR, MAINT ENTER, MAINT TEST PULSE, MAINT EXIT (1.6,
1.7), and the map write (1.3). -/

namespace Sys2Proof.Machine

open Sys2Proof.Wire

/-! ### BAR, UNBAR (R14, R16) -/

/-- BAR on an entry read good (R14). -/
def barOn (h : Header) (n : CompNo) (s : State) : State :=
  match s.comps[n].state with
  | .unfitted => refuse h .wrongState s
  | .barred => answer h [] s
  | .vacant =>
    answer h [] (modComp n (fun c => { c with state := .barred, cause := some .management }) (leaveFree n s))
  | _ => answer h [] (modComp n (fun c => { c with pendingBar := true }) s)

/-- BAR (R14). -/
def takeBar (h : Header) (b : Byte) (s : State) : State :=
  fromOffice h (namingComp h b (fun n => readingComp h n (barOn h n))) s

/-- The first row of UNBAR: barred for the map, and the count still does not cover the position (R16). -/
def stillMismatched (n : CompNo) (s : State) : Bool :=
  match s.comps[n].place with
  | some p =>
    s.comps[n].cause == some .mapMismatch && columnPresent p.col s && s.bus.columns[p.col].count.val ≤ p.pos.val
  | none => false

/-- A taken UNBAR: the cause absent, the suspect marker clear, the attempts 0 (R16). -/
def unbarTo (n : CompNo) (st : CompState) (s : State) : State :=
  joinFree n (modComp n (fun c => { c with state := st, cause := none, suspect := false, attempts := 0 }) s)

/-- The linked record waits to be cleared by staff, by the state it reads: its check byte is not verified (R16) (DESIGN
CHOICE, assumption log 57). -/
def awaitsStaff (k : Slot) (s : State) : Bool :=
  match parcelAt k s with
  | some p => p.state == .stranded || p.state == .quarantined
  | none => false

/-- UNBAR on an entry read good (R16). -/
def unbarOn (h : Header) (n : CompNo) (s : State) : State :=
  let c := s.comps[n]
  if c.state = .barred then
    if stillMismatched n s then refuse h .wrongState s
    else
      match c.link with
      | none => answer h [] (unbarTo n .vacant s)
      | some k => if awaitsStaff k s then refuse h .wrongState s else answer h [] (unbarTo n .loaded s)
  else if c.pendingBar then answer h [] (modComp n (fun c => { c with pendingBar := false }) s)
  else refuse h .wrongState s

/-- UNBAR (R16). -/
def takeUnbar (h : Header) (b : Byte) (s : State) : State :=
  fromOffice h (namingComp h b (fun n => readingComp h n (unbarOn h n))) s

/-! ### The maintenance loop (R17, R18, R20) -/

/-- The compartment enters the loop from a state (R17). -/
def enterLoop (n : CompNo) (origin : MaintFrom) (s : State) : State :=
  let s := modComp n (fun c => { c with state := .maint, phase := .none }) (leaveFree n s)
  { s with maintSlot := some { comp := n, origin := origin } }

/-- MAINT ENTER (R17). -/
def takeMaintEnter (h : Header) (b : Byte) (s : State) : State :=
  fromOffice h (namingComp h b (fun n s =>
    if s.maintSlot.isSome then refuse h .inProgress s
    else
      readingComp h n (fun s =>
        match s.comps[n].state, s.comps[n].link with
        | .vacant, _ => answer h [] (enterLoop n .vacant s)
        | .barred, none => answer h [] (enterLoop n .barred s)
        | _, _ => refuse h .wrongState s) s)) s

/-- The compartment is the one in the maintenance-loop slot. -/
def inLoop (n : CompNo) (s : State) : Bool :=
  match s.maintSlot with
  | some m => m.comp == n
  | none => false

/-- MAINT TEST PULSE on the compartment in the slot, read good (R18 steps 2 to 6). -/
def testPulseOn (h : Header) (n : CompNo) (s : State) : State :=
  if s.comps[n].phase ≠ .none then refuse h .inProgress s
  else if holdActive s then refuse h .onHold s
  else if !onPresentColumn n s then refuse h .columnDown s
  else if s.comps[n].door = .opened then refuse h .wrongState s
  else answer h [] (requestGrant n .maint (modComp n (fun c => { c with phase := .awaitGrant, attempts := 0 }) s))

/-- MAINT TEST PULSE (R18). -/
def takeTestPulse (h : Header) (b : Byte) (s : State) : State :=
  fromOffice h (namingComp h b (fun n s =>
    if inLoop n s then readingComp h n (testPulseOn h n) s else refuse h .wrongState s)) s

/-- The compartment leaves the loop: back to BARRED with its kept cause, to BARRED(MANAGEMENT) on a pending bar, or to
VACANT (R20). -/
def leaveLoop (n : CompNo) (origin : MaintFrom) (s : State) : State :=
  let s := stopJobTimers n (modComp n (fun c =>
    match origin, c.pendingBar with
    | .barred, _ => { c with state := .barred, phase := .none, pendingBar := false }
    | .vacant, true => { c with state := .barred, cause := some .management, phase := .none, pendingBar := false }
    | .vacant, false => { c with state := .vacant, cause := none, phase := .none }) s)
  joinFree n { s with maintSlot := none }

/-- MAINT EXIT on the compartment in the slot, read good (R20). -/
def exitOn (h : Header) (n : CompNo) (origin : MaintFrom) (s : State) : State :=
  match s.comps[n].phase with
  | .none => answer h [] (leaveLoop n origin s)
  | .awaitGrant =>
    if withdrawSucceeds n s then answer h [] (leaveLoop n origin (withdraw n s)) else refuse h .inProgress s
  | .awaitOpen | .opened => refuse h .inProgress s

/-- MAINT EXIT (R20). -/
def takeMaintExit (h : Header) (b : Byte) (s : State) : State :=
  fromOffice h (namingComp h b (fun n s =>
    match s.maintSlot with
    | some m => if m.comp = n then readingComp h n (exitOn h n m.origin) s else refuse h .wrongState s
    | none => refuse h .wrongState s)) s

/-! ### The map write (R4) -/

/-- A map value as carried: unfitted, or a column address and a position; none when out of range (R4 step 2). -/
def place? : Option (Byte × Byte) → Option (Option MapPlace)
  | none => some none
  | some (c, p) =>
    match col? c, pos? p with
    | some col, some pos => some (some { col := col, pos := pos })
    | _, _ => none

/-- The place is that of another fitted compartment (R4 step 3). -/
def placeTaken (n : CompNo) (p : MapPlace) (s : State) : Bool :=
  (List.finRange 240).any (fun m => m != n && fittedPlace m s == some p)

/-- The state admits a map write (R4 step 1). -/
def mapWritable (c : Compartment) : Bool :=
  match c.state, c.link with
  | .unfitted, _ => true
  | .vacant, _ => true
  | .barred, none => true
  | _, _ => false

/-- Unfitted written (R4). -/
def unfit (n : CompNo) (cls : SizeClass) (s : State) : State :=
  let s := modComp n (fun c =>
    { c with place := none, cls := cls, state := .unfitted, cause := none, suspect := false, door := .closed
             occ := .empty }) (leaveFree n s)
  modDoor n (fun _ => Cold.doorRecord) s

/-- The class alone changed: a listed compartment moves to the tail of its new class's list (R4). -/
def reclass (n : CompNo) (cls : SizeClass) (s : State) : State :=
  if s.comps[n].cls = cls then modComp n (fun c => c) s
  else if n ∈ listOf s.comps[n].cls s.freeLists then
    joinFree n (modComp n (fun c => { c with cls := cls }) (leaveFree n s))
  else modComp n (fun c => { c with cls := cls }) s

/-- The door record of a re-fitted compartment stops (R165). -/
def stopDoor (n : CompNo) (s : State) : State :=
  modDoor n (fun d =>
    { d with confirm := none, openLimit := none, traceStep := .none, heldClose := none, ajar := none
             openSeconds := 0 }) s

/-- Re-fitted: out of its list, door OPEN and occupancy UNCERTAIN until a poll, and checked at once against the count
of a PRESENT column; one BARRED already keeps its cause and no notice is raised (R4, R15, R130) (DEDUCED, assumption log
24). -/
def refit (n : CompNo) (p : MapPlace) (cls : SizeClass) (s : State) : State :=
  let s := modComp n (fun c =>
    { c with place := some p, cls := cls, door := .opened, occ := .uncertain
             state := if c.state = .barred then .barred else .vacant }) (leaveFree n s)
  let s := stopDoor n s
  if columnPresent p.col s ∧ mismatched n p.col s = true then
    let newly := newlyBarred s n
    let s := causeBar n .mapMismatch s
    if newly then raise (.column (addressByte p.col) .mapMismatch) s else s
  else s

/-- The effects of a taken map write (R4) (DEDUCED, assumption log 24). An UNFITTED entry that a check failure has left with
the written map value is fitted by it (DESIGN CHOICE, assumption log 39). -/
def writePlace (n : CompNo) (place : Option MapPlace) (cls : SizeClass) (s : State) : State :=
  match place with
  | none => unfit n cls s
  | some p => if fittedPlace n s = some p then reclass n cls s else refit n p cls s

/-- A map write is judged: the refusal it meets, or the state it leaves (R4) (DEDUCED, assumption log 24). -/
def judgeMapWrite (n : CompNo) (place : Option (Byte × Byte)) (cls : Byte) (s : State) : Except ReplyCode State :=
  if !mapWritable s.comps[n] then .error .wrongState
  else
    match place? place, sizeClass? cls with
    | some (some p), some c => if placeTaken n p s then .error .badField else .ok (writePlace n (some p) c s)
    | some none, some c => .ok (writePlace n none c s)
    | _, _ => .error .badField

end Sys2Proof.Machine
end

