-- ==== Sys2Proof/Machine/ColumnRequests.lean ====
section
/-! DEFINITION. The requests of the column bus controller and the door supervisor (RELAY, ENUMERATE, MAINT TRACE), of
the notice unit, the counter bank and the record checker (MASK, DRILL STEP, SNAPSHOT, CLEAR INTEGRITY), and the
scrubber's visits. -/

namespace Sys2Proof.Machine

open Sys2Proof.Wire

/-! ### RELAY, ENUMERATE, MAINT TRACE -/

/-- The permission of a panel message kind (R122). -/
def permits (p : RelayPermissions) (k : RelayKind) : Bool :=
  match k with
  | .lamp => p.lamp
  | .text => p.text
  | .chime => p.chime

/-- RELAY (R137); a queued RELAY is answered when its exchange ends (R138). -/
def takeRelay (h : Header) (column kind : Byte) (message : List Byte) (s : State) : State :=
  match col? column, relayKind? kind, 1 ≤ message.length && message.length ≤ 32 with
  | some c, some k, true =>
    if !permits (cfg s).relay[c] k then refuse h .notPermitted s
    else if !columnPresent c s then refuse h .columnDown s
    else if 16 ≤ s.bus.queue.length then refuse h .congested s
    else
      { s with bus := { s.bus with queue := s.bus.queue ++ [.relay c k message h.tag (originOctet h.origin)] } }
  | _, _, _ => refuse h .badField s

/-- ENUMERATE (R129); it is answered when the enumeration ends. -/
def takeEnumerate (h : Header) (s : State) : State :=
  fromOffice h (fun s =>
    if s.bus.enumeration.isSome then refuse h .inProgress s
    else if s.dormancy.state ≠ .awake then refuse h .wrongState s
    else startEnumeration (some (h.tag, originOctet h.origin)) s) s

/-- MAINT TRACE (R163). -/
def takeMaintTrace (h : Header) (column : Byte) (s : State) : State :=
  fromOffice h (fun s =>
    match col? column with
    | none => refuse h .badField s
    | some c =>
      match s.doors.lastTrace[c] with
      | none => refuse h .noMatch s
      | some l => answer h (traceReport l) s) s

/-! ### MASK, DRILL STEP (R186, R196, R197) -/

/-- Twelve mask values, or none when one is out of range (R186). -/
def masks? (m : Vector Byte 12) : Option (List Bool) := m.toList.mapM yesNo?

/-- The twelve masks are replaced (R186). -/
def setMasks (m : List Bool) (s : State) : State :=
  allClasses.foldl (fun s c => modClass c (fun q => { q with masked := m.getD (classIndex c).val false }) s) s

/-- MASK (R186). -/
def takeMask (h : Header) (m : Vector Byte 12) (s : State) : State :=
  fromOffice h (fun s =>
    match masks? m with
    | none => refuse h .badField s
    | some l => answer h (l.flatMap flag) (setMasks l s)) s

/-- A drill detail goes at the discard unless it carries the more marker (R197). -/
def discardable (d : Detail) : Bool := d.drill && !d.more

/-- The details of a class that the discard leaves; the detail on the line, at the head, stays (R197). -/
def undrilled (onLine : Bool) (l : List Detail) : List Detail :=
  match onLine, l with
  | true, d :: ds => d :: ds.filter (fun e => !discardable e)
  | _, ds => ds.filter (fun e => !discardable e)

/-- The discard of a class (R197). -/
def discardClass (onLine : Bool) (q : ClassQueue) : ClassQueue :=
  let l := undrilled onLine q.details
  { q with details := l, pending := !l.isEmpty }

/-- The discard of the step from 7 to 0 (R197). -/
def discardDrill (s : State) : State :=
  allClasses.foldl (fun s c => modClass c (discardClass (s.notices.onLine == some c)) s) s

/-- The notice and counter of a drill step (R196). -/
def drillNotice (step : Fin 8) (s : State) : State :=
  match step with
  | 0 => discardDrill s
  | 1 => count .ajar (raiseMarked (.doorAjar 0xFF 0) true false s)
  | 2 => count .lockFaults (raiseMarked (.lockFault 0xFF .coilFault 0) true false s)
  | 3 => count .tampers (raiseMarked (.tamper 0xFF .loadedOpened) true false s)
  | 4 => count .integrity (raiseMarked (.integrity .compartment 255) true false s)
  | 5 => count .absences (raiseMarked (.column 0x00 .absent) true false s)
  | 6 => count .holds (raiseMarked (.hold true .office) true false s)
  | 7 => raiseMarked (.drill 0x07) true false s

/-- DRILL STEP (R196). -/
def takeDrillStep (h : Header) (s : State) : State :=
  fromOffice h (fun s =>
    let step := s.notices.drillStep + 1
    answer h (num1 step.val) (drillNotice step { s with notices := { s.notices with drillStep := step } })) s

/-! ### SNAPSHOT, CLEAR INTEGRITY (R189, R195) -/

/-- SNAPSHOT (R189). -/
def takeSnapshot (h : Header) (s : State) : State :=
  fromOffice h (fun s =>
    answer h [] { s with counters := { live := Vector.replicate 62 0, snap := s.counters.live } }) s

/-- CLEAR INTEGRITY (R195). -/
def takeClearIntegrity (h : Header) (s : State) : State :=
  fromOffice h (fun s => answer h [] { s with checker := { s.checker with flag := false } }) s

/-! ### The scrubber (R191) -/

/-- The entry at a scrubber cursor is verified, and a failure handled (R191). -/
def scrubEntry (c : Nat) (s : State) : State :=
  match below? 240 c with
  | some n => verifyComp n s
  | none =>
    match below? 384 (c - 240) with
    | some k => if parcelGood k s then s else quarantine k s
    | none =>
      match below? 512 (c - 624) with
      | some w => if wayGood w s then s else credentialFailure w s
      | none => s

/-- The scrubber visits the entry at its cursor, which rises by one or returns to 0; disabled, it makes no visit
(R191). -/
def scrubVisit (s : State) : State :=
  if (cfg s).scrubber then
    let c := s.checker.cursor
    let s := scrubEntry c.val s
    { s with checker := { s.checker with cursor := c + 1, timer := Config.scrubPeriod } }
  else s

end Sys2Proof.Machine
end

