-- ==== Sys2Proof/Machine/Start.lean ====
section
/-! DEFINITION. The three start kinds (11.4): what a start keeps, how the engines resolve the jobs in flight (R61, R100,
R121), and the other effects of a start (R207). -/

namespace Sys2Proof.Machine

/-! ### What every start ends with (R207) -/

/-- The LINK notice of the start, the enumeration, and a hold that is active at the start (R129, R148, R207)
(DEDUCED, assumption log 25). -/
def startEffects (kind : StartKind) (s : State) : State :=
  let s := startEnumeration none (raise (.link (.start kind)) s)
  if s.arbiter.holdActive then
    enqueueBroadcast .holdAll (raiseHoldOn (if s.lines.hold then .line else .office) s)
  else s

/-- A cold start: every piece of state takes its cold-start value; the lines and the commands that wait are not the
part's to change (R206, R207). -/
def coldValues (s : State) : State :=
  { link := Cold.link Cold.config.silence
    creds := Cold.credentials
    comps := Cold.compartments
    freeLists := Cold.freeLists
    maintSlot := none
    parcels := Cold.parcels
    deposit := Cold.deposit
    time := Cold.time
    charge := Cold.charge
    collection := Cold.collection
    returns := Cold.returns
    arbiter := Cold.arbiter s.lines.hold
    bus := Cold.bus (Vector.replicate 12 Cold.column) Cold.config.pollInterval
    dormancy := Cold.dormancy Cold.config.idle
    doors := Cold.doors
    notices := Cold.notices
    counters := Cold.counters
    checker := Cold.checker
    mgmt := Cold.management
    lines := s.lines
    pending := s.pending }

/-- A cold start (R207) (DEDUCED, assumption log 25). -/
def coldStart (s : State) : State := startEffects .cold (coldValues s)

/-! ### What a warm start and an engine restart keep (R207) -/

/-- The reset-cause record after a start (R208). -/
def causeAfter (kind : StartKind) (r : ResetCause) : ResetCause :=
  match kind with
  | .cold => { r with last := .cold }
  | .warm => { r with last := .warm, warm := if h : r.warm.val < 255 then ⟨r.warm.val + 1, by omega⟩ else r.warm }
  | .engine =>
    { r with last := .engine, engine := if h : r.engine.val < 255 then ⟨r.engine.val + 1, by omega⟩ else r.engine }

/-- The column table after a start: an engine restart keeps states and counts (R123). -/
def columnsAfter (kind : StartKind) (s : State) : Vector ColumnEntry 12 :=
  match kind with
  | .engine => s.bus.columns.map (fun e => { e with pollDue := false, probeDue := false })
  | _ => Vector.replicate 12 Cold.column

/-- The retention domain kept; every other item at the value its chapter gives for the start kind (R207). -/
def keptValues (kind : StartKind) (s : State) : State :=
  let engine := kind == .engine
  { s with
    link := Cold.link (cfg s).silence
    creds := { s.creds with terms := Cold.credentials.terms }
    deposit := Cold.deposit
    charge := { s.charge with queue := [], running := none }
    collection := Cold.collection
    returns := { s.returns with sweep := none, scanner := Cold.scanner }
    arbiter := { Cold.arbiter (holdWanted s) with guard := some Config.restartGuard }
    bus := Cold.bus (columnsAfter kind s) (cfg s).pollInterval
    dormancy := Cold.dormancy (cfg s).idle
    doors := { Cold.doors with lastTrace := if engine then s.doors.lastTrace else Cold.doors.lastTrace }
    notices := Cold.notices
    counters := if engine then s.counters else Cold.counters
    checker := { s.checker with cursor := if engine then s.checker.cursor else 0, timer := Config.scrubPeriod }
    mgmt := { s.mgmt with cursor := Cold.cursor, resetCause := causeAfter kind s.mgmt.resetCause } }

/-! ### The jobs in flight (R20, R61, R100, R121) -/

/-- A MAINT compartment returns to phase NONE (R2, R20). -/
def resolveMaint (s : State) (n : CompNo) : State :=
  if s.comps[n].state = .maint then onComp n (modComp n (fun c => { c with phase := .none })) s else s

/-- A deposit in flight: the compartment HELD is freed and the record ADVISED again; LOADING is marked resumed (R61). -/
def resumeDeposit (n : CompNo) (k : Slot) (s : State) : State :=
  match s.comps[n].state with
  | .held => modParcel k (fun p => { p with state := .advised, comp := none, arrival := none }) (free n s)
  | .loading => setResumed n true s
  | _ => s

/-- A DEPOSITING record is resolved from its compartment (R61); the engine reads both to judge them (R190). -/
def resolveDeposit (s : State) (k : Slot) : State :=
  if recordIn k [.depositing] s then
    onRecord k [.depositing] (fun p s =>
      match p.comp with
      | some n => onComp n (resumeDeposit n k) s
      | none => s) s
  else s

/-- A compartment under a release is marked resumed, its release attempts 0 (R100, R121). -/
def markResumed (n : CompNo) (s : State) : State :=
  setResumed n true (modComp n (fun c => { c with attempts := 0 }) s)

/-- A compartment in the state of a release is marked resumed (R100, R121); its entry is verified (R190). -/
def resumeRelease (st : CompState) (s : State) (n : CompNo) : State :=
  if s.comps[n].state = st then onComp n (markResumed n) s else s

/-- A record in a collection by its state: QUOTING and DUE return to STORED, RELEASING is resumed, UNTAKEN joins the
re-open list at the full window (R80, R93, R100). -/
def resumeCollection (k : Slot) (p : Parcel) (s : State) : State :=
  match p.state with
  | .quoting | .due => returnToStored k p.tendered s
  | .untaken => joinReopen k s
  | _ =>
    match p.comp with
    | some n => resumeRelease .releasing s n
    | none => s

/-- A record in a collection is resolved by its state (R100); the engine reads it to judge it (R190). -/
def resolveCollection (s : State) (k : Slot) : State :=
  let states := [.quoting, .due, .untaken, .releasing]
  if recordIn k states s then onRecord k states (resumeCollection k) s else s

/-- A SWEEPING compartment is marked resumed (R121). -/
def resolveSweep (s : State) (n : CompNo) : State := resumeRelease .sweeping s n

/-- Every job in flight is resolved, the deposits before the free lists are rebuilt (R9, R207) (DEDUCED, assumption
log 25) (DEDUCED, assumption log 25). -/
def resolveJobs (s : State) : State :=
  let s := (List.finRange 240).foldl resolveMaint s
  let s := (List.finRange 384).foldl resolveDeposit s
  let s := (List.finRange 384).foldl resolveCollection s
  let s := (List.finRange 240).foldl resolveSweep s
  rebuildFreeLists s

/-- A warm start or an engine restart (R207) (DEDUCED, assumption log 25). -/
def keptStart (kind : StartKind) (s : State) : State := startEffects kind (resolveJobs (keptValues kind s))

/-- A warm start (R206, R207). -/
def warmStart (s : State) : State := keptStart .warm s

/-- An engine restart (R206, R207). -/
def engineRestart (s : State) : State := keptStart .engine s

end Sys2Proof.Machine
end

