-- ==== Sys2Proof/Machine/ManagementRequests.lean ====
section
/-! DEFINITION. The requests of the management unit: CURSOR, READ, WRITE, CONFIG SET, CONFIG GET, HOLD, UNHOLD, CLEAR
STRANDED, CLEAR QUARANTINE, RESTART ENGINES, RESET ALL (chapter 11), with the plan and window writes the charge engine
judges (R66, R67) and the permission write of the column table (R122). -/

namespace Sys2Proof.Machine

open Sys2Proof.Wire

/-! ### The table cursor (R198) -/

/-- The index of the last entry of a table; an empty return queue has position 0 (R198). -/
def lastIndex (t : TableId) (s : State) : Nat :=
  match t with
  | .tariff => 7
  | .peak => 3
  | .map => 239
  | .column => 11
  | .parcel => 383
  | .credential => 511
  | .returnQueue => s.returns.queue.length - 1
  | .counters => 61
  | .snapshot => 61

/-- The index is beyond the last entry, or the table is an empty return queue (R198). -/
def beyondLast (t : TableId) (i : Nat) (s : State) : Bool :=
  lastIndex t s < i || (t == .returnQueue && s.returns.queue.isEmpty)

/-- The cursor is placed. -/
def setCursor (c : TableCursor) (s : State) : State := { s with mgmt := { s.mgmt with cursor := c } }

/-- CURSOR (R198). -/
def takeCursor (h : Header) (table : Byte) (index : BitVec 16) (mode : Byte) (s : State) : State :=
  fromOffice h (fun s =>
    match tableId? table, stepMode? mode with
    | some t, some m =>
      answer h (flag (beyondLast t index.toNat s))
        (setCursor { table := t, index := min index.toNat (lastIndex t s), mode := m } s)
    | _, _ => refuse h .badField s) s

/-- The step mode advances the cursor at a READ (R198). -/
def readAdvances (m : StepMode) : Bool := m == .each

/-- The step mode advances the cursor at a WRITE (R198). -/
def writeAdvances (m : StepMode) : Bool := m == .each || m == .writes

/-- An advance from the last entry stays there and gives the end marker (R198). -/
def atLast (s : State) : Bool := lastIndex s.mgmt.cursor.table s ≤ s.mgmt.cursor.index

/-- An advance of the cursor (R198). -/
def advance (s : State) : State :=
  if atLast s then s else setCursor { s.mgmt.cursor with index := s.mgmt.cursor.index + 1 } s

/-! ### READ (R199) -/

/-- The reply of a taken READ: table, index, end marker, entry; then the advance (R198, R199, R216). `moved` is set
when the cursor was first moved to the tail of a shortened return queue. -/
def answerRead (h : Header) (moved : Bool) (entry : List Byte) (s : State) : State :=
  let c := s.mgmt.cursor
  let adv := readAdvances c.mode
  let fields := tableOctet c.table :: num2 c.index ++ flag (moved || (adv && atLast s)) ++ entry
  answer h fields (if adv then advance s else s)

/-- A READ of the return queue: a cursor at or beyond the length moves to the tail first; a READ of an empty queue is
refused and leaves the cursor where it was (R198, R199). -/
def readQueue (h : Header) (s : State) : State :=
  let q := s.returns.queue
  let c := s.mgmt.cursor
  let at_ := min c.index (q.length - 1)
  match q[at_]? with
  | none => refuse h .noMatch s
  | some k =>
    match parcelAt k s with
    | some p => answerRead h (q.length ≤ c.index) (queueEntry k p s) (setCursor { c with index := at_ } s)
    | none => refuse h .noMatch s

/-- A READ at an index of a table; the three checked tables are verified first (R199). -/
def readAt (h : Header) (t : TableId) (i : Nat) (s : State) : State :=
  match t with
  | .tariff =>
    match below? 8 i with
    | some p => answerRead h false (planEntry s.charge.plans[p]) s
    | none => refuse h .noMatch s
  | .peak =>
    match below? 4 i with
    | some w => answerRead h false (peakEntry s.charge.peaks[w]) s
    | none => refuse h .noMatch s
  | .map =>
    match below? 240 i with
    | some n => readingComp h n (fun s => answerRead h false (mapEntry n s) s) s
    | none => refuse h .noMatch s
  | .column =>
    match below? 12 i with
    | some c => answerRead h false (columnEntryOctets c s) s
    | none => refuse h .noMatch s
  | .parcel =>
    match below? 384 i with
    | some k => readingRecord h k (fun s => answerRead h false (parcelEntry k s) s) s
    | none => refuse h .noMatch s
  | .credential =>
    match below? 512 i with
    | some w =>
      if wayGood w s then answerRead h false (credentialEntry w s) s
      else refuse h .integrity (credentialFailure w s)
    | none => refuse h .noMatch s
  | .returnQueue => readQueue h s
  | .counters =>
    match below? 62 i with
    | some j => answerRead h false (counterOctets s.counters.live j) s
    | none => refuse h .noMatch s
  | .snapshot =>
    match below? 62 i with
    | some j => answerRead h false (counterOctets s.counters.snap j) s
    | none => refuse h .noMatch s

/-- READ (R199). -/
def takeRead (h : Header) (s : State) : State :=
  fromOffice h (fun s => readAt h s.mgmt.cursor.table s.mgmt.cursor.index s) s

/-! ### WRITE (R66, R67, R122, R200) -/

/-- The reply of a taken WRITE, with the end marker, and the advance (R198, R200). -/
def answerWrite (h : Header) (s : State) : State :=
  let adv := writeAdvances s.mgmt.cursor.mode
  answer h (flag (adv && atLast s)) (if adv then advance s else s)

/-- The owner's judgement of a write becomes the WRITE's reply (R200). -/
def judgedWrite (h : Header) (r : Except ReplyCode State) (s : State) : State :=
  match r with
  | .ok s => answerWrite h s
  | .error code => refuse h code s

/-- The thirteen block lengths (R65). -/
def blockLengths : List Nat := [15, 20, 30, 45, 60, 90, 120, 180, 240, 360, 480, 720, 1440]

/-- A day cap is absent or 1 to 99,999 (R65). -/
def capInRange (c : Option (BitVec 24)) : Bool :=
  match c with
  | none => true
  | some v => 1 ≤ v.toNat && v.toNat ≤ 99999

/-- The plan a WRITE carries; none when R66 refuses it. -/
def plan2? (f : PlanFields) : Option Plan :=
  match yesNo? f.peak with
  | none => none
  | some peak =>
    if f.free.toNat ≤ 10080 ∧ f.block.toNat ∈ blockLengths ∧ f.rates.toList.all (fun r => r.toNat ≤ 9999) = true
        ∧ f.caps.toList.all capInRange = true ∧ 60 ≤ f.expiry.toNat ∧ f.expiry.toNat ≤ 20160
        ∧ f.free.toNat < f.expiry.toNat ∧ 30 ≤ f.window.toNat ∧ f.window.toNat ≤ 600 then
      some { free := f.free.toNat, block := f.block.toNat, rates := f.rates.map BitVec.toNat
             caps := f.caps.map (fun c => c.map BitVec.toNat), peak := peak, expiry := f.expiry.toNat
             window := f.window.toNat }
    else none

/-- The charge engine judges a plan write at an index (R66). -/
def judgePlanWrite (i : Nat) (f : PlanFields) (s : State) : Except ReplyCode State :=
  match plan2? f, below? 8 i with
  | some p, some j => .ok { s with charge := { s.charge with plans := s.charge.plans.set j.val p j.isLt } }
  | _, _ => .error .badField

/-- The charge engine judges a window write at an index (R67). -/
def judgePeakWrite (i : Nat) (first last multiplier : BitVec 16) (s : State) : Except ReplyCode State :=
  match below? 4 i with
  | some j =>
    if first.toNat ≤ 1439 ∧ last.toNat ≤ 1439 ∧ 100 ≤ multiplier.toNat ∧ multiplier.toNat ≤ 300 then
      .ok { s with charge := { s.charge with
        peaks := s.charge.peaks.set j.val
          { first := first.toNat, last := last.toNat, multiplier := multiplier.toNat } j.isLt } }
    else .error .badField
  | none => .error .badField

/-- The column bus controller judges a permission write at an index (R122). -/
def judgePermissionWrite (i : Nat) (lamp text chime : Byte) (s : State) : Except ReplyCode State :=
  match below? 12 i, yesNo? lamp, yesNo? text, yesNo? chime with
  | some c, some l, some t, some m =>
    .ok (modConfig (fun r => { r with relay := r.relay.set c.val { lamp := l, text := t, chime := m } c.isLt }) s)
  | _, _, _, _ => .error .badField

/-- WRITE to the TARIFF table (R66). -/
def takeWriteTariff (h : Header) (f : PlanFields) (s : State) : State :=
  fromOffice h (fun s => judgedWrite h (judgePlanWrite s.mgmt.cursor.index f s) s) s

/-- WRITE to the PEAK table (R67). -/
def takeWritePeak (h : Header) (first last multiplier : BitVec 16) (s : State) : State :=
  fromOffice h (fun s => judgedWrite h (judgePeakWrite s.mgmt.cursor.index first last multiplier s) s) s

/-- WRITE to the MAP table (R4). -/
def takeWriteMap (h : Header) (place : Option (Byte × Byte)) (cls : Byte) (s : State) : State :=
  fromOffice h (fun s =>
    match below? 240 s.mgmt.cursor.index with
    | some n => readingComp h n (fun s => judgedWrite h (judgeMapWrite n place cls s) s) s
    | none => refuse h .badField s) s

/-- WRITE to the COLUMN table (R122). -/
def takeWriteColumn (h : Header) (lamp text chime : Byte) (s : State) : State :=
  fromOffice h (fun s => judgedWrite h (judgePermissionWrite s.mgmt.cursor.index lamp text chime s) s) s

/-- WRITE to a table that takes none (R200). -/
def takeWrite (h : Header) (s : State) : State := refuse h .notPermitted s

/-! ### The configuration record (R202, R203) -/

/-- A value brought into a range (R202). -/
def clamp (low high v : Nat) : Nat := max low (min high v)

/-- The record with one field written, or none for an undefined value of an enumerated field (R202). -/
def writeField (field : Nat) (v : Nat) (c : ConfigRecord) : Option ConfigRecord :=
  match field with
  | 0 => some { c with inactivity := clamp 60 1800 v }
  | 1 => some { c with depositOpen := clamp 30 300 v }
  | 2 => some { c with releaseOpen := clamp 10 120 v }
  | 3 => some { c with reopen := clamp 0 1800 v }
  | 4 => if v = 1 then some { c with expiryScan := true } else if v = 0 then some { c with expiryScan := false } else none
  | 5 => some { c with pollInterval := clamp 100 1000 v }
  | 6 => if v ∈ [50, 100, 400, 1600] then some { c with wakeSettle := v } else none
  | 7 => some { c with pulseBudget := clamp 1 4 v }
  | 8 => some { c with pulseLength := clamp 100 800 v / 50 * 50 }
  | 9 => some { c with confirm := clamp 500 3000 v }
  | 10 => some { c with ajar := clamp 30 600 v }
  | 11 => some { c with windowMin := clamp 0 255 v }
  | 12 => some { c with windowMax := clamp 0 255 v }
  | 13 => some { c with silence := clamp 1 10 v }
  | 14 => if v = 1 then some { c with scrubber := true } else if v = 0 then some { c with scrubber := false } else none
  | 15 => some { c with idle := clamp 0 3600 v }
  | _ => none

/-- A pair names a field of the record or the scrubber position (R202, R214). -/
def fieldNamed (p : Byte × BitVec 16) : Bool := p.1.toNat ≤ 16

/-- No field is named twice (R202). -/
def namedOnce (fs : List (Byte × BitVec 16)) : Bool := (fs.map Prod.fst).Nodup

/-- The record after the pairs, and the fields not stored (R202). -/
def writeFields (fs : List (Byte × BitVec 16)) (c : ConfigRecord) : ConfigRecord × List Nat :=
  fs.foldl (fun (r : ConfigRecord × List Nat) p =>
    if p.1.toNat = 16 then r
    else
      match writeField p.1.toNat p.2.toNat r.1 with
      | some c => (c, r.2)
      | none => (r.1, r.2 ++ [p.1.toNat])) (c, [])

/-- The scrubber position a CONFIG SET carries (R191, R202). -/
def scrubPosition (fs : List (Byte × BitVec 16)) : Option Nat :=
  (fs.find? (fun p => p.1.toNat == 16)).map (fun p => p.2.toNat)

/-- The scrubber cursor is placed, and the next visit made 100 ms from now (R191). -/
def placeScrubber (i : Nat) (s : State) : State :=
  { s with checker :=
    { s.checker with
      cursor := ⟨min i 1135, by omega⟩
      timer := Config.scrubPeriod } }

/-- Each stored change reaches its users: a raised pulse budget the arbiter, a cleared expiry scan the scanner, a
changed idle time the idle timer (R102, R150, R202, R209). -/
def configChanged (before : ConfigRecord) (s : State) : State :=
  let s := if before.expiryScan && !(cfg s).expiryScan then setScanner { s.returns.scanner with due := false } s else s
  let s := if before.idle ≠ (cfg s).idle then restartIdle s else s
  if before.pulseBudget < (cfg s).pulseBudget then lookOver s else s

/-- CONFIG SET (R202). -/
def takeConfigSet (h : Header) (fs : List (Byte × BitVec 16)) (s : State) : State :=
  fromOffice h (fun s =>
    if fs.all fieldNamed && namedOnce fs then
      let before := cfg s
      let r := writeFields fs before
      let s := configChanged before (modConfig (fun _ => r.1) s)
      let s := match scrubPosition fs with
        | some i => placeScrubber i s
        | none => s
      answer h (configSetReport r.1 r.2) s
    else refuse h .badField s) s

/-- CONFIG GET (R203). -/
def takeConfigGet (h : Header) (s : State) : State := fromOffice h (fun s => answer h (configGetReport s) s) s

/-- HOLD (R204). -/
def takeHold (h : Header) (s : State) : State := fromOffice h (fun s => answer h [] (requestHold true s)) s

/-- UNHOLD (R204). -/
def takeUnhold (h : Header) (s : State) : State := fromOffice h (fun s => answer h [] (requestHold false s)) s

/-! ### CLEAR STRANDED, CLEAR QUARANTINE (R205) -/

/-- The record is retired and its reference and compartment reported; the manager reads the compartment's entry to free it
(R1, R205 step 5). A damaged entry is barred INTEGRITY, and the record retired all the same (DESIGN CHOICE, assumption log
40). -/
def clearRecord (h : Header) (k : Slot) (p : Parcel) (s : State) : State :=
  let s := match p.comp with
    | some n => verifyComp n s
    | none => s
  answer h (oct4 p.ref ++ optional (fun n : CompNo => num1 n.val) p.comp) (retireRecord k s)

/-- The record in the slot, if it is live, goes on to `f` (R205 steps 1 and 2). -/
def namingSlot (h : Header) (w : BitVec 16) (f : Slot → Parcel → State → State) (s : State) : State :=
  match slot? w with
  | none => refuse h .badField s
  | some k =>
    match parcelAt k s with
    | none => refuse h .noMatch s
    | some p => f k p s

/-- CLEAR STRANDED (R205). -/
def takeClearStranded (h : Header) (w : BitVec 16) (s : State) : State :=
  fromOffice h (namingSlot h w (fun k p => readingRecord h k (fun s =>
    if p.state = .stranded then clearRecord h k p s else refuse h .wrongState s))) s

/-- CLEAR QUARANTINE (R205). -/
def takeClearQuarantine (h : Header) (w : BitVec 16) (s : State) : State :=
  fromOffice h (namingSlot h w (fun k p s =>
    if p.state = .quarantined then clearRecord h k p s else refuse h .wrongState s)) s

/-! ### RESTART ENGINES, RESET ALL (R206) -/

/-- RESTART ENGINES (R206); its reply place is cleared with the reply queue (R207). -/
def takeRestartEngines (h : Header) (s : State) : State := fromOffice h engineRestart s

/-- RESET ALL (R206); its reply place is cleared with the reply queue (R207). -/
def takeResetAll (h : Header) (s : State) : State := fromOffice h coldStart s

/-! ### Every request at its owner (00_scope.md, Requests) -/

/-- A request is taken by its owner. -/
def takeRequest (h : Header) (r : Request) (s : State) : State :=
  match r with
  | .signOn code => takeSignOn h code s
  | .signOff => takeSignOff h s
  | .deposit ref => takeDeposit h ref s
  | .returnDrop code => takeReturnDrop h code s
  | .abandon => takeAbandon h s
  | .collect code => takeCollect h code s
  | .tender amount tref => takeTender h amount tref s
  | .cancel => takeCancel h s
  | .sweepStart => takeSweepStart h s
  | .sweepStop => takeSweepStop h s
  | .statusCompartment n => takeStatusCompartment h n s
  | .statusParcel ref => takeStatusParcel h ref s
  | .relay c k m => takeRelay h c k m s
  | .advise a => takeAdvise h a s
  | .withdraw ref => takeWithdraw h ref s
  | .reissue ref code => takeReissue h ref code s
  | .enrolCourier code route d w => takeEnrol h code route d w s
  | .revokeCourier c => takeRevoke h c s
  | .timeSet m sec => takeTimeSet h m sec s
  | .retire ref => takeRetire h ref s
  | .bar n => takeBar h n s
  | .unbar n => takeUnbar h n s
  | .maintEnter n => takeMaintEnter h n s
  | .maintExit n => takeMaintExit h n s
  | .maintTestPulse n => takeTestPulse h n s
  | .maintTrace c => takeMaintTrace h c s
  | .enumerate => takeEnumerate h s
  | .clearIntegrity => takeClearIntegrity h s
  | .snapshot => takeSnapshot h s
  | .mask m => takeMask h m s
  | .drillStep => takeDrillStep h s
  | .cursor t i m => takeCursor h t i m s
  | .read => takeRead h s
  | .writeTariff p => takeWriteTariff h p s
  | .writePeak a b m => takeWritePeak h a b m s
  | .writeMap p c => takeWriteMap h p c s
  | .writeColumn a b c => takeWriteColumn h a b c s
  | .write _ => takeWrite h s
  | .configSet fs => takeConfigSet h fs s
  | .configGet => takeConfigGet h s
  | .hold => takeHold h s
  | .unhold => takeUnhold h s
  | .clearStranded w => takeClearStranded h w s
  | .clearQuarantine w => takeClearQuarantine h w s
  | .restartEngines => takeRestartEngines h s
  | .resetAll => takeResetAll h s

end Sys2Proof.Machine
end

