-- ==== Sys2Proof/Machine/Link.lean ====
section
/-! DEFINITION. The kiosk link (chapter 9): the receiver, the runs and the link state, the request FIFO and the
hand-off, the transmitter; and what follows every taking. -/

namespace Sys2Proof.Machine

open Sys2Proof.Wire

/-! ### The transmitter (R180, R181, R185) -/

/-- What the transmitter sends. -/
def setTx (t : Transmission) (s : State) : State := { s with link := { s.link with tx := t } }

/-- The on-line reference (R183). -/
def setOnLine (c : Option NoticeClass) (s : State) : State := { s with notices := { s.notices with onLine := c } }

/-- A class's queue. -/
def classQueue (c : NoticeClass) (s : State) : ClassQueue := s.notices.classes[classIndex c]

/-- The class has a detail to send: pending and unmasked (R185). -/
def sendable (s : State) (c : NoticeClass) : Bool := (classQueue c s).pending && !(classQueue c s).masked

/-- The notice to send: the highest-priority class pending and unmasked, its oldest detail (R185). -/
def nextNotice (s : State) : Option (NoticeClass × Detail) :=
  (allClasses.find? (sendable s)).bind (fun c => (classQueue c s).details.head?.map (fun d => (c, d)))

/-- An idle transmitter chooses: the oldest reply, else a notice while the link is UP, else nothing (R180). -/
def chooseTx (s : State) : State :=
  match s.link.tx with
  | .reply _ => s
  | .notice _ => s
  | .idle =>
    match s.link.replies with
    | r :: _ => setTx (.reply (replyFrame r)) s
    | [] =>
      if s.link.state = .up then
        match nextNotice s with
        | some (c, d) => setTx (.notice (noticeFrame d)) (setOnLine (some c) s)
        | none => s
      else s

/-- The notice on the line is cut off: its detail stays at its place (R181, R185). -/
def cutNotice (s : State) : State :=
  match s.link.tx with
  | .notice _ => setTx .idle (setOnLine none s)
  | _ => s

/-- The transmission of a reply completes: its place becomes free (R175, R180). -/
def replySent (s : State) : State :=
  match s.link.tx with
  | .reply _ => { s with link := { s.link with tx := .idle, replies := s.link.replies.tail } }
  | _ => s

/-- The detail at the head leaves its queue; the flag clears when the queue is then empty (R185). -/
def dropHead (q : ClassQueue) : ClassQueue :=
  { q with details := q.details.tail, pending := !q.details.tail.isEmpty }

/-- The transmission of a notice completes (R181, R185). -/
def noticeSent (s : State) : State :=
  match s.link.tx with
  | .notice _ =>
    let s' := match s.notices.onLine with
      | some c => modClass c dropHead s
      | none => s
    setTx .idle (setOnLine none s')
  | _ => s

/-! ### What follows every taking -/

/-- What the blocks do in the same taking once a request or an event has changed their state: computations start, a
sweep walks on, a wake round ends, the next POLL and PROBE are queued, a free bus and an idle transmitter choose, and
the idle timer of a bank that is not quiet stands at its full time (R69, R111, R132, R134, R180, R209, R211)
(DEDUCED, assumption log 12). -/
def settle (s : State) : State :=
  let s := endWakeRound (walkOn (chargeStarts s))
  let s := chooseBus (queueProbe (queuePoll { s with bus := refill s.bus }))
  let s := chooseTx s
  if isQuiet s then s else restartIdle s

/-! ### The request FIFO and the hand-off (R175 to R179, R218) -/

/-- The places of the reply queue in use (R175). -/
def placesInUse (s : State) : Nat := s.link.replies.length + s.link.reserved

/-- A reply of the link interface's own: the kind as received, a code (R216). -/
def rawReply (e : FifoEntry) (code : ReplyCode) : Reply :=
  { tag := e.tag, origin := e.origin, body := [e.body.headD 0x00, replyOctet code] }

/-- A good frame is offered to the FIFO: it joins the tail, or is refused CONGESTED into a free place, or dropped
(R176). -/
def offer (e : FifoEntry) (s : State) : State :=
  if s.link.fifo.length < 8 then { s with link := { s.link with fifo := s.link.fifo ++ [e] } }
  else if placesInUse s < 8 then
    { s with link := { s.link with replies := s.link.replies ++ [rawReply e .congested] } }
  else count .drops s

/-- A hand-off can be made: the FIFO is not empty and two places are free (R177). -/
def handOffReady (s : State) : Bool := !s.link.fifo.isEmpty && placesInUse s ≤ 6

/-- The inactivity timer of the terminal a request was taken from restarts (R35). -/
def requestTakenFrom (o : Origin) (s : State) : State :=
  match o with
  | .terminal t => restartInactivity t s
  | .office => s

/-- The head of the FIFO is taken: refused for its origin, its kind or its length by the link interface, or handed to
its owner (R178, R218) (DESIGN CHOICE, assumption log 3). -/
def takeEntry (e : FifoEntry) (s : State) : State :=
  match origin? e.origin with
  | none => placeReply (rawReply e .badField) s
  | some o =>
    match readBody s.mgmt.cursor.table e.cls e.body with
    | .unknownKind => placeReply (rawReply e .unknownRequest) s
    | .malformed => placeReply (rawReply e .badField) s
    | .request r => requestTakenFrom o (takeRequest { kind := e.body.headD 0x00, tag := e.tag, origin := o } r s)

/-- One hand-off: the entry leaves the FIFO, a place is reserved, the request is taken (R177). -/
def handOff (s : State) : State :=
  match s.link.fifo with
  | [] => s
  | e :: rest => takeEntry e { s with link := { s.link with fifo := rest, reserved := s.link.reserved + 1 } }

/-- Hand-offs follow one another while both conditions hold, each a taking of its own (R177) (DEDUCED, assumption log
12). -/
def handOffs : Nat → State → State
  | 0, s => s
  | fuel + 1, s => if handOffReady s then handOffs fuel (settle (handOff s)) else s

/-- The end of a taking: the hand-offs it allows, each settled, or else what follows the taking alone. Each hand-off
takes an entry off the FIFO and none adds one, so its length bounds them (DEDUCED, assumption log 12). -/
def conclude (s : State) : State := if handOffReady s then handOffs s.link.fifo.length s else settle s

/-! ### Link state (R172 to R174) -/

/-- The window end of every DUE quote is rewritten from the seconds remaining (R87). -/
def rewriteWindowEnds (s : State) : State :=
  allTerms.foldl (fun s t =>
    match s.collection.contexts[t] with
    | .due k left _ =>
      let ends := clockAfter s.time left
      onRecord k [.due] (fun _ => modParcel k (fun p =>
        { p with quote := p.quote.map (fun q => { q with endMinute := ends.1, endSecond := ends.2 }) })) s
    | _ => s) s

/-- The link state moves: a notice is cut when it leaves UP, window ends are rewritten when it leaves LOST, LINK(UP)
is raised when it enters UP (R87, R173, R181). -/
def moveLink (dest : LinkState) (s : State) : State :=
  let before := s.link.state
  if before = dest then s
  else
    let s := { s with link := { s.link with state := dest } }
    let s := if before = .up then cutNotice s else s
    let s := if before = .lost then rewriteWindowEnds s else s
    if dest = .up then raise (.link .up) s else s

/-- A good frame on the runs (R172, R173). -/
def goodRun (s : State) : State :=
  let run : Fin 3 := match s.link.goodRun with
    | 0 => 1
    | 1 => 2
    | 2 => 2
  let s := { s with link := { s.link with goodRun := run, discardRun := 0 } }
  if run = 2 then moveLink .up s else s

/-- A discarded frame on the runs (R172, R173). -/
def discardRun (s : State) : State :=
  let run : Fin 4 := match s.link.discardRun with
    | 0 => 1
    | 1 => 2
    | 2 => 3
    | 3 => 3
  let s := { s with link := { s.link with discardRun := run, goodRun := 0 } }
  if run = 3 then moveLink .lost s else s

/-! ### The receiver (R169 to R171) -/

/-- The receiver's phase and buffer. -/
def setRx (p : RxPhase) (b : List Byte) (s : State) : State :=
  { s with link := { s.link with phase := p, buffer := b } }

/-- A frame is discarded: counted with its step's counter, on the discard run, the receiver HUNTING (R170). -/
def discardFrame (step : Option Counter) (s : State) : State :=
  let s := match step with
    | some k => count k s
    | none => s
  discardRun (setRx .hunting [] (count .discards s))

/-- What one octet makes of the receiver (R169, R170). -/
inductive Heard where
  | passed
  | started
  | collected (buffer : List Byte)
  | discarded (step : Option Counter) (again : List Byte)
  | good (e : FifoEntry)
  deriving DecidableEq, Repr

/-- A complete frame is judged: check, then class; a discarded one is hunted again behind its mark (R170). -/
def judgeFrame (b : List Byte) : Heard :=
  let checked := (b.drop 1).take (b.length - 3)
  if b.drop (b.length - 2) ≠ oct2 (crc16 checked) then .discarded (some .checkErrors) (b.drop 1)
  else
    match checked with
    | _ :: cls :: tag :: origin :: body =>
      match classOf cls with
      | some c => .good { cls := c, tag := tag, origin := origin, body := body }
      | none => .discarded none (b.drop 1)
    | _ => .discarded none (b.drop 1)

/-- One octet at the receiver (R169, R170). -/
def hearOctet (phase : RxPhase) (buffer : List Byte) (o : Byte) : Heard :=
  match phase with
  | .hunting => if o = mark then .started else .passed
  | .collecting =>
    let b := buffer ++ [o]
    let length := (b.getD 1 0x00).toNat
    if length < 8 ∨ 128 < length then .discarded (some .lengthErrors) (b.drop 1)
    else if b.length < length then .collected b
    else judgeFrame b

/-- A good frame: on the runs, offered to the FIFO, reported for dormancy; then the hand-offs it allows (R170, R176,
R177, R209, R211) (DEDUCED, assumption log 14). -/
def goodFrame (e : FifoEntry) (s : State) : State :=
  conclude (restartIdle (wakeCause (offer e (goodRun (setRx .hunting [] s)))))

/-- The octets of the frame buffer still to be searched. -/
def setAgain (l : List Byte) (s : State) : State := { s with link := { s.link with again := l } }

/-- The receiver takes the octets of its buffer still to be searched one at a time; those behind a discarded frame's mark
come again before the others (R169). A start made by a frame among them leaves the buffer empty, and the rest is lost
(R169, R207). Each discard takes an octet for good, so the square of what is held and to come bounds the steps (DEDUCED,
assumption log 14). -/
def hearOctets : Nat → State → State
  | 0, s => s
  | fuel + 1, s =>
    match s.link.again with
    | [] => s
    | o :: rest =>
      let s := setAgain rest s
      match hearOctet s.link.phase s.link.buffer o with
      | .passed => hearOctets fuel s
      | .started => hearOctets fuel (setRx .collecting [o] s)
      | .collected b => hearOctets fuel (setRx .collecting b s)
      | .discarded step again => hearOctets fuel (setAgain (again ++ rest) (discardFrame step s))
      | .good e => hearOctets fuel (goodFrame e s)

/-- A bound on the receiver's steps over a number of octets held and to come. -/
def hearBound (n : Nat) : Nat := (n + 1) * (n + 1)

/-- The octets are hunted and collected. -/
def hear (l : List Byte) (s : State) : State := hearOctets (hearBound (s.link.buffer.length + l.length)) (setAgain l s)

/-- Each received octet restarts the silence timer at the configured limit (R169, R171). -/
def restartSilence (s : State) : State := { s with link := { s.link with silence := (cfg s).silence * 1000 } }

/-- One octet arrives on the receive line (R169) (DEDUCED, assumption log 14). -/
def receiveOctet (s : State) (o : Byte) : State := hear [o] (restartSilence s)

/-- The octets of a frame arrive, in order (R169, R170) (DEDUCED, assumption log 14). -/
def receiveOctets (l : List Byte) (s : State) : State := l.foldl receiveOctet s

/-- A silence: counted, a partial frame discarded, the link LOST, the timer at 0; the octets behind the mark of the
partial frame are hunted again (R171 to R173) (DEDUCED, assumption log 14). -/
def silenceExpires (s : State) : State :=
  let lost := fun (s : State) => moveLink .lost { s with link := { s.link with goodRun := 0, silence := 0 } }
  let s := count .silences s
  match s.link.phase with
  | .collecting => hear (s.link.buffer.drop 1) (lost (discardFrame none s))
  | .hunting => lost s

/-! ### A request as a command -/

/-- The frame of a request has become good and its entry is offered to the FIFO (R176) (DESIGN CHOICE, assumption log
3). -/
def offerRequest (tag origin : Byte) (r : Request) (s : State) : State :=
  offer { cls := classOfRequest r, tag := tag, origin := origin, body := bodyOctets r } s

end Sys2Proof.Machine
end

