-- ==== Sys2Proof/Machine/Commands.lean ====
section
/-! DEFINITION. What every command's meaning is built of: the part acts while it is powered and out of reset, and each
taking ends with what follows it (`conclude`). -/

namespace Sys2Proof.Machine

/-- The part is powered and its reset line is released (R206) (DEDUCED, assumption log 4). -/
def running (s : State) : Bool := s.lines.power && !s.lines.reset

/-- What a step answers. -/
abbrev Answer := Host.Outcome State Fault Refusal

/-- A command that reaches a running part: its taking and what follows it. A part in reset or without power takes
nothing (R206) (DEDUCED, assumption log 4). -/
def act (f : State → State) (s : State) : Answer := .next (if running s then conclude (f s) else s)

/-- A request sent by the host: its frame has become good, and its entry is offered to the request FIFO; the hand-off
follows as the FIFO and the reply places allow (R176, R177) (DESIGN CHOICE, assumption log 3). -/
def request (tag origin : Byte) (r : Request) (s : State) : Answer := act (offerRequest tag origin r) s

end Sys2Proof.Machine
end

