-- ==== Sys2Proof/Machine/ColumnCommands.lean ====
section
/-! DEFINITION. The meanings of the events of the column bus, the arbiter and the door supervisor: what the columns
answer, what ends on the bus, the hold and attention lines, and the timers of chapters 7 and 8. An expiry says that the
timer it names has reached 0; it has no effect on a timer that does not run. -/

namespace Sys2Proof.Machine

/-! ### Answers (R124 to R126) -/

/-- POLL_ACCEPT (R135). -/
def execPollAccept (address : Byte) (readings : List PositionReading) (s : State) : Answer :=
  act (answered address (acceptPoll readings)) s

/-- PROBE_ACCEPT (R128). -/
def execProbeAccept (address number : Byte) (s : State) : Answer := act (answered address (acceptProbe number)) s

/-- PULSE_ACCEPT (R143). -/
def execPulseAccept (address : Byte) (s : State) : Answer := act (answered address acceptPulse) s

/-- TRACE_READ_ACCEPT (R160). -/
def execTraceReadAccept (address : Byte) (traces : List PositionTrace) (s : State) : Answer :=
  act (answered address (acceptTrace traces)) s

/-- RELAY_ACCEPT (R138). -/
def execRelayAccept (address : Byte) (s : State) : Answer := act (answered address acceptRelay) s

/-- BUSY_ANSWER (R125). -/
def execBusyAnswer (address : Byte) (s : State) : Answer := act (answered address (fun x _ => busyHeard x)) s

/-- WAKE_ANSWER (R126). -/
def execWakeAnswer (address : Byte) (s : State) : Answer := act (answered address (fun x _ => wakeHeard x)) s

/-- The attempt on the bus ends by `f`; with none on it nothing happens. -/
def onAttempt (f : Exchange → State → State) (s : State) : State :=
  match attempt? s with
  | some x => f x s
  | none => s

/-- NO_ANSWER: nothing is heard within 5 ms, or an answer fails its check (R124). -/
def execNoAnswer (s : State) : Answer := act (onAttempt heardNothing) s

/-- STALL: the column holds the bus past 20 ms (R124). -/
def execStall (s : State) : Answer := act (onAttempt stalled) s

/-! ### Retry waits (R125, R126) -/

/-- The wait follows a BUSY answer. -/
def isAfterBusy : RetryWait → Bool
  | .afterBusy _ => true
  | _ => false

/-- The wait follows a WAKE answer. -/
def isAfterWake : RetryWait → Bool
  | .afterWake _ => true
  | _ => false

/-- A retry wait of a kind is over: the operation is ready for its next attempt (R132) (DEDUCED, assumption log 15).
-/
def endRetryWait (kind : RetryWait → Bool) (s : State) : State :=
  match s.bus.retry with
  | some r => if kind r.wait then setRetry (some { r with wait := .ready }) s else s
  | none => s

/-- BUSY_RETRY_WAIT_END: the 10 ms after a BUSY answer elapse (R125). -/
def execBusyRetryWaitEnd (s : State) : Answer := act (endRetryWait isAfterBusy) s

/-- WAKE_RETRY_WAIT_END: the settle interval after a WAKE answer elapses (R126). -/
def execWakeRetryWaitEnd (s : State) : Answer := act (endRetryWait isAfterWake) s

/-! ### Broadcasts (R133) -/

/-- HOLD_ALL_SENT: every pulse in flight ends, CUT (R133, R145). -/
def execHoldAllSent (s : State) : Answer :=
  act (fun s => if isSending .holdAll s then cutPulses (setUse .free s) else s) s

/-- SLEEP_ALL_SENT (R133, R210). -/
def execSleepAllSent (s : State) : Answer :=
  act (fun s => if isSending .sleepAll s then sleepColumns (setUse .free s) else s) s

/-- WAKE_ALL_SENT: the settle interval runs from here (R133, R211). -/
def execWakeAllSent (s : State) : Answer :=
  act (fun s =>
    if isSending .wakeAll s then
      let s := setUse .free s
      { s with dormancy := { s.dormancy with settling := some (cfg s).wakeSettle } }
    else s) s

/-- WAKE_SETTLE_END: the ASLEEP columns become PRESENT and the wake round begins (R133, R211). -/
def execWakeSettleEnd (s : State) : Answer :=
  act (fun s => if s.dormancy.settling.isSome then wakeSettled s else s) s

/-! ### Polls, probes, the attention line (R128, R134, R136) -/

/-- POLL_ROUND: a poll round starts while AWAKE (R134). -/
def execPollRound (s : State) : Answer :=
  act (fun s => if s.dormancy.state = .awake then startRound s else s) s

/-- PROBE_MARK: the 5 s mark while AWAKE (R128). -/
def execProbeMark (s : State) : Answer :=
  act (fun s => if s.dormancy.state = .awake then markProbes s else s) s

/-- ATTENTION_ASSERT: a wake cause in DORMANT, a poll round in AWAKE, nothing in WAKING (R136, R211). -/
def execAttentionAssert (s : State) : Answer :=
  act (fun s =>
    match s.dormancy.state with
    | .dormant => wakeCause s
    | .awake => startRound s
    | .waking => s) s

/-! ### The arbiter (R145, R147 to R149) -/

/-- The pulse of the compartment is in flight. -/
def pulseFlies (n : CompNo) (s : State) : Bool :=
  s.arbiter.committed.any (fun c => c.comp == n && isInFlight c.stage)

/-- PULSE_END: the pulse timer reaches its length: ELAPSED (R145). -/
def execPulseEnd (n : CompNo) (s : State) : Answer :=
  act (fun s => if pulseFlies n s then lookOver (notePulseEnd n .elapsed (leaveCommitted n s)) else s) s

/-- RESTART_GUARD_ELAPSED (R147). -/
def execRestartGuardElapsed (s : State) : Answer :=
  act (fun s =>
    match s.arbiter.guard with
    | some _ => lookOver { s with arbiter := { s.arbiter with guard := none } }
    | none => s) s

/-- The hold line is at a level: a running part judges the change, another senses it at its next start (R148, R149,
R207) (DEDUCED, assumption log 4). -/
def holdLine (level : Bool) (s : State) : Answer :=
  if running s then act (senseHold level) s else .next { s with lines := { s.lines with hold := level } }

/-- HOLD_LINE_ASSERT (R148). -/
def execHoldLineAssert (s : State) : Answer := holdLine true s

/-- HOLD_LINE_RELEASE (R149). -/
def execHoldLineRelease (s : State) : Answer := holdLine false s

/-! ### Door timers (R158, R159, R165) -/

/-- CONFIRM_EXPIRY (R158) (DESIGN CHOICE, assumption log 5). -/
def execConfirmExpiry (n : CompNo) (s : State) : Answer :=
  act (fun s => if confirmRuns n s then confirmExpired n s else s) s

/-- OPEN_LIMIT_EXPIRY (R159) (DESIGN CHOICE, assumption log 5). -/
def execOpenLimitExpiry (n : CompNo) (s : State) : Answer :=
  act (fun s => if openLimitRuns n s then openLimitExpired n s else s) s

/-- DOOR_AJAR is raised and the ajar timer restarts (R165). -/
def ajarExpired (n : CompNo) (s : State) : State :=
  let s := raiseAjar n s.doors.records[n].openSeconds s
  modDoor n (fun d => { d with ajar := some (cfg s).ajar }) s

/-- AJAR_EXPIRY: a running ajar timer has reached 0 (R165) (DESIGN CHOICE, assumption log 5). -/
def execAjarExpiry (n : CompNo) (s : State) : Answer :=
  act (fun s => if s.doors.records[n].ajar = some 0 && doorRuns n s then ajarExpired n s else s) s

end Sys2Proof.Machine
end

