-- ==== Sys2Proof/Machine/LinkCommands.lean ====
section
/-! DEFINITION. The meanings of the events of the kiosk link: octets and frames received, a silence, a completed
transmission (chapter 9). -/

namespace Sys2Proof.Machine

/-- FRAME_RECEIVED: the octets of a frame arrive (R169, R170). -/
def execFrameReceived (octets : List Byte) (s : State) : Answer := act (receiveOctets octets) s

/-- OCTET_RECEIVED: one octet arrives (R169). -/
def execOctetReceived (octet : Byte) (s : State) : Answer := act (fun s => receiveOctet s octet) s

/-- SILENCE_EXPIRY: the silence timer reaches 0; it stands at 0 after a silence until an octet comes (R171) (DESIGN
CHOICE, assumption log 5). -/
def execSilenceExpiry (s : State) : Answer :=
  act (fun s => if s.link.silence = 0 then s else silenceExpires s) s

/-- REPLY_TRANSMIT_COMPLETE (R175, R180). -/
def execReplyTransmitComplete (s : State) : Answer := act replySent s

/-- NOTICE_TRANSMIT_COMPLETE (R181, R185). -/
def execNoticeTransmitComplete (s : State) : Answer := act noticeSent s

end Sys2Proof.Machine
end

