-- ==== Sys2Proof/Machine/PowerCommands.lean ====
section
/-! DEFINITION. The meanings of the reset line and the supplies (11.4). -/

namespace Sys2Proof.Machine

/-- RESET_ASSERT: the part takes no octet and makes no exchange until the line is released (R206) (DEDUCED,
assumption log 4). -/
def execResetAssert (s : State) : Answer := .next { s with lines := { s.lines with reset := true } }

/-- The start at power or at the release of the reset line: warm when the retention-intact marker is set, else cold
(R206). -/
def startByMarker (s : State) : State := if s.mgmt.retentionIntact then warmStart s else coldStart s

/-- RESET_RELEASE: power is established with the reset line released, or the line is released: the part starts (R206)
(DEDUCED, assumption log 4). -/
def execResetRelease (s : State) : Answer :=
  .next (conclude (startByMarker { s with lines := { s.lines with reset := false, power := true } }))

/-- RETENTION_SUPPLY_LOSS: the marker clears, whatever else the part is doing (R206) (DEDUCED, assumption log 4). -/
def execRetentionSupplyLoss (s : State) : Answer := .next { s with mgmt := { s.mgmt with retentionIntact := false } }

/-- The loss of power cut a cold start short: the marker, set at the end of a cold start, is clear (R207) (DEDUCED,
assumption log 25). -/
def cutColdStart (s : State) : State :=
  if s.mgmt.resetCause.last = .cold then { s with mgmt := { s.mgmt with retentionIntact := false } } else s

/-- POWER_LOSS: the part stops; the retention domain and the clock are kept on their supply (R206, R207) (DEDUCED,
assumption log 4). -/
def execPowerLoss (cutsColdStart : Bool) (s : State) : Answer :=
  let s := if cutsColdStart then cutColdStart s else s
  .next { s with lines := { s.lines with power := false } }

end Sys2Proof.Machine
end

