-- ==== Sys2Proof/Machine/RequestCommands.lean ====
section
/-! DEFINITION. The meanings of the requests: each is its frame's entry offered to the request FIFO (R176) and, when
its turn comes, the taking by its owner (`takeRequest`). -/

namespace Sys2Proof.Machine

/-- SIGN_ON (R33). -/
def execSignOn (tag origin : Byte) (code : CodeValue) (s : State) : Answer :=
  request tag origin (.signOn code) s

/-- SIGN_OFF (R34). -/
def execSignOff (tag origin : Byte) (s : State) : Answer :=
  request tag origin .signOff s

/-- ENROL COURIER (R28). -/
def execEnrolCourier (tag origin : Byte) (code : CodeValue) (route deposit sweep : Byte) (s : State) : Answer :=
  request tag origin (.enrolCourier code route deposit sweep) s

/-- REVOKE COURIER (R29). -/
def execRevokeCourier (tag origin : Byte) (courier : Byte) (s : State) : Answer :=
  request tag origin (.revokeCourier courier) s

/-- ADVISE (R46). -/
def execAdvise (tag origin : Byte) (a : AdviceFields) (s : State) : Answer :=
  request tag origin (.advise a) s

/-- WITHDRAW (R47). -/
def execWithdraw (tag origin : Byte) (ref : Reference) (s : State) : Answer :=
  request tag origin (.withdraw ref) s

/-- REISSUE (R48). -/
def execReissue (tag origin : Byte) (ref : Reference) (code : CodeValue) (s : State) : Answer :=
  request tag origin (.reissue ref code) s

/-- STATUS naming a compartment (R21). -/
def execStatusCompartment (tag origin : Byte) (compartment : Byte) (s : State) : Answer :=
  request tag origin (.statusCompartment compartment) s

/-- STATUS naming a parcel reference (R49). -/
def execStatusParcel (tag origin : Byte) (ref : Reference) (s : State) : Answer :=
  request tag origin (.statusParcel ref) s

/-- DEPOSIT (R51). -/
def execDeposit (tag origin : Byte) (ref : Reference) (s : State) : Answer :=
  request tag origin (.deposit ref) s

/-- RETURN_DROP (R52). -/
def execReturnDrop (tag origin : Byte) (code : CodeValue) (s : State) : Answer :=
  request tag origin (.returnDrop code) s

/-- ABANDON (R54). -/
def execAbandon (tag origin : Byte) (s : State) : Answer :=
  request tag origin .abandon s

/-- TIME SET (R63). -/
def execTimeSet (tag origin : Byte) (minute : Minute) (seconds : Byte) (s : State) : Answer :=
  request tag origin (.timeSet minute seconds) s

/-- COLLECT (R81). -/
def execCollect (tag origin : Byte) (code : CodeValue) (s : State) : Answer :=
  request tag origin (.collect code) s

/-- TENDER (R88). -/
def execTender (tag origin : Byte) (amount : BitVec 24) (tref : BitVec 32) (s : State) : Answer :=
  request tag origin (.tender amount tref) s

/-- CANCEL (R92). -/
def execCancel (tag origin : Byte) (s : State) : Answer :=
  request tag origin .cancel s

/-- SWEEP_START (R110). -/
def execSweepStart (tag origin : Byte) (s : State) : Answer :=
  request tag origin .sweepStart s

/-- SWEEP_STOP (R119). -/
def execSweepStop (tag origin : Byte) (s : State) : Answer :=
  request tag origin .sweepStop s

/-- RETIRE (R108). -/
def execRetire (tag origin : Byte) (ref : Reference) (s : State) : Answer :=
  request tag origin (.retire ref) s

/-- BAR (R14). -/
def execBar (tag origin : Byte) (compartment : Byte) (s : State) : Answer :=
  request tag origin (.bar compartment) s

/-- UNBAR (R16). -/
def execUnbar (tag origin : Byte) (compartment : Byte) (s : State) : Answer :=
  request tag origin (.unbar compartment) s

/-- MAINT ENTER (R17). -/
def execMaintEnter (tag origin : Byte) (compartment : Byte) (s : State) : Answer :=
  request tag origin (.maintEnter compartment) s

/-- MAINT EXIT (R20). -/
def execMaintExit (tag origin : Byte) (compartment : Byte) (s : State) : Answer :=
  request tag origin (.maintExit compartment) s

/-- MAINT TEST PULSE (R18). -/
def execMaintTestPulse (tag origin : Byte) (compartment : Byte) (s : State) : Answer :=
  request tag origin (.maintTestPulse compartment) s

/-- MAINT TRACE (R163). -/
def execMaintTrace (tag origin : Byte) (column : Byte) (s : State) : Answer :=
  request tag origin (.maintTrace column) s

/-- RELAY (R137). -/
def execRelay (tag origin : Byte) (column kind : Byte) (message : List Byte) (s : State) : Answer :=
  request tag origin (.relay column kind message) s

/-- ENUMERATE (R129). -/
def execEnumerate (tag origin : Byte) (s : State) : Answer :=
  request tag origin .enumerate s

/-- CLEAR INTEGRITY (R195). -/
def execClearIntegrity (tag origin : Byte) (s : State) : Answer :=
  request tag origin .clearIntegrity s

/-- SNAPSHOT (R189). -/
def execSnapshot (tag origin : Byte) (s : State) : Answer :=
  request tag origin .snapshot s

/-- MASK (R186). -/
def execMask (tag origin : Byte) (masks : Vector Byte 12) (s : State) : Answer :=
  request tag origin (.mask masks) s

/-- DRILL STEP (R196). -/
def execDrillStep (tag origin : Byte) (s : State) : Answer :=
  request tag origin .drillStep s

/-- CURSOR (R198). -/
def execCursor (tag origin : Byte) (table : Byte) (index : BitVec 16) (mode : Byte) (s : State) : Answer :=
  request tag origin (.cursor table index mode) s

/-- READ (R199). -/
def execRead (tag origin : Byte) (s : State) : Answer :=
  request tag origin .read s

/-- WRITE of a tariff plan (R66). -/
def execWriteTariff (tag origin : Byte) (plan : PlanFields) (s : State) : Answer :=
  request tag origin (.writeTariff plan) s

/-- WRITE of a peak window (R67). -/
def execWritePeak (tag origin : Byte) (first last multiplier : BitVec 16) (s : State) : Answer :=
  request tag origin (.writePeak first last multiplier) s

/-- WRITE of a map value (R4). -/
def execWriteMap (tag origin : Byte) (place : Option (Byte × Byte)) (cls : Byte) (s : State) : Answer :=
  request tag origin (.writeMap place cls) s

/-- WRITE of relay permissions (R122). -/
def execWriteColumn (tag origin : Byte) (lamp text chime : Byte) (s : State) : Answer :=
  request tag origin (.writeColumn lamp text chime) s

/-- WRITE of any octets (R200). -/
def execWrite (tag origin : Byte) (fields : List Byte) (s : State) : Answer :=
  request tag origin (.write fields) s

/-- CONFIG SET (R202). -/
def execConfigSet (tag origin : Byte) (fields : List (Byte × BitVec 16)) (s : State) : Answer :=
  request tag origin (.configSet fields) s

/-- CONFIG GET (R203). -/
def execConfigGet (tag origin : Byte) (s : State) : Answer :=
  request tag origin .configGet s

/-- HOLD (R204). -/
def execHold (tag origin : Byte) (s : State) : Answer :=
  request tag origin .hold s

/-- UNHOLD (R204). -/
def execUnhold (tag origin : Byte) (s : State) : Answer :=
  request tag origin .unhold s

/-- CLEAR STRANDED (R205). -/
def execClearStranded (tag origin : Byte) (slot : BitVec 16) (s : State) : Answer :=
  request tag origin (.clearStranded slot) s

/-- CLEAR QUARANTINE (R205). -/
def execClearQuarantine (tag origin : Byte) (slot : BitVec 16) (s : State) : Answer :=
  request tag origin (.clearQuarantine slot) s

/-- RESTART ENGINES (R206). -/
def execRestartEngines (tag origin : Byte) (s : State) : Answer :=
  request tag origin .restartEngines s

/-- RESET ALL (R206). -/
def execResetAll (tag origin : Byte) (s : State) : Answer :=
  request tag origin .resetAll s

end Sys2Proof.Machine
end

