-- ==== Sys2Proof/Machine/TimeCommands.lean ====
section
/-! DEFINITION. The meanings of what the time base and the other timers bring: seconds and minutes (4.1), the ends of
windows and lockouts, a completed computation, the expiry scanner's and the scrubber's visits, the idle timer. -/

namespace Sys2Proof.Machine

/-! ### The time base (R62) -/

/-- The link is not LOST: the windows and the inactivity timers count (R174). -/
def linkCounts (s : State) : Bool := s.link.state != .lost

/-- A second at a terminal: its lockout falls in every link state, the inactivity timer of a COURIER with no open job
while the link is not LOST (R35, R39). -/
def termSecond (counts : Bool) (c : TermContext) : TermContext :=
  let runs := match c.mode with
    | .courier _ => c.openJob.isNone && counts
    | _ => false
  { c with
    lockRemaining := c.lockRemaining - 1
    inactivity := if runs then c.inactivity - 1 else c.inactivity }

/-- A second of a payment window (R87). -/
def contextSecond : QuoteContext → QuoteContext
  | .due k left last => .due k (left - 1) last
  | c => c

/-- A second of the windows, which stand while the link is LOST (R80). -/
def windowSecond (c : CollectionEngine) : CollectionEngine :=
  { c with
    contexts := c.contexts.map contextSecond
    reopen := c.reopen.map (fun e => { e with left := e.left - 1 }) }

/-- A second of a running ajar timer (R165). -/
def ajarSecond (d : DoorRecord) : DoorRecord :=
  match d.ajar with
  | some left => { d with ajar := some (left - 1), openSeconds := satInc d.openSeconds }
  | none => d

/-- The idle timer runs (R209). -/
def idleRuns (s : State) : Bool := s.dormancy.state == .awake && isQuiet s && 0 < (cfg s).idle

/-- The second event at the blocks that count in seconds (R62). An expiry it leads to is a command of its own. -/
def secondEvents (s : State) : State :=
  { s with
    creds := { s.creds with terms := s.creds.terms.map (termSecond (linkCounts s)) }
    collection := if linkCounts s then windowSecond s.collection else s.collection
    doors := { s.doors with
      records := table 240 (fun n =>
        if doorRuns n s then ajarSecond s.doors.records[n] else s.doors.records[n]) }
    dormancy := if idleRuns s then { s.dormancy with idle := s.dormancy.idle - 1 } else s.dormancy }

/-- The clock stands at the last second of a minute. -/
def lastSecond (tb : TimeBase) : Bool := tb.seconds.val == 59

/-- The clock after a second: the seconds pass from 59 to 0, and the minute rises unless it stands at its largest
(R62) (DESIGN CHOICE, assumption log 6). -/
def clockSecond (tb : TimeBase) : TimeBase :=
  if h : tb.seconds.val < 59 then { tb with seconds := ⟨tb.seconds.val + 1, by omega⟩ }
  else { tb with seconds := 0, minute := if tb.minute = 0xFFFFFFFF#32 then tb.minute else tb.minute + 1 }

/-- The second is a minute boundary that is handed on (R62). -/
def isBoundary (tb : TimeBase) : Bool := lastSecond tb && tb.minute != 0xFFFFFFFF#32

/-- A second of a running part: the clock, the second events, and at a minute boundary the return engine (R62, R102)
(DESIGN CHOICE, assumption log 6). -/
def second (s : State) : State :=
  let before := s.time
  let s := secondEvents { s with time := clockSecond before }
  if isBoundary before then boundary s.time.minute s else s

/-- One elapsed second; the time base counts in reset and without the main supply too (R62, R206) (DEDUCED,
assumption log 4). -/
def elapse (s : State) : Answer :=
  if running s then act second s else .next { s with time := clockSecond s.time }

/-- SECOND_TICK (R62) (DESIGN CHOICE, assumption log 6). -/
def execSecondTick (s : State) : Answer := elapse s

/-- MINUTE_BOUNDARY: the elapsed second at which the seconds pass from 59 (R62) (DESIGN CHOICE, assumption log 6). -/
def execMinuteBoundary (s : State) : Answer := elapse { s with time := { s.time with seconds := 59 } }

/-! ### Terminals and windows (R35, R39, R91, R96) -/

/-- LOCKOUT_END: the lockout has ended as its count reached 0, and failed count and level stay, so nothing is left to
change (R39) (DESIGN CHOICE, assumption log 5). -/
def execLockoutEnd (_t : Term) (s : State) : Answer := act id s

/-- The inactivity timer of the terminal stands at 0 where it counts: in COURIER mode with no open job (R35). -/
def inactivityOver (t : Term) (s : State) : Bool :=
  (courierAt t s).isSome && s.creds.terms[t].openJob.isNone && s.creds.terms[t].inactivity == 0

/-- INACTIVITY_EXPIRY (R35, R36) (DESIGN CHOICE, assumption log 5). -/
def execInactivityExpiry (t : Term) (s : State) : Answer :=
  act (fun s => if inactivityOver t s then signOff t s else s) s

/-- The payment window of the terminal has reached 0 (R87). -/
def windowOver (t : Term) (s : State) : Bool :=
  match s.collection.contexts[t] with
  | .due _ left _ => left == 0
  | _ => false

/-- QUOTE_LAPSE (R87, R91) (DESIGN CHOICE, assumption log 5). -/
def execQuoteLapse (t : Term) (s : State) : Answer := act (fun s => if windowOver t s then lapse t s else s) s

/-- The re-open window of the slot has reached 0 (R96). -/
def reopenOver (k : Slot) (s : State) : Bool := s.collection.reopen.any (fun e => e.slot == k && e.left == 0)

/-- REOPEN_WINDOW_END (R96) (DESIGN CHOICE, assumption log 5). -/
def execReopenWindowEnd (k : Slot) (s : State) : Answer :=
  act (fun s => if reopenOver k s then endReopen k s else s) s

/-- COMPUTATION_COMPLETE (R73). -/
def execComputationComplete (s : State) : Answer := act completeComputation s

/-! ### Background visits and the idle timer (R103, R191, R209) -/

/-- SCAN_VISIT (R103). -/
def execScanVisit (s : State) : Answer := act scanVisit s

/-- SCRUB_VISIT (R191). -/
def execScrubVisit (s : State) : Answer := act scrubVisit s

/-- The bank enters DORMANT: a SLEEP_ALL is queued (R210). -/
def enterDormant (s : State) : State :=
  enqueueBroadcast .sleepAll { s with dormancy := { s.dormancy with state := .dormant } }

/-- IDLE_EXPIRY: the idle timer of a quiet bank reaches 0 (R209) (DESIGN CHOICE, assumption log 5). -/
def execIdleExpiry (s : State) : Answer :=
  act (fun s => if idleRuns s && s.dormancy.idle == 0 then enterDormant s else s) s

end Sys2Proof.Machine
end

