-- ==== Sys2Proof/Machine/Dispatch.lean ====
section
/-! DEFINITION. The meaning of every command, one arm per constructor. -/

namespace Sys2Proof.Machine

/-- A command's effect on everything but the queue of the commands that wait. -/
def exec (i : Instr) (s : State) : Host.Outcome State Fault Refusal :=
  match i with
  | .frameReceived octets => Sys2Proof.Machine.execFrameReceived octets s
  | .silenceExpiry => Sys2Proof.Machine.execSilenceExpiry s
  | .replyTransmitComplete => Sys2Proof.Machine.execReplyTransmitComplete s
  | .noticeTransmitComplete => Sys2Proof.Machine.execNoticeTransmitComplete s
  | .signOn tag origin code => Sys2Proof.Machine.execSignOn tag origin code s
  | .signOff tag origin => Sys2Proof.Machine.execSignOff tag origin s
  | .enrolCourier tag origin code route deposit sweep => Sys2Proof.Machine.execEnrolCourier tag origin code route deposit sweep s
  | .revokeCourier tag origin courier => Sys2Proof.Machine.execRevokeCourier tag origin courier s
  | .advise tag origin a => Sys2Proof.Machine.execAdvise tag origin a s
  | .withdraw tag origin ref => Sys2Proof.Machine.execWithdraw tag origin ref s
  | .reissue tag origin ref code => Sys2Proof.Machine.execReissue tag origin ref code s
  | .statusCompartment tag origin compartment => Sys2Proof.Machine.execStatusCompartment tag origin compartment s
  | .statusParcel tag origin ref => Sys2Proof.Machine.execStatusParcel tag origin ref s
  | .deposit tag origin ref => Sys2Proof.Machine.execDeposit tag origin ref s
  | .returnDrop tag origin code => Sys2Proof.Machine.execReturnDrop tag origin code s
  | .abandon tag origin => Sys2Proof.Machine.execAbandon tag origin s
  | .timeSet tag origin minute seconds => Sys2Proof.Machine.execTimeSet tag origin minute seconds s
  | .collect tag origin code => Sys2Proof.Machine.execCollect tag origin code s
  | .computationComplete => Sys2Proof.Machine.execComputationComplete s
  | .tender tag origin amount tref => Sys2Proof.Machine.execTender tag origin amount tref s
  | .cancel tag origin => Sys2Proof.Machine.execCancel tag origin s
  | .quoteLapse t => Sys2Proof.Machine.execQuoteLapse t s
  | .reopenWindowEnd k => Sys2Proof.Machine.execReopenWindowEnd k s
  | .sweepStart tag origin => Sys2Proof.Machine.execSweepStart tag origin s
  | .sweepStop tag origin => Sys2Proof.Machine.execSweepStop tag origin s
  | .retire tag origin ref => Sys2Proof.Machine.execRetire tag origin ref s
  | .bar tag origin compartment => Sys2Proof.Machine.execBar tag origin compartment s
  | .unbar tag origin compartment => Sys2Proof.Machine.execUnbar tag origin compartment s
  | .maintEnter tag origin compartment => Sys2Proof.Machine.execMaintEnter tag origin compartment s
  | .maintExit tag origin compartment => Sys2Proof.Machine.execMaintExit tag origin compartment s
  | .maintTestPulse tag origin compartment => Sys2Proof.Machine.execMaintTestPulse tag origin compartment s
  | .maintTrace tag origin column => Sys2Proof.Machine.execMaintTrace tag origin column s
  | .relay tag origin column kind message => Sys2Proof.Machine.execRelay tag origin column kind message s
  | .enumerate tag origin => Sys2Proof.Machine.execEnumerate tag origin s
  | .clearIntegrity tag origin => Sys2Proof.Machine.execClearIntegrity tag origin s
  | .snapshot tag origin => Sys2Proof.Machine.execSnapshot tag origin s
  | .mask tag origin masks => Sys2Proof.Machine.execMask tag origin masks s
  | .drillStep tag origin => Sys2Proof.Machine.execDrillStep tag origin s
  | .cursor tag origin table index mode => Sys2Proof.Machine.execCursor tag origin table index mode s
  | .read tag origin => Sys2Proof.Machine.execRead tag origin s
  | .writeTariff tag origin plan => Sys2Proof.Machine.execWriteTariff tag origin plan s
  | .writePeak tag origin first last multiplier => Sys2Proof.Machine.execWritePeak tag origin first last multiplier s
  | .writeMap tag origin place cls => Sys2Proof.Machine.execWriteMap tag origin place cls s
  | .writeColumn tag origin lamp text chime => Sys2Proof.Machine.execWriteColumn tag origin lamp text chime s
  | .write tag origin fields => Sys2Proof.Machine.execWrite tag origin fields s
  | .configSet tag origin fields => Sys2Proof.Machine.execConfigSet tag origin fields s
  | .configGet tag origin => Sys2Proof.Machine.execConfigGet tag origin s
  | .hold tag origin => Sys2Proof.Machine.execHold tag origin s
  | .unhold tag origin => Sys2Proof.Machine.execUnhold tag origin s
  | .clearStranded tag origin slot => Sys2Proof.Machine.execClearStranded tag origin slot s
  | .clearQuarantine tag origin slot => Sys2Proof.Machine.execClearQuarantine tag origin slot s
  | .restartEngines tag origin => Sys2Proof.Machine.execRestartEngines tag origin s
  | .resetAll tag origin => Sys2Proof.Machine.execResetAll tag origin s
  | .resetAssert => Sys2Proof.Machine.execResetAssert s
  | .resetRelease => Sys2Proof.Machine.execResetRelease s
  | .retentionSupplyLoss => Sys2Proof.Machine.execRetentionSupplyLoss s
  | .secondTick => Sys2Proof.Machine.execSecondTick s
  | .minuteBoundary => Sys2Proof.Machine.execMinuteBoundary s
  | .scanVisit => Sys2Proof.Machine.execScanVisit s
  | .lockoutEnd t => Sys2Proof.Machine.execLockoutEnd t s
  | .inactivityExpiry t => Sys2Proof.Machine.execInactivityExpiry t s
  | .pollRound => Sys2Proof.Machine.execPollRound s
  | .probeMark => Sys2Proof.Machine.execProbeMark s
  | .attentionAssert => Sys2Proof.Machine.execAttentionAssert s
  | .pollAccept address readings => Sys2Proof.Machine.execPollAccept address readings s
  | .probeAccept address number => Sys2Proof.Machine.execProbeAccept address number s
  | .pulseAccept address => Sys2Proof.Machine.execPulseAccept address s
  | .traceReadAccept address traces => Sys2Proof.Machine.execTraceReadAccept address traces s
  | .relayAccept address => Sys2Proof.Machine.execRelayAccept address s
  | .busyAnswer address => Sys2Proof.Machine.execBusyAnswer address s
  | .busyRetryWaitEnd => Sys2Proof.Machine.execBusyRetryWaitEnd s
  | .wakeAnswer address => Sys2Proof.Machine.execWakeAnswer address s
  | .wakeRetryWaitEnd => Sys2Proof.Machine.execWakeRetryWaitEnd s
  | .noAnswer => Sys2Proof.Machine.execNoAnswer s
  | .stall => Sys2Proof.Machine.execStall s
  | .holdAllSent => Sys2Proof.Machine.execHoldAllSent s
  | .sleepAllSent => Sys2Proof.Machine.execSleepAllSent s
  | .wakeAllSent => Sys2Proof.Machine.execWakeAllSent s
  | .wakeSettleEnd => Sys2Proof.Machine.execWakeSettleEnd s
  | .pulseEnd n => Sys2Proof.Machine.execPulseEnd n s
  | .restartGuardElapsed => Sys2Proof.Machine.execRestartGuardElapsed s
  | .holdLineAssert => Sys2Proof.Machine.execHoldLineAssert s
  | .holdLineRelease => Sys2Proof.Machine.execHoldLineRelease s
  | .confirmExpiry n => Sys2Proof.Machine.execConfirmExpiry n s
  | .openLimitExpiry n => Sys2Proof.Machine.execOpenLimitExpiry n s
  | .ajarExpiry n => Sys2Proof.Machine.execAjarExpiry n s
  | .idleExpiry => Sys2Proof.Machine.execIdleExpiry s
  | .scrubVisit => Sys2Proof.Machine.execScrubVisit s
  | .octetReceived octet => Sys2Proof.Machine.execOctetReceived octet s
  | .powerLoss cuts => Sys2Proof.Machine.execPowerLoss cuts s

end Sys2Proof.Machine
end

