-- ==== Sys2Proof/Safety.lean ====
section
/-! DEFINITION. What counts as a safe state, in the terms the statements use: the bounds of the link's queues (R175,
R176), of the notice queues (R183, R184), of the operation queue (R131) and of the lock pulses (R139, R141), the free
lists and two-sided links (R5, R7, R44), the check bytes of the three checked tables (R190); and when a part is ready to
take a request, and at rest. -/

namespace Sys2Proof.Machine

/-- The request FIFO holds at most eight requests, and the reply queue has eight places, reserved or filled (R175,
R176). -/
abbrev LinkBounded (s : State) : Prop := s.link.fifo.length ≤ 8 ∧ placesInUse s ≤ 8

/-- A notice class holds at most eight details, and its pending flag is set exactly while it holds one (R183 to
R185). -/
abbrev ClassBounded (q : ClassQueue) : Prop := q.details.length ≤ 8 ∧ (q.pending = true ↔ q.details ≠ [])

/-- Every notice class is within its bounds. -/
abbrev NoticesBounded (s : State) : Prop := ∀ i : Fin 12, ClassBounded s.notices.classes[i]

/-- At most four lock pulses are committed, no two of them on one column or of one compartment, and the configured budget
is at most four (R139 to R141, R201). -/
abbrev PulsesBounded (s : State) : Prop :=
  (cfg s).pulseBudget ≤ 4 ∧ s.arbiter.committed.length ≤ 4 ∧
    s.arbiter.committed.Pairwise (fun a b => a.col ≠ b.col ∧ a.comp ≠ b.comp)

/-- The operation queue holds at most sixteen operations (R131). -/
abbrev OperationsBounded (s : State) : Prop := s.bus.queue.length ≤ 16

/-- The free lists and the links between compartments and records say the same from both sides (R5, R7, R43, R44). -/
structure TablesAgree (s : State) : Prop where
  /-- A compartment is in a list exactly when it is of its class, VACANT, sensed closed, with no pending bar (R5). -/
  listed : ∀ (cls : SizeClass) (n : CompNo), n ∈ listOf cls s.freeLists ↔
    s.comps[n].cls = cls ∧ s.comps[n].state = .vacant ∧ s.comps[n].door = .closed ∧ s.comps[n].pendingBar = false
  /-- No list holds a compartment twice (R5). -/
  once : ∀ cls, (listOf cls s.freeLists).Nodup
  /-- A compartment names a record exactly when that record names the compartment (R7, R43). -/
  linked : ∀ (n : CompNo) (k : Slot), s.comps[n].link = some k ↔ ∃ p, parcelAt k s = some p ∧ p.comp = some n
  /-- An UNFITTED, VACANT or MAINT compartment holds no record. -/
  unlinked : ∀ n : CompNo, s.comps[n].state = .unfitted ∨ s.comps[n].state = .vacant ∨ s.comps[n].state = .maint →
    s.comps[n].link = none
  /-- An ADVISED record stands in no compartment. -/
  advised : ∀ k p, parcelAt k s = some p → p.state = .advised → p.comp = none
  /-- The free-slot list holds the FREE slots (R44). -/
  slots : ∀ k, k ∈ s.parcels.free ↔ parcelAt k s = none
  /-- The free-slot list holds no slot twice (R44). -/
  slotsOnce : s.parcels.free.Nodup
  /-- A pending bar stands on a compartment in use. -/
  pending : ∀ n : CompNo, s.comps[n].pendingBar = true →
    s.comps[n].state ≠ .unfitted ∧ s.comps[n].state ≠ .vacant ∧ s.comps[n].state ≠ .barred
  /-- A door phase other than NONE tells of a job or of the maintenance loop. -/
  phase : ∀ n : CompNo, s.comps[n].phase ≠ .none → isJob s.comps[n].state = true ∨ s.comps[n].state = .maint
  /-- A close is held on a compartment under a job, in door phase OPEN (R164). -/
  held : ∀ n : CompNo, s.doors.records[n].heldClose ≠ none →
    isJob s.comps[n].state = true ∧ s.comps[n].phase = .opened
  /-- A compartment marked resumed is under a job (R61, R100, R121). -/
  resumed : ∀ n : CompNo, s.deposit.resumed[n] = true → isJob s.comps[n].state = true
  /-- The compartment of a sweep's current record is not marked resumed: a start, which marks, ends the sweep (R109,
  R121). -/
  swept : ∀ w k (n : CompNo), s.returns.sweep = some w → w.current = some k → s.comps[n].link = some k →
    s.deposit.resumed[n] = false
  /-- The compartment in MAINT is the one in the maintenance-loop slot (R17). -/
  loop : ∀ n : CompNo, s.comps[n].state = .maint ↔ ∃ m, s.maintSlot = some m ∧ m.comp = n

/-- A plan's block length is one of the thirteen, and a peak window's multiplier is 100 to 300 (R65, R67). -/
abbrev ChargesInRange (plan : Plan) (peaks : Vector PeakWindow 4) : Prop :=
  plan.block ∈ blockLengths ∧ ∀ i : Fin 4, 100 ≤ peaks[i].multiplier ∧ peaks[i].multiplier ≤ 300

/-- The tariff and peak tables, and the snapshot of a computation in progress, are in range (R65, R67, R69). -/
def ChargeTablesInRange (s : State) : Prop :=
  (∀ p : PlanNo, ChargesInRange s.charge.plans[p] s.charge.peaks) ∧
    ∀ sn, s.charge.running = some sn → ChargesInRange sn.plan sn.peaks

/-- Every entry of the three checked tables agrees with its check byte (R190). -/
abbrev TablesGood (s : State) : Prop :=
  (∀ n, compGood n s = true) ∧ (∀ k, parcelGood k s = true) ∧ (∀ w, wayGood w s = true)

/-- The part runs, its request FIFO is empty and a hand-off finds its two free places: a request sent now is taken at
once (R176, R177). -/
abbrev Ready (s : State) : Prop := running s = true ∧ s.link.fifo = [] ∧ placesInUse s ≤ 6

/-- A reply stands at the tail of the reply queue (R175, R215). -/
def replied (tag origin : Byte) (body : List Byte) (s : State) : State :=
  { s with link := { s.link with replies := s.link.replies ++ [{ tag := tag, origin := origin, body := body }] } }

/-- A reply fills a place reserved for it (R175), as after a taking that may itself have answered a queued RELAY. -/
def filled (tag origin : Byte) (body : List Byte) (s : State) : State :=
  placeReply { tag := tag, origin := origin, body := body } s

/-- A WRITE's body is read against the cursor's table: the tables each form of it fits (R200, R214, R218). -/
def fitsTable (t : TableId) : Request → Bool
  | .writeTariff _ => t == .tariff
  | .writePeak _ _ _ => t == .peak
  | .writeMap _ _ => t == .map
  | .writeColumn _ _ _ => t == .column
  | .write _ => t == .parcel || t == .credential || t == .returnQueue || t == .counters || t == .snapshot
  | _ => true

/-- A place of the reply queue is reserved for a request handed off (R175, R177). -/
def reserve (s : State) : State := { s with link := { s.link with reserved := s.link.reserved + 1 } }

/-- Every way of a code's bucket passes its check (R24, R25). -/
abbrev BucketGood (code : CodeValue) (s : State) : Prop := ∀ v ∈ bucketWays code, wayGood v s = true

/-- The way is the lowest of the code's bucket that holds the code, with a kind (R24). -/
abbrev HoldsCode (code : CodeValue) (w : Way) (kind : CredKind) (s : State) : Prop :=
  w ∈ bucketWays code ∧ s.creds.ways[w].map Credential.kind = some kind ∧ wayHolds code s w = true ∧
    ∀ v ∈ bucketWays code, v < w → wayHolds code s v = false

/-- The way is the lowest whose entry names the parcel slot (R26, R27). -/
def NamesSlot (k : Slot) (w : Way) (kind : CredKind) (s : State) : Prop :=
  s.creds.ways[w].map Credential.kind = some kind ∧ kindSlot kind = some k ∧
    ∀ v, v < w → ∀ other, s.creds.ways[v].map Credential.kind = some other → kindSlot other ≠ some k

/-- The way is the lowest free one of a good bucket that does not hold the code (R25). -/
abbrev PlaceOpen (code : CodeValue) (w : Way) (s : State) : Prop :=
  BucketGood code s ∧ (∀ v ∈ bucketWays code, wayHolds code s v = false) ∧ w ∈ bucketWays code ∧
    s.creds.ways[w] = none ∧ ∀ v ∈ bucketWays code, v < w → s.creds.ways[v].isSome = true

/-- The live record that carries the reference stands in the slot and passes its check. -/
abbrev RecordRead (ref : Reference) (k : Slot) (p : Parcel) (s : State) : Prop :=
  recordOf ref s = some k ∧ parcelAt k s = some p ∧ parcelGood k s = true

/-- What a taken deposit leaves at terminal `t`, for the record in slot `k` and compartment `n`: out of its free list,
HELD and AWAIT_GRANT, linked on both sides; the record DEPOSITING; the terminal's open job and marker set; a grant asked
for in class DEPOSIT (R7, R32, R51). -/
def depositTaken (t : Term) (k : Slot) (n : CompNo) (s : State) : State :=
  requestGrant n .deposit
    (setMarker t (some { slot := k, comp := n })
      (modTerm t (fun c =>
          { c with openJob := some k, lastQuoteLapsed := false
                   mode := if c.mode = .idle then .customer else c.mode })
        (modParcel k (fun p => { p with state := .depositing, comp := some n })
          (modComp n (fun c => { c with state := .held, phase := .awaitGrant, link := some k, attempts := 0 })
            (leaveFree n s)))))

/-- The compartment an allocation of a class takes: listed in its class or, with upsizing, in the first larger class
that has one, its column PRESENT, and none before it in that list with a PRESENT column (R7, R8). -/
def AllocationTakes (cls : SizeClass) (upsize : Bool) (n : CompNo) (s : State) : Prop :=
  ∃ c before after front back, classesFrom cls upsize = front ++ c :: back ∧ listOf c s.freeLists = before ++ n :: after ∧
    onPresentColumn n s = true ∧ (∀ m ∈ before, onPresentColumn m s = false) ∧
    ∀ d ∈ front, ∀ m ∈ listOf d s.freeLists, onPresentColumn m s = false

/-- No block has anything to do of its own: no computation to start, no sweep to walk on, no wake round to end, and
room in the operation queue for what the bus controller adds. -/
abbrev AtRest (s : State) : Prop :=
  (s.charge.running.isSome = true ∨ s.charge.queue = []) ∧
  s.returns.sweep.all (fun w => w.current.isSome) = true ∧
  s.dormancy.wakeRound ≠ some [] ∧ s.bus.overflow = [] ∧ s.bus.queue.length ≤ 14

end Sys2Proof.Machine
end

