-- ==== Sys2Proof/Certificates/Slice0/Obligations.lean ====
section
/-! DEFINITION. The statements for the provers. A command's result is stated as the exact next state: the command's own
effect, written out over the named operations, then what follows every taking (`settle` after a request that finds the
FIFO empty, `conclude` after an event), whose own frame is stated first. Everything an equation does not name is as it
was. -/

open Sys2Proof Sys2Proof.Machine Sys2Proof.Wire

/-! ### Steps, and what follows a taking -/

/-- A step takes the command at the front of the queue, with the queue's rest; on an empty queue the block idles. The
queue is the model's own. The model's choices: assumption log 1, 2. -/
def Obligations.StepTakesTheFrontCommand : Prop :=
  (∀ (s : State) (c : Instr) (rest : List Instr), s.pending = c :: rest → step s = exec c { s with pending := rest }) ∧
  ∀ s : State, s.pending = [] → step s = .next s

/-- What follows every taking. Where no block has anything to do of its own, the next POLL joins the operation queue,
for the first PRESENT column that returned, else, while rounds run, the lowest PRESENT column marked, when none is
queued or in its exchange; behind it, while AWAKE, the next PROBE likewise, for the lowest column marked; then a free
bus and an idle transmitter choose, and the idle timer of a bank that is not quiet restarts. With the FIFO empty, or
with fewer than two places free, nothing else follows; otherwise the head leaves the FIFO, a place is reserved for it,
it is taken and settled, and what follows that taking follows in turn (R128, R129, R132, R134, R177, R180, R209). A
returned column's POLL is queued in every dormancy state, and a PROBE is an enumeration's own while that enumeration
still owes its column one. The model's choices: assumption log 12, 17. -/
def Obligations.SettleAndConcludeFollowEveryTaking : Prop :=
  (∀ s : State, AtRest s →
    let polled : Option Col :=
      if (allOps s).any isPoll then none
      else (s.bus.returning.find? (fun c => columnPresent c s)).or
        (if s.dormancy.state = .awake ∨ s.dormancy.wakeRound ≠ none then
          (List.finRange 12).find? (fun c => columnPresent c s && s.bus.columns[c].pollDue)
        else none)
    let probed : Option Col :=
      if (allOps s).any isProbe = true ∨ s.dormancy.state ≠ .awake then none
      else (List.finRange 12).find? (fun c => s.bus.columns[c].probeDue)
    let enumerated := fun (c : Col) => s.bus.enumeration.any (fun en => en.todo.contains c)
    let queued := { s with bus :=
      { s.bus with
        queue := s.bus.queue ++ polled.toList.map Op.poll ++ probed.toList.map (fun c => Op.probe c (enumerated c))
        returning := s.bus.returning.filter (fun c => some c != polled) } }
    let chosen := chooseTx (chooseBus queued)
    settle s =
      if isQuiet chosen then chosen else { chosen with dormancy := { chosen.dormancy with idle := s.mgmt.config.idle } }) ∧
  (∀ s : State, s.link.fifo = [] ∨ 6 < placesInUse s → conclude s = settle s) ∧
  ∀ (s : State) (e : FifoEntry) (rest : List FifoEntry), s.link.fifo = e :: rest → placesInUse s ≤ 6 →
    let t := settle (takeEntry e { s with link := { s.link with fifo := rest, reserved := s.link.reserved + 1 } })
    conclude s = if t.link.fifo ≠ [] ∧ placesInUse t ≤ 6 then conclude t else t

/-- A request sent to a part whose FIFO is empty and whose reply queue has two free places is taken at once by its
owner, with a place reserved, from the body the layouts give it: kind, tag and origin as sent, every field as sent
(R176 to R178, R214). One from no origin is refused BAD_FIELD. Every request of class MGMT from a terminal, and every
request of class REQUEST but STATUS and RELAY from OFFICE, is refused NOT_PERMITTED and changes nothing (R178). The
model's choices: assumption log 3, 12, 20. -/
def Obligations.ReadyRequestIsTakenByItsOwner : Prop :=
  (∀ (s : State) (i : Instr) (tag : Byte) (o : Origin) (r : Request), i.request? = some (tag, originOctet o, r) →
    Ready s → r.wellFormed = true → fitsTable s.mgmt.cursor.table r = true →
    exec i s = .next (settle (requestTakenFrom o
      (takeRequest { kind := kindOctet r, tag := tag, origin := o } r (reserve s))))) ∧
  ∀ (s : State) (i : Instr) (tag o : Byte) (r : Request), i.request? = some (tag, o, r) → Ready s →
    (4 ≤ o.toNat → o ≠ 0x0F → exec i s = .next (settle (replied tag o [kindOctet r, 0x01] s))) ∧
    (r.wellFormed = true → fitsTable s.mgmt.cursor.table r = true →
      (∀ t : Term, o = originOctet (.terminal t) → classOfRequest r = .mgmt →
        exec i s = .next (settle (restartInactivity t (replied tag o [kindOctet r, 0x0C] s)))) ∧
      (o = originOctet .office → classOfRequest r = .request → kindOctet r ≠ 0x0B → kindOctet r ≠ 0x0C →
        exec i s = .next (settle (replied tag o [kindOctet r, 0x0C] s))))

/-- The octets of every well-formed request read back as that request in the class it is sent in, a WRITE against the
cursor's table its fields are for: no field and no bit of a field is dropped. And a body that a frame can carry is read
as a request only when it is that request's octets, of its class (R213, R214, R218). The model's choices: assumption log
3. -/
def Obligations.RequestBodyReadsBack : Prop :=
  (∀ (table : TableId) (r : Request), r.wellFormed = true → fitsTable table r = true →
    readBody table (classOfRequest r) (bodyOctets r) = .request r) ∧
  ∀ (table : TableId) (c : FrameClass) (body : List Byte) (r : Request), body.length ≤ 121 →
    readBody table c body = .request r →
    bodyOctets r = body ∧ classOfRequest r = c ∧ r.wellFormed = true ∧ fitsTable table r = true

/-! ### Invariants -/

/-- The bounds of the request FIFO, of the reply queue's places, of the twelve notice queues, with each pending flag set
exactly while its queue holds a detail, and of the operation queue are kept by every step (R131, R175 to R177, R183 to
R185, R197). -/
def Obligations.QueueBoundsAreKept : Prop :=
  ∀ s t : State, LinkBounded s → NoticesBounded s → OperationsBounded s → step s = .next t →
    LinkBounded t ∧ NoticesBounded t ∧ OperationsBounded t

/-- At most four pulses are committed, no two on one column or of one compartment, and the pulse budget is at most four:
kept by every step (R139 to R141, R201, R202). -/
def Obligations.PulseBoundsAreKept : Prop :=
  ∀ s t : State, PulsesBounded s → step s = .next t → PulsesBounded t

/-- Entries that agree with their check bytes do so after every step: no command of the part damages an entry (R1,
R22, R41, R190). The model's choices: assumption log 23. -/
def Obligations.TablesStayGood : Prop :=
  ∀ s t : State, TablesGood s → step s = .next t → TablesGood t

/-- The plans' block lengths and the peak windows' multipliers stay in their ranges, in the tables and in the snapshot of
a computation in progress: kept by every step (R65 to R67, R69). -/
def Obligations.ChargeTablesStayInRange : Prop :=
  ∀ s t : State, ChargeTablesInRange s → step s = .next t → ChargeTablesInRange t

/-- Where entries agree with their check bytes, every step keeps the free lists and the links: a compartment is in the
list of its class, once, exactly when it is VACANT, sensed closed and without a pending bar; a compartment names a record
exactly when that record names it; the free-slot list holds each FREE slot once (R5, R7, R43, R44). -/
def Obligations.FreeListsAndLinksStayInAgreement : Prop :=
  ∀ s t : State, TablesGood s → TablesAgree s → step s = .next t → TablesAgree t

/-- The state right after reset is within every bound, its tables agree with their check bytes and with each other, and
its charge tables are in range. The model's choices: assumption log 26, 27. -/
def Obligations.ResetIsSafe : Prop :=
  LinkBounded State.reset ∧ NoticesBounded State.reset ∧ OperationsBounded State.reset ∧ PulsesBounded State.reset ∧
    TablesGood State.reset ∧ TablesAgree State.reset ∧ ChargeTablesInRange State.reset
/-! ### Credentials and terminals (chapter 2) -/

/-- SIGN_ON from an IDLE terminal under no lockout, with a code a COURIER entry of a good bucket holds: the terminal
becomes COURIER with the entry's number, route and permissions, its failed count and lockout level are 0, its
inactivity timer is at the full limit, and the reply carries number and route. SIGN_OFF from a COURIER terminal with
no open job and no sweep of its own: the terminal is IDLE, sign-off pending clear. SIGN_ON with a code no way of a good
bucket holds: a wrong code is counted; below the fifth failure NO_MATCH with the failures left; at the fifth a lockout of
60 s, doubled for each level up to 960 s, with the level raised up to 5 and the failed count 0 (R30, R33, R34, R36 to R38,
R40). The model's choices: assumption log 3, 12. -/
def Obligations.SignOnSignOffAndWrongCodes : Prop :=
  (∀ (s : State) (tag : Byte) (t : Term) (code : CodeValue) (w : Way) (i : CourierInfo),
    Ready s → s.creds.terms[t].mode = .idle → s.creds.terms[t].lockRemaining = 0 → codeInRange code = true →
    BucketGood code s → HoldsCode code w (.courier i) s →
    (∀ u, u ≠ t → ∀ j, s.creds.terms[u].mode = .courier j → j.number ≠ i.number) →
    exec (.signOn tag (originOctet (.terminal t)) code) s =
      .next (settle (replied tag (originOctet (.terminal t)) ([0x01, 0x00] ++ num1 i.number.val ++ num1 i.route.val)
        (modTerm t (fun c =>
          { c with mode := .courier i, signOffPending := false, lastQuoteLapsed := false, failed := 0, lockLevel := 0
                   inactivity := s.mgmt.config.inactivity }) s)))) ∧
  (∀ (s : State) (tag : Byte) (t : Term) (i : CourierInfo),
    Ready s → s.creds.terms[t].mode = .courier i → s.creds.terms[t].openJob = none →
    (∀ w, s.returns.sweep = some w → w.terminal ≠ t) →
    exec (.signOff tag (originOctet (.terminal t))) s =
      .next (settle (replied tag (originOctet (.terminal t)) [0x02, 0x00]
        (modTerm t (fun c => { c with mode := .idle, signOffPending := false }) s)))) ∧
  ∀ (s : State) (tag : Byte) (t : Term) (code : CodeValue),
    Ready s → s.creds.terms[t].mode = .idle → s.creds.terms[t].lockRemaining = 0 → codeInRange code = true →
    BucketGood code s → (∀ v ∈ bucketWays code, wayHolds code s v = false) →
    (s.creds.terms[t].failed < 4 →
      exec (.signOn tag (originOctet (.terminal t)) code) s =
        .next (settle (replied tag (originOctet (.terminal t)) ([0x01, 0x04] ++ num1 (4 - s.creds.terms[t].failed))
          (modTerm t (fun c => { c with failed := c.failed + 1 }) (count .wrongCodes s))))) ∧
    (4 ≤ s.creds.terms[t].failed →
      exec (.signOn tag (originOctet (.terminal t)) code) s =
        .next (settle (replied tag (originOctet (.terminal t))
          ([0x01, 0x05] ++ num2 (60 * 2 ^ min s.creds.terms[t].lockLevel 4))
          (modTerm t (fun c =>
            { c with failed := 0, lockLevel := min 5 (c.lockLevel + 1), lockRemaining := 60 * 2 ^ min c.lockLevel 4 })
            (count .lockouts (count .wrongCodes s))))))

/-- ENROL COURIER: the lowest courier number not held goes with the code into the lowest free way of the code's
bucket; REVOKE COURIER, with no terminal signed on under the number, frees the way of the entry that carries it, the
lowest such way (R25, R28, R29). The model's choices: assumption log 3, 12, 36. -/
def Obligations.EnrolAndRevokeCourier : Prop :=
  (∀ (s : State) (tag : Byte) (code : CodeValue) (route : Route) (d m : Bool) (w : Way) (i : CourierNo),
    Ready s → codeInRange code = true → PlaceOpen code w s →
    courierHeld s i = false → (∀ j, j < i → courierHeld s j = true) →
    exec (.enrolCourier tag (originOctet .office) code (BitVec.ofNat 8 route.val) (if d then 0x01#8 else 0x00#8)
        (if m then 0x01#8 else 0x00#8)) s =
      .next (settle (replied tag (originOctet .office) ([0x23, 0x00] ++ num1 i.val)
        (setWay w { kind := .courier { number := i, route := route, deposit := d, sweep := m }, code := code, check := 0 }
          s)))) ∧
  (∀ (s : State) (tag : Byte) (w : Way) (i : CourierInfo),
    Ready s → s.creds.ways[w].map Credential.kind = some (.courier i) →
    (∀ v, v < w → ∀ j, s.creds.ways[v].map Credential.kind = some (.courier j) → j.number ≠ i.number) →
    (∀ (t : Term) (j : CourierInfo), s.creds.terms[t].mode = .courier j → j.number ≠ i.number) →
    exec (.revokeCourier tag (originOctet .office) (BitVec.ofNat 8 i.number.val)) s =
      .next (settle (replied tag (originOctet .office) [0x24, 0x00] (freeWay w s))))

/-! ### Parcel store (chapter 3) -/

/-- ADVISE with every field in range, every record good, a new reference, a free slot at the head of the free list and
a place open for its code: the record is written ADVISED in that slot, the code into its bucket, and the reply carries
the slot (R44, R46). The model's choices: assumption log 3, 12, 21. -/
def Obligations.AdviseWritesRecordAndCode : Prop :=
  ∀ (s : State) (tag : Byte) (f : AdviceFields) (a : Advice) (k : Slot) (rest : List Slot) (w : Way),
    Ready s → advice? f = some a → (∀ j, parcelGood j s = true) →
    (∀ j p, parcelAt j s = some p → p.ref ≠ a.ref) → s.parcels.free = k :: rest → PlaceOpen a.code w s →
    exec (.advise tag (originOctet .office) f) s =
      .next (settle (replied tag (originOctet .office) ([0x20, 0x00] ++ num2 k.val)
        (setParcel k
          { ref := a.ref, kind := a.kind, state := .advised, cls := a.cls, upsize := a.upsize, plan := a.plan
            prepaid := a.prepaid, route := a.route, comp := none, arrival := none, quote := none, tendered := 0
            change := 0, suspect := false, check := 0 }
          (setWay w
            { kind := match a.kind with
                | .delivery => .pickup k
                | .ret => .returnAuth k
              code := a.code, check := 0 }
            { s with parcels := { s.parcels with free := rest } }))))

/-- WITHDRAW of an ADVISED record, CLEAR STRANDED of a STRANDED one, CLEAR QUARANTINE of a QUARANTINED one, and RETIRE
of a RETURN_QUEUED one retire the record; a LOADED compartment that RETIRE frees while it is not read EMPTY takes a
pending bar first. The reply fills the place reserved for it. The entry of the record's compartment passes its check
(R47, R108, R175, R205). The model's choices: assumption log 3, 12, 21, 22, 36. -/
def Obligations.WithdrawRetireAndClearRetireTheRecord : Prop :=
  ∀ (s : State) (tag : Byte) (k : Slot) (p : Parcel), Ready s → parcelAt k s = some p →
    (∀ n, p.comp = some n → compGood n s = true) →
    (RecordRead p.ref k p s → p.state = .advised →
      exec (.withdraw tag (originOctet .office) p.ref) s =
        .next (settle (filled tag (originOctet .office) [0x21, 0x00] (retireRecord k (reserve s))))) ∧
    (parcelGood k s = true → p.state = .stranded →
      exec (.clearStranded tag (originOctet .office) (BitVec.ofNat 16 k.val)) s =
        .next (settle (filled tag (originOctet .office)
          ([0x39, 0x00] ++ oct4 p.ref ++ Wire.optional (fun n : CompNo => num1 n.val) p.comp)
          (retireRecord k (reserve s))))) ∧
    (p.state = .quarantined →
      exec (.clearQuarantine tag (originOctet .office) (BitVec.ofNat 16 k.val)) s =
        .next (settle (filled tag (originOctet .office)
          ([0x3A, 0x00] ++ oct4 p.ref ++ Wire.optional (fun n : CompNo => num1 n.val) p.comp)
          (retireRecord k (reserve s))))) ∧
    (RecordRead p.ref k p s → p.state = .returnQueued → ∀ n, p.comp = some n →
      exec (.retire tag (originOctet .office) p.ref) s =
        .next (settle (filled tag (originOctet .office) [0x26, 0x00]
          (retireRecord k
            (if s.comps[n].state = .loaded ∧ s.comps[n].occ ≠ .empty then
              modComp n (fun c => { c with pendingBar := true }) (reserve s)
            else reserve s)))))

/-- Retiring a record, in this order: its code leaves its way; it leaves the return queue, a sweep cursor behind it
falling by one; its compartment is freed; its slot is FREE at the tail of the free-slot list; the open jobs that name
it end. A free of a compartment under a job or LOADED removes the link on both sides, withdraws a waiting request, and
leaves it VACANT, and listed when sensed closed, or BARRED(MANAGEMENT) on a pending bar; a BARRED one loses link and
request and stays BARRED; any other stays as it is. A terminal whose open job ends becomes IDLE, or, a COURIER, is
signed off when that is pending and else has its inactivity timer restarted (R13, R32, R44, R45, R107). The model's
choices: assumption log 28, 36. -/
def Obligations.RetirementFreesSlotCompartmentAndCode : Prop :=
  (∀ (s : State) (k : Slot) (p : Parcel), parcelAt k s = some p →
    let retired := fun (x : State) =>
      let left := leaveReturnQueue k x
      let freed := match p.comp with
        | some n => free n left
        | none => left
      endJobsOn k { freed with parcels :=
        { slots := freed.parcels.slots.set k.val none k.isLt, free := freed.parcels.free ++ [k] } }
    (∀ w kind, NamesSlot k w kind s → retireRecord k s = retired (freeWay w s)) ∧
    ((∀ (w : Way) (c : Credential), s.creds.ways[w] = some c → kindSlot c.kind ≠ some k) → retireRecord k s = retired s)) ∧
  (∀ (s : State) (k : Slot),
    (k ∉ s.returns.queue → leaveReturnQueue k s = s) ∧
    (k ∈ s.returns.queue → leaveReturnQueue k s = { s with returns :=
      { s.returns with
        queue := s.returns.queue.filter (fun j => j != k)
        sweep := s.returns.sweep.map (fun w =>
          if s.returns.queue.idxOf k < w.cursor then { w with cursor := w.cursor - 1 } else w) } })) ∧
  (∀ (s : State) (n : CompNo) (k : Slot) (p : Parcel), s.comps[n].link = some k → parcelAt k s = some p →
    p.comp = some n →
    let unlinked := fun (f : Compartment → Compartment) =>
      withdraw n (modComp n f (setParcel k { p with comp := none } s))
    (s.comps[n].state = .loaded ∨ isJob s.comps[n].state = true →
      free n s = joinFree n (stopJobTimers n (unlinked (fun c =>
        { c with
          link := none, phase := .none, attempts := 0, suspect := false, pendingBar := false
          state := if c.pendingBar then .barred else .vacant
          cause := if c.pendingBar then some .management else c.cause })))) ∧
    (s.comps[n].state = .barred → free n s = unlinked (fun c => { c with link := none })) ∧
    (s.comps[n].state = .unfitted ∨ s.comps[n].state = .vacant ∨ s.comps[n].state = .maint → free n s = s)) ∧
  ∀ (s : State) (t : Term) (k : Slot), (∀ u : Term, u ≠ t → s.creds.terms[u].openJob ≠ some k) →
    (s.creds.terms[t].openJob ≠ some k → endJobsOn k s = s) ∧
    (s.creds.terms[t].openJob = some k →
      let ended := fun (c : TermContext) => { c with openJob := none }
      (courierAt t s = none → endJobsOn k s = modTerm t (fun c => { ended c with mode := .idle }) s) ∧
      (∀ i, s.creds.terms[t].mode = .courier i →
        (s.creds.terms[t].signOffPending = false →
          endJobsOn k s = modTerm t (fun c => { ended c with inactivity := s.mgmt.config.inactivity }) s) ∧
        (s.creds.terms[t].signOffPending = true → (∀ w, s.returns.sweep = some w → w.terminal ≠ t) →
          endJobsOn k s = modTerm t (fun c => { ended c with mode := .idle, signOffPending := false }) s)))

/-- REISSUE: in the new code's good bucket, the lowest way that is free or is the old entry's takes the new code with
the old entry's kind; the old entry's way is freed (R26, R48). The model's choices: assumption log 3, 12, 36. -/
def Obligations.ReissueReplacesTheCode : Prop :=
  ∀ (s : State) (tag : Byte) (k : Slot) (p : Parcel) (code : CodeValue) (v w : Way) (kind : CredKind),
    Ready s → RecordRead p.ref k p s → p.state ≠ .quarantined → codeInRange code = true → BucketGood code s →
    (∀ u ∈ bucketWays code, wayHolds code s u = false) →
    NamesSlot k v kind s → w ∈ bucketWays code → (s.creds.ways[w] = none ∨ w = v) →
    (∀ u ∈ bucketWays code, u < w → s.creds.ways[u].isSome = true ∧ u ≠ v) →
    exec (.reissue tag (originOctet .office) p.ref code) s =
      .next (settle (replied tag (originOctet .office) [0x22, 0x00]
        (setWay w { kind := kind, code := code, check := 0 } (freeWay v s))))

/-- STATUS changes nothing but the reply queue, and restarts the inactivity timer of a COURIER terminal it came from:
of a compartment whose entry passes its check it answers the compartment report; of a record, to OFFICE, the record
report, and to the terminal whose open job it is, the terminal's report (R21, R35, R49). The model's choices:
assumption log 3, 12, 20, 21, 22, 36, 42, 57. -/
def Obligations.StatusReportsAndChangesNothing : Prop :=
  (∀ (s : State) (tag : Byte) (o : Origin) (n : CompNo), Ready s → compGood n s = true →
    exec (.statusCompartment tag (originOctet o) (compByte n)) s =
      .next (settle (requestTakenFrom o
        (replied tag (originOctet o) (0x0B :: 0x00 :: compartmentReport n (o == .office) s) s)))) ∧
  (∀ (s : State) (tag : Byte) (k : Slot) (p : Parcel), Ready s → RecordRead p.ref k p s →
    exec (.statusParcel tag (originOctet .office) p.ref) s =
      .next (settle (replied tag (originOctet .office) (0x0B :: 0x00 :: recordReport k p s) s)) ∧
    ∀ t : Term, s.creds.terms[t].openJob = some k → p.state ≠ .quarantined →
      exec (.statusParcel tag (originOctet (.terminal t)) p.ref) s =
        .next (settle (restartInactivity t
          (replied tag (originOctet (.terminal t)) (0x0B :: 0x00 :: terminalReport p s) s))))

/-! ### Deposits (chapter 3) -/

/-- An allocation takes the first compartment with a PRESENT column in the list of the class asked for, else, when
upsizing is allowed, in the list of each larger class in turn; it finds none exactly when no list of those classes holds
one. DEPOSIT by a COURIER with the deposit permission and no open job, and RETURN_DROP by a terminal that is no COURIER
with a code a RETURN_AUTH entry holds: with the clock set, no hold, an ADVISED record read good and a compartment
found whose entry passes its check, the deposit is taken and answered with the compartment and its class (R7, R8, R51,
R52). The model's choices: assumption log 3, 12, 21, 36. -/
def Obligations.DepositAndReturnDropTakeTheCompartmentFound : Prop :=
  (∀ (cls : SizeClass) (upsize : Bool) (s : State),
    (∀ n, findCompartment cls upsize s = some n ↔ AllocationTakes cls upsize n s) ∧
    (findCompartment cls upsize s = none ↔
      ∀ c ∈ classesFrom cls upsize, ∀ n ∈ listOf c s.freeLists, onPresentColumn n s = false)) ∧
  ∀ (s : State) (tag : Byte) (t : Term) (k : Slot) (p : Parcel) (n : CompNo),
    Ready s → s.creds.terms[t].openJob = none → s.time.clockSet = true → s.arbiter.holdActive = false →
    parcelAt k s = some p → parcelGood k s = true → p.state = .advised → AllocationTakes p.cls p.upsize n s →
    compGood n s = true →
    (∀ i, s.creds.terms[t].mode = .courier i → s.creds.terms[t].signOffPending = false → i.deposit = true →
      recordOf p.ref s = some k → p.kind = .delivery →
      exec (.deposit tag (originOctet (.terminal t)) p.ref) s =
        .next (settle (restartInactivity t (filled tag (originOctet (.terminal t))
          ([0x03, 0x00] ++ num1 n.val ++ [classCode s.comps[n].cls]) (depositTaken t k n (reserve s)))))) ∧
    (∀ (code : CodeValue) (w : Way), courierAt t s = none → s.creds.terms[t].lockRemaining = 0 →
      codeInRange code = true → BucketGood code s → HoldsCode code w (.returnAuth k) s →
      exec (.returnDrop tag (originOctet (.terminal t)) code) s =
        .next (settle (filled tag (originOctet (.terminal t))
          ([0x04, 0x00] ++ num1 n.val ++ [classCode s.comps[n].cls])
          (depositTaken t k n (modTerm t (fun c => { c with failed := 0, lockLevel := 0 }) (reserve s))))))

/-- ABANDON while the grant of a HELD compartment still waits, the record in it and its entry passing their checks: the
request leaves the arbiter, the compartment is freed, the record is ADVISED again without compartment and arrival,
DEPOSIT(ABANDONED) is raised, the deposit is over, and the reply fills the place reserved for it (R54, R56, R175). The
model's choices: assumption log 3, 12, 21, 28. -/
def Obligations.AbandonGivesTheCompartmentBack : Prop :=
  ∀ (s : State) (tag : Byte) (t : Term) (m : DepositMarker) (p : Parcel),
    Ready s → s.deposit.markers[t] = some m → parcelAt m.slot s = some p → parcelGood m.slot s = true →
    p.state = .depositing → compGood m.comp s = true → s.comps[m.comp].state = .held →
    s.comps[m.comp].link = some m.slot → s.comps[m.comp].phase = .awaitGrant → isWaiting m.comp s = true →
    exec (.abandon tag (originOctet (.terminal t))) s =
      .next (settle (restartInactivity t (filled tag (originOctet (.terminal t)) [0x05, 0x00]
        (depositOver m.slot
          (raise (.deposit p.ref (compByte m.comp) .abandoned none)
            (modParcel m.slot (fun p => { p with state := .advised, comp := none, arrival := none })
              (free m.comp (withdraw m.comp (reserve s)))))))))

/-- TIME SET from OFFICE with seconds up to 59: the clock takes the carried values, the clock-set flag is set, and the
reply carries them; nothing else changes. With a seconds value above 59 it is refused BAD_FIELD, and from a terminal
NOT_PERMITTED, with the clock as it was (R63). The model's choices: assumption log 3, 12, 20. -/
def Obligations.TimeSetSetsTheClock : Prop :=
  ∀ (s : State) (tag : Byte) (minute : Minute) (seconds : Byte), Ready s →
    (∀ h : seconds.toNat < 60,
      exec (.timeSet tag (originOctet .office) minute seconds) s =
        .next (settle (replied tag (originOctet .office) ([0x25, 0x00] ++ oct4 minute ++ [seconds])
          { s with time := { minute := minute, seconds := ⟨seconds.toNat, h⟩, clockSet := true } }))) ∧
    (60 ≤ seconds.toNat →
      exec (.timeSet tag (originOctet .office) minute seconds) s =
        .next (settle (replied tag (originOctet .office) [0x25, 0x01] s))) ∧
    (∀ t, exec (.timeSet tag (originOctet (.terminal t)) minute seconds) s =
        .next (settle (restartInactivity t (replied tag (originOctet (.terminal t)) [0x25, 0x0C] s))))

/-! ### Storage charges (chapter 4) -/

/-- The multiplier of a minute of day is the largest among the windows that cover it, and 100 when none does (R68); for
windows in their range, as the tables and snapshots keep them (`ChargeTablesStayInRange`). And under a plan without peak
pricing and day cap, the fee is the plan's rate for each chargeable block, blocks of any of the thirteen lengths grouped
into periods of 24 hours, up to the largest amount; the clamp marker is set exactly when the sum passes it. -/
def Obligations.PeakMultiplierAndFlatFee : Prop :=
  (∀ (peaks : Vector PeakWindow 4) (m : Nat), (∀ i : Fin 4, 100 ≤ peaks[i].multiplier) →
    (∀ i : Fin 4, peakCovers peaks[i] m = true → peaks[i].multiplier ≤ multiplierAt peaks m) ∧
    ((∃ i : Fin 4, peakCovers peaks[i] m = true ∧ multiplierAt peaks m = peaks[i].multiplier) ∨
      ((∀ i : Fin 4, peakCovers peaks[i] m = false) ∧ multiplierAt peaks m = 100))) ∧
  ∀ (sn : Snapshot) (arrival : Minute), sn.arrival = some arrival → sn.plan.block ∈ blockLengths →
    sn.plan.peak = false → sn.plan.caps[classAt sn.cls] = none →
    ∃ blocks : Nat,
      (sn.quoteMinute.toNat - arrival.toNat - sn.plan.free ≤ blocks * sn.plan.block) ∧
      (0 < blocks → (blocks - 1) * sn.plan.block < sn.quoteMinute.toNat - arrival.toNat - sn.plan.free) ∧
      feeOf sn = min (blocks * sn.plan.rates[classAt sn.cls]) 999999 ∧
      (clampOf sn = true ↔ 999999 < blocks * sn.plan.rates[classAt sn.cls])

/-- A computation starts when none is in progress: the head of the queue's record, read good and QUOTING, is copied with
its plan, the peak windows and the quote minute into the snapshot; nothing starts beside one in progress or on an empty
queue. A record whose dwell has reached its expiry by then starts none: it is RETURN_QUEUED and joins the return queue,
its COLLECT is refused EXPIRED, its job ends, and the next entry starts. A computation of no blocks completes at once, and
COMPUTATION_COMPLETE ends the one in progress: the entry leaves the queue and the quote is written and answered. With an
amount owed, the record is DUE with its window at the plan's length, and PAY carries fee, owed, clamp marker and window
end; with nothing owed, it is RELEASING, released for collection with a grant asked, and RELEASE carries the compartment
(R69, R70, R73 to R75, R85, R86, R89). The record's compartment passes its check and is not BARRED. The model's choices:
assumption log 7, 12, 13, 21, 28. -/
def Obligations.ComputationStartsAndItsQuoteIsAnswered : Prop :=
  (∀ s : State, s.charge.running ≠ none ∨ s.charge.queue = [] → chargeStarts s = s) ∧
  ∀ (s : State) (e : QueuedCharge) (rest : List QueuedCharge) (p : Parcel) (n : CompNo),
    s.charge.queue = e :: rest → parcelAt e.slot s = some p → parcelGood e.slot s = true → p.state = .quoting →
    p.comp = some n → compGood n s = true → s.comps[n].state = .loaded → s.comps[n].link = some e.slot →
    let answered := fun (sn : Snapshot) =>
      let ends := clockAfter s.time sn.plan.window
      let quote : Quote :=
        { fee := feeOf sn, owed := owedOf sn, clamped := clampOf sn, minute := sn.quoteMinute, endMinute := ends.1
          endSecond := ends.2, terminal := e.terminal }
      let money := num3 (feeOf sn) ++ num3 (owedOf sn) ++ flag (clampOf sn)
      if owedOf sn ≠ 0 then
        filled e.tag (originOctet (.terminal e.terminal))
          ([0x06, 0x00, 0x00] ++ money ++ oct4 ends.1 ++ num1 ends.2.val)
          (setContext e.terminal (.due e.slot sn.plan.window none)
            (modParcel e.slot (fun p => { p with quote := some quote, tendered := 0, change := 0, state := .due })
              (setCharge rest none s)))
      else
        filled e.tag (originOctet (.terminal e.terminal)) ([0x06, 0x00, 0x01] ++ money ++ [compByte n])
          (requestGrant n .collect
            (modComp n (fun c => { c with state := .releasing, phase := .awaitGrant, attempts := 0 })
              (setContext e.terminal (.releasing e.slot none)
                (modParcel e.slot (fun p => { p with quote := some quote, tendered := 0, change := 0, state := .releasing })
                  (setCharge rest none s)))))
    (∀ sn, running s = true → s.charge.running = some sn →
      exec .computationComplete s = .next (conclude (answered sn))) ∧
    (∀ arrival, s.charge.running = none → p.arrival = some arrival → 0 < s.charge.plans[p.plan].block →
      let plan := s.charge.plans[p.plan]
      let dwell := s.time.minute.toNat - arrival.toNat
      let sn : Snapshot :=
        { plan := plan, peaks := s.charge.peaks, cls := p.cls, arrival := some arrival, slot := e.slot
          prepaid := p.prepaid, quoteMinute := s.time.minute }
      (plan.expiry ≤ dwell → chargeStarts s = chargeStarts
        (filled e.tag (originOctet (.terminal e.terminal)) [0x06, 0x11]
          (endOpenJob e.terminal e.slot false (setContext e.terminal .none
            (joinReturnQueue e.slot false (setParcel e.slot { p with state := .returnQueued }
              (setCharge rest none s))))))) ∧
      (dwell < plan.expiry → dwell ≤ plan.free → chargeStarts s = chargeStarts (answered sn)) ∧
      (dwell < plan.expiry → plan.free < dwell → chargeStarts s = setCharge (e :: rest) (some sn) s))

/-! ### Collection and payment (chapter 5) -/

/-- COLLECT of a STORED record below its expiry, on a PRESENT column, not BARRED: the record is QUOTING, the
terminal's open job and context are set, and its entry joins the tail of the computation queue; no reply is made, and
the place stays reserved. Of an UNTAKEN record: RELEASING again with no payment, out of the re-open list, answered
RELEASE (R81, R83, R84, R179). The model's choices: assumption log 3, 12, 21. -/
def Obligations.CollectStartsAQuoteOrReleases : Prop :=
  ∀ (s : State) (tag : Byte) (t : Term) (k : Slot) (p : Parcel) (n : CompNo) (code : CodeValue) (w : Way),
    Ready s → courierAt t s = none → s.creds.terms[t].openJob = none → s.collection.contexts[t] = .none →
    s.creds.terms[t].lockRemaining = 0 → s.time.clockSet = true → codeInRange code = true → BucketGood code s →
    HoldsCode code w (.pickup k) s → parcelAt k s = some p → parcelGood k s = true → p.comp = some n →
    compGood n s = true → onPresentColumn n s = true → s.comps[n].state = .loaded → s.comps[n].link = some k →
    let accepted := modTerm t (fun c =>
      { c with failed := 0, lockLevel := 0, openJob := some k, lastQuoteLapsed := false, mode := .customer }) (reserve s)
    (p.state = .stored → isExpired k p s.time.minute s = false →
      exec (.collect tag (originOctet (.terminal t)) code) s =
        .next (settle
          (setCharge (s.charge.queue ++ [{ terminal := t, slot := k, tag := tag }]) s.charge.running
            (setContext t (.quoting k) (modParcel k (fun p => { p with state := .quoting }) accepted))))) ∧
    (p.state = .untaken →
      exec (.collect tag (originOctet (.terminal t)) code) s =
        .next (settle (filled tag (originOctet (.terminal t))
          ([0x06, 0x00, 0x01] ++ quoteMoney p.quote ++ [compByte n])
          (requestGrant n .collect
            (modComp n (fun c => { c with state := .releasing, phase := .awaitGrant, attempts := 0 })
              (setContext t (.releasing k none)
                (setReopen (s.collection.reopen.filter (fun e => e.slot != k))
                  (modParcel k (fun p => { p with state := .releasing }) accepted))))))))

/-- TENDER on a DUE quote, with an amount of 1 to 999,999, a new reference and a total up to 999,999: below the owed
amount the total rises and PART carries what remains; at or above it, the quote is settled: the change due written,
the record and compartment RELEASING with a grant asked, SETTLED carrying change and compartment. The reference of the
last tender taken is answered as the first time and changes nothing (R88 to R90). The model's choices: assumption log
3, 12, 21, 28. -/
def Obligations.TenderIsAddedSettlesOrIsRepeated : Prop :=
  (∀ (s : State) (tag : Byte) (t : Term) (k : Slot) (p : Parcel) (q : Quote) (n : CompNo) (window : Nat)
      (last : Option LastTender) (amount : BitVec 24) (tref : BitVec 32),
    Ready s → s.collection.contexts[t] = .due k window last → (∀ l, last = some l → l.tref ≠ tref) →
    1 ≤ amount.toNat → amount.toNat ≤ 999999 → parcelAt k s = some p → parcelGood k s = true → p.quote = some q →
    p.state = .due → p.comp = some n → compGood n s = true → s.comps[n].state = .loaded → s.comps[n].link = some k →
    p.tendered + amount.toNat ≤ 999999 →
    let total := p.tendered + amount.toNat
    (total < q.owed →
      exec (.tender tag (originOctet (.terminal t)) amount tref) s =
        .next (settle (restartInactivity t (replied tag (originOctet (.terminal t))
          ([0x07, 0x00, 0x02] ++ num3 (q.owed - total))
          (setContext t (.due k window (some { tref := tref, reply := .part (q.owed - total) }))
            (modParcel k (fun p => { p with tendered := total }) s)))))) ∧
    (q.owed ≤ total →
      exec (.tender tag (originOctet (.terminal t)) amount tref) s =
        .next (settle (restartInactivity t (filled tag (originOctet (.terminal t))
          ([0x07, 0x00, 0x03] ++ num3 (total - q.owed) ++ [compByte n])
          (requestGrant n .collect
            (modComp n (fun c => { c with state := .releasing, phase := .awaitGrant, attempts := 0 })
              (setContext t (.releasing k (some { tref := tref, reply := .settled (total - q.owed) n }))
                (modParcel k (fun p =>
                  { p with tendered := total, change := total - q.owed, state := .releasing }) (reserve s)))))))))) ∧
  (∀ (s : State) (tag : Byte) (t : Term) (k : Slot) (window : Nat) (amount : BitVec 24) (l : LastTender),
    Ready s → 1 ≤ amount.toNat → amount.toNat ≤ 999999 →
    (s.collection.contexts[t] = .due k window (some l) ∨ s.collection.contexts[t] = .releasing k (some l)) →
    exec (.tender tag (originOctet (.terminal t)) amount l.tref) s =
      .next (settle (restartInactivity t (replied tag (originOctet (.terminal t))
        ([0x07, 0x00] ++ match l.reply with
          | .part remaining => 0x02#8 :: num3 remaining
          | .settled change n => 0x03#8 :: num3 change ++ [compByte n]) s))))

/-- CANCEL of a DUE quote, and the lapse of one whose window has reached 0, return the record to STORED with the tendered
total credited, with its open job over and the context NONE; a lapse sets the last-quote-lapsed marker, a CANCEL is
answered with the credit. CANCEL of a QUOTING one also takes its entry off the computation queue, with the computation
when it is the head, and releases the place its COLLECT held. The end of a re-open window that has reached 0 takes the
record off the list and returns it to STORED with the settled payment, the tendered total less the change due, credited. A
record whose dwell has reached its expiry becomes RETURN_QUEUED instead and joins the return queue (R76, R87, R91 to R93,
R96, R106). The model's choices: assumption log 3, 5, 12, 21, 28. -/
def Obligations.CancelLapseAndReopenEndCredit : Prop :=
  ∀ (s : State) (k : Slot) (p : Parcel), parcelAt k s = some p → parcelGood k s = true →
    let back := fun (credit : Nat) (x : State) =>
      let q := { p with prepaid := p.prepaid + credit, tendered := 0, change := 0, quote := none }
      if isExpired k p s.time.minute s then joinReturnQueue k false (setParcel k { q with state := .returnQueued } x)
      else setParcel k { q with state := .stored } x
    (∀ (tag : Byte) (t : Term) (window : Nat) (last : Option LastTender), s.collection.contexts[t] = .due k window last →
      p.state = .due →
      (Ready s → exec (.cancel tag (originOctet (.terminal t))) s =
        .next (settle (restartInactivity t (filled tag (originOctet (.terminal t))
          ([0x08, 0x00] ++ num3 (p.prepaid + p.tendered))
          (setContext t .none (endOpenJob t k false (back p.tendered (reserve s)))))))) ∧
      (running s = true → window = 0 →
        exec (.quoteLapse t) s = .next (conclude (setContext t .none (endOpenJob t k true (back p.tendered s))))) ∧
      (running s = true → window ≠ 0 → exec (.quoteLapse t) s = .next (conclude s))) ∧
    (∀ (tag : Byte) (t : Term) (before rest : List QueuedCharge) (e : QueuedCharge), Ready s →
      s.collection.contexts[t] = .quoting k → p.state = .quoting → s.charge.queue = before ++ e :: rest → e.slot = k →
      (∀ x ∈ before, x.slot ≠ k) → (∀ x ∈ rest, x.slot ≠ k) →
      exec (.cancel tag (originOctet (.terminal t))) s =
        .next (settle (restartInactivity t (filled tag (originOctet (.terminal t))
          ([0x08, 0x00] ++ num3 (p.prepaid + p.tendered))
          (setContext t .none (endOpenJob t k false (back p.tendered (setCharge (before ++ rest)
            (if before = [] then none else s.charge.running) s)))))))) ∧
    (∀ e, running s = true → p.state = .untaken → e ∈ s.collection.reopen → e.slot = k → e.left = 0 →
      exec (.reopenWindowEnd k) s = .next (conclude (back (p.tendered - p.change)
        (setReopen (s.collection.reopen.filter (fun e => e.slot != k)) s)))) ∧
    (running s = true → (∀ e ∈ s.collection.reopen, e.slot = k → e.left ≠ 0) →
      exec (.reopenWindowEnd k) s = .next (conclude s))

/-! ### Expiry and returns (chapter 6) -/

/-- The walk, its start and its stop. An entry is eligible when its record is of the route, RETURN_QUEUED, in a LOADED
compartment on a PRESENT column. A WALKING sweep with no current record passes the ineligible entries from its cursor and
takes the first eligible one: the compartment and the record SWEEPING at its place, the cursor behind it, a grant asked in
class SWEEP; with none left it ends, SWEEP_END(TAIL) with its counts. A STOPPING sweep with no current record ends with its
cause; with a current record neither walks. A stop ends a WALKING sweep at once when it has no current record, or when the
current record's request still waits: that request is withdrawn, the compartment filled, the record RETURN_QUEUED, and
nothing counted; else the sweep is STOPPING with the cause. A STOPPING one keeps its cause. SWEEP_START by a COURIER with
the sweep permission, no sweep under way and no hold walks from the head and answers the eligible count and the
compartment taken; SWEEP_STOP from the sweep's terminal stops it with cause STOP. The entries met pass their checks (R110
to R112, R118 to R120); a stop that only makes the sweep STOPPING goes by the compartment the current record's entry reads,
checked or not. The model's choices: assumption log 3, 12, 21, 22, 56. -/
def Obligations.SweepWalksStartsAndStops : Prop :=
  let ended := fun (cause : SweepEnd) (w : Sweep) (x : State) =>
    setSweep none (raise (.sweepEnd w.courier w.route w.taken w.skipped w.failed cause) x)
  let takenAt := fun (w : Sweep) (j : Nat) (k : Slot) (n : CompNo) (x : State) =>
    requestGrant n .sweep (modParcel k (fun p => { p with state := .sweeping })
      (modComp n (fun c => { c with state := .sweeping, phase := .awaitGrant, attempts := 0 })
        (setSweep (some { w with cursor := j + 1, current := some k }) x)))
  let passed := fun (route : Route) (s : State) (i : Nat) =>
    ∀ k, s.returns.queue[i]? = some k → parcelGood k s = true ∧ sweepEligible route k s = false
  let met := fun (route : Route) (s : State) (first j : Nat) (k : Slot) (n : CompNo) =>
    first ≤ j ∧ s.returns.queue[j]? = some k ∧ (∀ i, first ≤ i → i < j → passed route s i) ∧
      sweepEligible route k s = true ∧ (parcelAt k s).bind Parcel.comp = some n ∧ parcelGood k s = true ∧
      compGood n s = true ∧ s.comps[n].link = some k
  (∀ (s : State) (route : Route) (k : Slot), sweepEligible route k s = true ↔
    ∃ p n, parcelAt k s = some p ∧ p.comp = some n ∧ p.route = route ∧ p.state = .returnQueued ∧
      s.comps[n].state = .loaded ∧ onPresentColumn n s = true) ∧
  (∀ s : State, s.returns.sweep = none → walkOn s = s ∧ ∀ cause, stopSweep cause s = s) ∧
  (∀ (s : State) (w : Sweep), s.returns.sweep = some w →
    (w.current ≠ none → walkOn s = s) ∧
    (∀ cause, w.current = none → w.phase = .stopping → w.cause = some cause → walkOn s = ended cause w s) ∧
    (w.current = none → w.phase = .walking →
      (∀ j k n, met w.route s w.cursor j k n → walkOn s = takenAt w j k n s) ∧
      ((∀ i, w.cursor ≤ i → passed w.route s i) → walkOn s = ended .tail w s)) ∧
    ∀ cause,
      let stopping := setSweep (some { w with phase := .stopping, cause := some cause }) s
      (w.phase = .stopping → stopSweep cause s = s) ∧
      (w.phase = .walking → w.current = none → stopSweep cause s = ended cause w s) ∧
      ∀ k p n, w.phase = .walking → w.current = some k → parcelAt k s = some p → p.comp = some n →
        (s.comps[n].phase = .awaitGrant → isWaiting n s = true → parcelGood k s = true → compGood n s = true →
          p.state = .sweeping → s.comps[n].state = .sweeping →
          stopSweep cause s = ended cause w (modParcel k (fun p => { p with state := .returnQueued })
            (stopJobTimers n (modComp n (fun c => { c with state := .loaded, phase := .none, attempts := 0 })
              (withdraw n s))))) ∧
        (s.comps[n].phase ≠ .awaitGrant ∨ (isWaiting n s = false ∧ isCommitted n s = true) →
          stopSweep cause s = stopping)) ∧
  ∀ (s : State) (tag : Byte) (t : Term) (i : CourierInfo), Ready s → s.creds.terms[t].mode = .courier i →
    (∀ j k n, s.creds.terms[t].signOffPending = false → i.sweep = true → s.returns.sweep = none →
      s.arbiter.holdActive = false → met i.route s 0 j k n →
      let number := (s.returns.queue.filter (fun k => sweepEligible i.route k s)).length
      exec (.sweepStart tag (originOctet (.terminal t))) s =
        .next (settle (restartInactivity t (filled tag (originOctet (.terminal t))
          ([0x09, 0x00] ++ num2 number ++ [compByte n])
          (takenAt
            { phase := .walking, terminal := t, courier := i.number, route := i.route, cursor := 0, current := none
              taken := 0, skipped := 0, failed := 0, cause := none } j k n (reserve s)))))) ∧
    (∀ w, s.returns.sweep = some w → w.terminal = t →
      exec (.sweepStop tag (originOctet (.terminal t))) s =
        .next (settle (restartInactivity t (filled tag (originOctet (.terminal t)) [0x0A, 0x00]
          (stopSweep .stop (reserve s))))))

/-- SCAN_VISIT of a scan under way: a STORED record at or beyond its expiry at the scan minute becomes RETURN_QUEUED,
joins the return queue's tail and raises RETURN(QUEUED); any other record that passes its check, and a FREE slot,
stays as it is. The cursor passes on, after slot 383 to a new scan when one is due, else the scanner is idle; an idle
scanner makes no visit (R102, R103). The model's choices: assumption log 5, 12, 24. -/
def Obligations.ScanVisitQueuesTheExpired : Prop :=
  ∀ (s : State) (k : Slot), running s = true → s.returns.scanner.cursor = k → parcelGood k s = true →
    let c := s.returns.scanner
    let passed := fun (x : State) => setScanner
      (if h : k.val + 1 < 384 then { c with cursor := ⟨k.val + 1, h⟩ }
        else if c.due then { c with due := false, cursor := 0, minute := s.time.minute }
        else { c with scanning := false, cursor := 0 }) x
    (∀ p, c.scanning = true → parcelAt k s = some p → p.state = .stored → isExpired k p c.minute s = true →
      exec .scanVisit s = .next (conclude (passed (raise (.ret p.ref .queued)
        { setParcel k { p with state := .returnQueued } s with
          returns := { s.returns with queue :=
            if k ∈ s.returns.queue then s.returns.queue else s.returns.queue ++ [k] } })))) ∧
    (c.scanning = true → (parcelAt k s = none ∨ ∃ p, parcelAt k s = some p ∧
        (p.state ≠ .stored ∨ isExpired k p c.minute s = false)) →
      exec .scanVisit s = .next (conclude (passed s))) ∧
    (c.scanning = false → exec .scanVisit s = .next (conclude s))

/-! ### Compartments (chapter 1) -/

/-- BAR and UNBAR of an entry read good. BAR: a VACANT compartment is BARRED(MANAGEMENT) and out of its free list; one
under a job, LOADED or in MAINT takes a pending bar; a BARRED one stays as it is; an UNFITTED one is refused
WRONG_STATE. UNBAR, row by row: WRONG_STATE while a map mismatch stands; VACANT, and at the tail of its list when its
door is closed, without a link; LOADED with a link to a record that waits for no staff, else WRONG_STATE; a pending
bar cleared; WRONG_STATE without one (R14, R16). The linked record is judged by the state it reads, checked or not. The
model's choices: assumption log 3, 12, 21, 57. -/
def Obligations.BarAndUnbarFollowTheirTables : Prop :=
  ∀ (s : State) (tag : Byte) (n : CompNo), Ready s → compGood n s = true →
    let barred := fun (code : Byte) (x : State) =>
      exec (.bar tag (originOctet .office) (compByte n)) s =
        .next (settle (replied tag (originOctet .office) [0x27, code] x))
    let unbarred := fun (code : Byte) (x : State) =>
      exec (.unbar tag (originOctet .office) (compByte n)) s =
        .next (settle (replied tag (originOctet .office) [0x28, code] x))
    let back := fun (st : CompState) =>
      modComp n (fun c => { c with state := st, cause := none, suspect := false, attempts := 0 }) s
    let mismatch := s.comps[n].cause = some .mapMismatch ∧ ∃ place, s.comps[n].place = some place ∧
      s.bus.columns[place.col].state = .present ∧ s.bus.columns[place.col].count.val ≤ place.pos.val
    (s.comps[n].state = .vacant →
      barred 0x00 (modComp n (fun c => { c with state := .barred, cause := some .management }) (leaveFree n s))) ∧
    (s.comps[n].state ≠ .vacant → s.comps[n].state ≠ .barred → s.comps[n].state ≠ .unfitted →
      barred 0x00 (modComp n (fun c => { c with pendingBar := true }) s)) ∧
    (s.comps[n].state = .barred → barred 0x00 s) ∧
    (s.comps[n].state = .unfitted → barred 0x0F s) ∧
    (s.comps[n].state = .barred → mismatch → unbarred 0x0F s) ∧
    (s.comps[n].state = .barred → ¬ mismatch → s.comps[n].link = none → unbarred 0x00 (joinFree n (back .vacant))) ∧
    (s.comps[n].state = .barred → ¬ mismatch → ∀ k p, s.comps[n].link = some k → parcelAt k s = some p →
      (p.state ≠ .stranded → p.state ≠ .quarantined → unbarred 0x00 (back .loaded)) ∧
      (p.state = .stranded ∨ p.state = .quarantined → unbarred 0x0F s)) ∧
    (s.comps[n].state ≠ .barred → s.comps[n].pendingBar = true →
      unbarred 0x00 (modComp n (fun c => { c with pendingBar := false }) s)) ∧
    (s.comps[n].state ≠ .barred → s.comps[n].pendingBar = false → unbarred 0x0F s)

/-- The maintenance loop. MAINT ENTER with the slot empty takes a VACANT compartment, or a BARRED one without link,
into MAINT, out of its list and into the slot; MAINT TEST PULSE in phase NONE, with no hold, a PRESENT column and a
closed door asks a grant in class MAINT; MAINT EXIT in phase NONE returns it to VACANT, to BARRED(MANAGEMENT) on a
pending bar, or to BARRED with its cause, and empties the slot. In phase AWAIT_GRANT it does so once the grant request is
withdrawn, and is refused IN_PROGRESS when the grant has been made; in AWAIT_OPEN and OPEN it is refused IN_PROGRESS (R17,
R18, R20, R146). The model's choices: assumption log 3, 12, 21. -/
def Obligations.MaintenanceLoopEntersPulsesAndExits : Prop :=
  ∀ (s : State) (tag : Byte) (n : CompNo), Ready s → compGood n s = true →
    let into := fun (from_ : MaintFrom) (x : State) => { x with maintSlot := some { comp := n, origin := from_ } }
    let maint := modComp n (fun c => { c with state := .maint, phase := .none }) (leaveFree n s)
    let left := fun (m : MaintSlot) (x : State) => joinFree n
      { stopJobTimers n (modComp n (fun c =>
          if m.origin = .barred then { c with state := .barred, phase := .none, pendingBar := false }
          else if c.pendingBar then
            { c with state := .barred, cause := some .management, phase := .none, pendingBar := false }
          else { c with state := .vacant, cause := none, phase := .none }) x) with maintSlot := none }
    let exits := fun (code : Byte) (x : State) =>
      exec (.maintExit tag (originOctet .office) (compByte n)) s =
        .next (settle (replied tag (originOctet .office) [0x2A, code] x))
    (s.maintSlot = none →
      (s.comps[n].state = .vacant →
        exec (.maintEnter tag (originOctet .office) (compByte n)) s =
          .next (settle (replied tag (originOctet .office) [0x29, 0x00] (into .vacant maint)))) ∧
      (s.comps[n].state = .barred → s.comps[n].link = none →
        exec (.maintEnter tag (originOctet .office) (compByte n)) s =
          .next (settle (replied tag (originOctet .office) [0x29, 0x00] (into .barred maint))))) ∧
    (∀ m, s.maintSlot = some m → m.comp = n → s.comps[n].phase = .none →
      (s.arbiter.holdActive = false → onPresentColumn n s = true → s.comps[n].door = .closed →
        exec (.maintTestPulse tag (originOctet .office) (compByte n)) s =
          .next (settle (filled tag (originOctet .office) [0x2B, 0x00]
            (requestGrant n .maint (modComp n (fun c => { c with phase := .awaitGrant, attempts := 0 }) (reserve s)))))) ∧
      exits 0x00 (left m s)) ∧
    ∀ m, s.maintSlot = some m → m.comp = n →
      (s.comps[n].phase = .awaitGrant →
        (isWaiting n s = true ∨ isCommitted n s = false → exits 0x00 (left m { s with arbiter :=
          { s.arbiter with waiting := s.arbiter.waiting.filter (fun r => r.comp != n) } })) ∧
        (isWaiting n s = false → isCommitted n s = true → exits 0x10 s)) ∧
      (s.comps[n].phase = .awaitOpen ∨ s.comps[n].phase = .opened → exits 0x10 s)

/-! ### Column bus, door supervisor and management requests (chapters 7, 8, 10 and 11) -/

/-- RELAY to a PRESENT column whose permission for the kind is yes, with a message of 1 to 32 octets and a free place,
joins the tail of the operation queue and is not answered yet. ENUMERATE while AWAKE with no enumeration under way
marks all twelve columns and is not answered yet. MAINT TRACE answers the column's last trace (R129, R137, R163,
R179). The model's choices: assumption log 3, 12, 22. -/
def Obligations.RelayEnumerateAndTraceRequests : Prop :=
  (∀ (s : State) (tag : Byte) (o : Origin) (c : Col) (kind : Byte) (k : RelayKind) (message : List Byte),
    Ready s → relayKind? kind = some k → 1 ≤ message.length → message.length ≤ 32 →
    permits s.mgmt.config.relay[c] k = true → s.bus.columns[c].state = .present → s.bus.queue.length < 16 →
    exec (.relay tag (originOctet o) (addressByte c) kind message) s =
      .next (settle (requestTakenFrom o { reserve s with
        bus := { s.bus with queue := s.bus.queue ++ [.relay c k message tag (originOctet o)] } }))) ∧
  (∀ (s : State) (tag : Byte), Ready s → s.bus.enumeration = none → s.dormancy.state = .awake →
    exec (.enumerate tag (originOctet .office)) s =
      .next (settle { reserve s with bus :=
        { s.bus with
          columns := s.bus.columns.map (fun e => { e with probeDue := true })
          enumeration := some { todo := List.finRange 12, reply := some (tag, originOctet .office) } } })) ∧
  (∀ (s : State) (tag : Byte) (c : Col) (l : LastTrace), Ready s → s.doors.lastTrace[c] = some l →
    exec (.maintTrace tag (originOctet .office) (addressByte c)) s =
      .next (settle (replied tag (originOctet .office) (0x2C :: 0x00 :: traceReport l) s)))

/-- SNAPSHOT from OFFICE copies each live counter to the same index of the snapshot set and clears the live set; from
a terminal it is refused NOT_PERMITTED and copies nothing. CLEAR INTEGRITY clears the global integrity flag alone; MASK
replaces the twelve masks and answers them; DRILL STEP advances the step, and at steps 1 to 7 raises that step's notice
with the drill marker and its counter. From step 7 it returns to 0 and removes from every queue the drill details, but the
one on the line and those with the more marker; the others keep their order, and a class left empty is not pending (R186,
R189, R195 to R197). The model's choices: assumption log 3, 12, 22. -/
def Obligations.SnapshotIntegrityMaskAndDrillRequests : Prop :=
  ∀ (s : State) (tag : Byte), Ready s →
    (exec (.snapshot tag (originOctet .office)) s =
      .next (settle (replied tag (originOctet .office) [0x2F, 0x00]
        { s with counters := { live := Vector.replicate 62 0, snap := s.counters.live } })) ∧
    ∀ t, exec (.snapshot tag (originOctet (.terminal t))) s =
      .next (settle (restartInactivity t (replied tag (originOctet (.terminal t)) [0x2F, 0x0C] s)))) ∧
    exec (.clearIntegrity tag (originOctet .office)) s =
      .next (settle (replied tag (originOctet .office) [0x2E, 0x00] { s with checker := { s.checker with flag := false } })) ∧
    (∀ m : Vector Bool 12,
      exec (.mask tag (originOctet .office) (m.map (fun b => if b then 0x01#8 else 0x00#8))) s =
        .next (settle (replied tag (originOctet .office) (0x30 :: 0x00 :: m.toList.map (fun b => if b then 0x01#8 else 0x00#8))
          { s with notices := { s.notices with
              classes := Vector.zipWith (fun q b => { q with masked := b }) s.notices.classes m } }))) ∧
    (∀ (step : Fin 8) (body : NoticeBody) (counters : List Counter),
      (step, body, counters) ∈
        ([(0, .doorAjar 0xFF 0, [.ajar]), (1, .lockFault 0xFF .coilFault 0, [.lockFaults]),
          (2, .tamper 0xFF .loadedOpened, [.tampers]), (3, .integrity .compartment 255, [.integrity]),
          (4, .column 0x00 .absent, [.absences]), (5, .hold true .office, [.holds]), (6, .drill 0x07, [])] :
          List (Fin 8 × NoticeBody × List Counter)) →
      s.notices.drillStep = step →
      exec (.drillStep tag (originOctet .office)) s =
        .next (settle (replied tag (originOctet .office) ([0x31, 0x00] ++ num1 (step.val + 1))
          (counters.foldl (fun x k => count k x) (raiseMarked body true false
            { s with notices := { s.notices with drillStep := step + 1 } }))))) ∧
    (s.notices.drillStep = 7 →
      let kept := fun (l : List Detail) => l.filter (fun d => !d.drill || d.more)
      let left := fun (i : Fin 12) =>
        let l := s.notices.classes[i].details
        if s.notices.onLine.map classIndex = some i then l.take 1 ++ kept (l.drop 1) else kept l
      exec (.drillStep tag (originOctet .office)) s =
        .next (settle (replied tag (originOctet .office) [0x31, 0x00, 0x00]
          { s with notices :=
            { s.notices with
              drillStep := 0
              classes := Vector.ofFn (fun i : Fin 12 =>
                { s.notices.classes[i] with details := left i, pending := !(left i).isEmpty }) } })))

/-- CURSOR takes table, step mode and index, the index brought to the last entry with the end marker when it is beyond
it; an empty return queue places it at position 0 with the end marker. READ at an index of any table answers table,
index, end marker and entry, a compartment, parcel or credential entry once it passes its check; the cursor advances in
step mode EACH alone, and stays on the last entry with the end marker. In the return queue, a cursor at or beyond the
length moves to the tail first, with the end marker, and with the queue empty the READ is refused NO_MATCH and the
cursor stays where it was (R107, R198, R199). The model's choices: assumption log 3, 12, 21, 22, 34, 37, 43. -/
def Obligations.CursorAndReadFollowTheTable : Prop :=
  (∀ (s : State) (tag : Byte) (tb mb : Byte) (table : TableId) (mode : StepMode) (index : BitVec 16), Ready s →
    tableId? tb = some table → stepMode? mb = some mode → (table = .returnQueue → s.returns.queue ≠ []) →
    exec (.cursor tag (originOctet .office) tb index mb) s =
      .next (settle (replied tag (originOctet .office)
        ([0x32, 0x00] ++ flag (decide (lastIndex table s < index.toNat)))
        { s with mgmt := { s.mgmt with
            cursor := { table := table, index := min index.toNat (lastIndex table s), mode := mode } } }))) ∧
  (∀ (s : State) (tag : Byte) (tb mb : Byte) (mode : StepMode) (index : BitVec 16), Ready s →
    tableId? tb = some .returnQueue → stepMode? mb = some mode → s.returns.queue = [] →
    exec (.cursor tag (originOctet .office) tb index mb) s =
      .next (settle (replied tag (originOctet .office) [0x32, 0x00, 0x01]
        { s with mgmt := { s.mgmt with cursor := { table := .returnQueue, index := 0, mode := mode } } }))) ∧
  (∀ (s : State) (tag : Byte), Ready s → s.mgmt.cursor.index ≤ lastIndex s.mgmt.cursor.table s →
    let c := s.mgmt.cursor
    let read := fun (entry : List Byte) =>
      exec (.read tag (originOctet .office)) s =
        .next (settle (replied tag (originOctet .office)
          (0x33 :: 0x00 :: tableOctet c.table :: num2 c.index
            ++ flag (decide (c.mode = .each ∧ c.index = lastIndex c.table s)) ++ entry)
          (if c.mode = .each ∧ c.index < lastIndex c.table s then
            { s with mgmt := { s.mgmt with cursor := { c with index := c.index + 1 } } }
          else s)))
    (∀ p : PlanNo, c.table = .tariff → c.index = p.val → read (planEntry s.charge.plans[p])) ∧
    (∀ w : Fin 4, c.table = .peak → c.index = w.val → read (num2 s.charge.peaks[w].first
      ++ num2 s.charge.peaks[w].last ++ num2 s.charge.peaks[w].multiplier)) ∧
    (∀ n : CompNo, c.table = .map → c.index = n.val → compGood n s = true → read (mapEntry n s)) ∧
    (∀ a : Col, c.table = .column → c.index = a.val → read (columnStateCode s.bus.columns[a].state
      :: num2 s.bus.columns[a].count.val ++ permissionOctets s.mgmt.config.relay[a]
      ++ [Counter.noAnswer a, .busy a, .stall a, .wake a].flatMap (fun k => oct2 s.counters.live[counterIndex k]))) ∧
    (∀ k : Slot, c.table = .parcel → c.index = k.val →
      (parcelAt k s = none → read [0x00]) ∧
      ∀ p, parcelAt k s = some p → parcelGood k s = true → read (0x01 :: recordReport k p s)) ∧
    (∀ w : Way, c.table = .credential → c.index = w.val →
      (s.creds.ways[w] = none → read [0x00]) ∧
      ∀ e : Credential, s.creds.ways[w] = some e → wayGood w s = true →
        let two := oct4 (BitVec.ofNat 32 (e.code.toNat % 100))
        (∀ k, e.kind = .pickup k → read (0x01 :: 0x00 :: two ++ num2 k.val)) ∧
        (∀ k, e.kind = .returnAuth k → read (0x01 :: 0x01 :: two ++ num2 k.val)) ∧
        (∀ i, e.kind = .courier i →
          read (0x01 :: 0x02 :: two ++ num1 i.number.val ++ num1 i.route.val ++ flag i.deposit ++ flag i.sweep))) ∧
    (∀ k p, c.table = .returnQueue → s.returns.queue[c.index]? = some k → parcelAt k s = some p →
      read (queueEntry k p s)) ∧
    (∀ i : Fin 62, c.table = .counters → c.index = i.val → read (oct2 s.counters.live[i])) ∧
    (∀ i : Fin 62, c.table = .snapshot → c.index = i.val → read (oct2 s.counters.snap[i]))) ∧
  ∀ (s : State) (tag : Byte), Ready s → s.mgmt.cursor.table = .returnQueue →
    (s.returns.queue = [] → exec (.read tag (originOctet .office)) s =
      .next (settle (replied tag (originOctet .office) [0x33, 0x04, 0xFF] s))) ∧
    ∀ front k p, s.returns.queue = front ++ [k] → front.length < s.mgmt.cursor.index → parcelAt k s = some p →
      exec (.read tag (originOctet .office)) s = .next (settle (replied tag (originOctet .office)
        (0x33 :: 0x00 :: tableOctet .returnQueue :: num2 front.length ++ [0x01] ++ queueEntry k p s)
        { s with mgmt := { s.mgmt with cursor := { s.mgmt.cursor with index := front.length } } }))

/-- WRITE of a tariff plan in range, of a peak window in range, and of relay permissions, and a WRITE whose octets are
those of relay permissions, at the cursor of their table: the entry takes the fields, the reply carries the end
marker, and the cursor advances in step modes EACH and WRITES. A WRITE of any octets at the PARCEL, CREDENTIAL, RETURN
QUEUE, COUNTERS or SNAPSHOT table is refused NOT_PERMITTED and leaves the cursor (R66, R67, R122, R198, R200). The model's
choices: assumption log 3, 12, 22. -/
def Obligations.WritesStoreTheirEntry : Prop :=
  ∀ (s : State) (tag : Byte), Ready s →
    let c := s.mgmt.cursor
    let advances := c.mode = .each ∨ c.mode = .writes
    let last := lastIndex c.table s
    let moved := fun (x : State) =>
      if advances ∧ c.index < last then { x with mgmt := { x.mgmt with cursor := { c with index := c.index + 1 } } } else x
    let wrote := fun (x : State) =>
      (Host.Outcome.next (settle (replied tag (originOctet .office)
        ([0x34, 0x00] ++ flag (decide (advances ∧ last ≤ c.index))) (moved x))) : Answer)
    (∀ (f : PlanFields) (plan : Plan) (p : PlanNo), c.table = .tariff → c.index = p.val → plan2? f = some plan →
      exec (.writeTariff tag (originOctet .office) f) s =
        wrote { s with charge := { s.charge with plans := s.charge.plans.set p.val plan p.isLt } }) ∧
    (∀ (first stop mult : BitVec 16) (w : Fin 4), c.table = .peak → c.index = w.val → first.toNat ≤ 1439 →
      stop.toNat ≤ 1439 → 100 ≤ mult.toNat → mult.toNat ≤ 300 →
      exec (.writePeak tag (originOctet .office) first stop mult) s =
        wrote { s with charge := { s.charge with
          peaks := s.charge.peaks.set w.val { first := first.toNat, last := stop.toNat, multiplier := mult.toNat }
            w.isLt } }) ∧
    (∀ (l x m : Bool) (col : Col), c.table = .column → c.index = col.val →
      let octet := fun (b : Bool) => if b then 0x01#8 else 0x00#8
      let stored := { s with mgmt := { s.mgmt with config :=
        { s.mgmt.config with relay := s.mgmt.config.relay.set col.val { lamp := l, text := x, chime := m } col.isLt } } }
      exec (.writeColumn tag (originOctet .office) (octet l) (octet x) (octet m)) s = wrote stored ∧
      exec (.write tag (originOctet .office) [octet l, octet x, octet m]) s = wrote stored) ∧
    ∀ (i : Instr) (r : Request), i.request? = some (tag, originOctet .office, r) → kindOctet r = 0x34 →
      c.table = .parcel ∨ c.table = .credential ∨ c.table = .returnQueue ∨ c.table = .counters ∨ c.table = .snapshot →
      exec i s = .next (settle (replied tag (originOctet .office) [0x34, 0x0C] s))

/-- A MAP write to an UNFITTED or VACANT compartment, or a BARRED one without link. Of another place, or of any on an
UNFITTED one, held by no other fitted compartment, it re-fits the compartment: VACANT, or still BARRED with its cause,
out of its list, door sensed OPEN and occupancy UNCERTAIN, its door record stopped; at or beyond the count of a
PRESENT column it takes a cause bar MAP_MISMATCH, with COLUMN(MAP_MISMATCH) when it was not BARRED. Of the place that
a fitted one has, only the class is stored; a listed one leaves its list and joins the tail of the new class's. Of
unfitted, it makes the compartment UNFITTED without cause. In step modes EACH and WRITES the cursor advances, and at the
last entry stays there with the end marker in the reply (R3, R4, R15, R130, R165, R198, R200). The model's choices:
assumption log 3, 12, 21, 22, 24, 39. -/
def Obligations.MapWriteFitsAndUnfits : Prop :=
  ∀ (s : State) (tag : Byte) (n : CompNo) (cb : Byte) (cls : SizeClass), Ready s → s.mgmt.cursor.table = .map →
    s.mgmt.cursor.index = n.val → compGood n s = true → sizeClass? cb = some cls →
    (s.comps[n].state = .unfitted ∨ s.comps[n].state = .vacant ∨ (s.comps[n].state = .barred ∧ s.comps[n].link = none)) →
    let advances := s.mgmt.cursor.mode = .each ∨ s.mgmt.cursor.mode = .writes
    let stored := fun (place : Option (Byte × Byte)) (x : State) =>
      exec (.writeMap tag (originOctet .office) place cb) s =
        .next (settle (replied tag (originOctet .office) ([0x34, 0x00] ++ flag (decide (advances ∧ n.val = 239)))
          (if advances ∧ n.val < 239 then
            { x with mgmt := { x.mgmt with cursor := { s.mgmt.cursor with index := n.val + 1 } } }
          else x)))
    let free := fun (place : MapPlace) =>
      ∀ m, m ≠ n → s.comps[m].place = some place → s.comps[m].state = .unfitted
    (∀ place : MapPlace, (s.comps[n].place ≠ some place ∨ s.comps[n].state = .unfitted) → free place →
      let fitted := modDoor n (fun d =>
          { d with confirm := none, openLimit := none, traceStep := .none, heldClose := none, ajar := none
                   openSeconds := 0 })
        (modComp n (fun c =>
            { c with place := some place, cls := cls, door := .opened, occ := .uncertain
                     state := if c.state = .barred then .barred else .vacant })
          (leaveFree n s))
      let column := s.bus.columns[place.col]
      let wrote := stored (some (addressByte place.col, BitVec.ofNat 8 place.pos.val))
      (column.state ≠ .present ∨ place.pos.val < column.count.val → wrote fitted) ∧
      (column.state = .present → column.count.val ≤ place.pos.val →
        (s.comps[n].state = .barred → wrote (causeBar n .mapMismatch fitted)) ∧
        (s.comps[n].state ≠ .barred →
          wrote (raise (.column (addressByte place.col) .mapMismatch) (causeBar n .mapMismatch fitted))))) ∧
    (∀ place : MapPlace, s.comps[n].place = some place → s.comps[n].state ≠ .unfitted → free place →
      let wrote := stored (some (addressByte place.col, BitVec.ofNat 8 place.pos.val))
      let classed := modComp n (fun c => { c with cls := cls })
      (s.comps[n].cls = cls ∨ n ∉ listOf s.comps[n].cls s.freeLists → wrote (classed s)) ∧
      (s.comps[n].cls ≠ cls → n ∈ listOf s.comps[n].cls s.freeLists → s.comps[n].state = .vacant →
        s.comps[n].door = .closed → s.comps[n].pendingBar = false →
        let x := classed (leaveFree n s)
        wrote { x with freeLists := setList cls (listOf cls x.freeLists ++ [n]) x.freeLists })) ∧
    stored none (modDoor n (fun _ => Cold.doorRecord)
      (modComp n (fun c =>
          { c with place := none, cls := cls, state := .unfitted, cause := none, suspect := false, door := .closed
                   occ := .empty })
        (leaveFree n s)))

/-- CONFIG SET stores each of its fields: a numeric one brought into its range, the pulse length at the step of 50 ms at
or below it, an enumerated one when its value is defined, else the field stays and is marked BAD_FIELD in the reply.
Clearing the expiry scan drops a scan that is due, a changed idle time restarts the idle timer, a raised pulse budget
makes the arbiter look over its list, and a scrubber position places the cursor, at most at the last entry. A field
number above 16, or one named twice, is refused BAD_FIELD and stores nothing. CONFIG GET changes nothing and answers the
record (R102, R150, R191, R201 to R203, R209). The model's choices: assumption log 3, 12, 22. -/
def Obligations.ConfigSetStoresWithinTheRange : Prop :=
  ∀ (s : State) (tag : Byte), Ready s →
    exec (.configGet tag (originOctet .office)) s =
      .next (settle (replied tag (originOctet .office) (0x36 :: 0x00 :: configGetReport s) s)) ∧
    ∀ fs : List (Byte × BitVec 16), 1 ≤ fs.length → fs.length ≤ 40 →
      let put := fun (c : ConfigRecord) (f : Byte × BitVec 16) =>
        let v := f.2.toNat
        let within := fun (low high : Nat) => if v < low then low else if high < v then high else v
        if f.1 = 0x00 then { c with inactivity := within 60 1800 }
        else if f.1 = 0x01 then { c with depositOpen := within 30 300 }
        else if f.1 = 0x02 then { c with releaseOpen := within 10 120 }
        else if f.1 = 0x03 then { c with reopen := within 0 1800 }
        else if f.1 = 0x04 ∧ v < 2 then { c with expiryScan := decide (v = 1) }
        else if f.1 = 0x05 then { c with pollInterval := within 100 1000 }
        else if f.1 = 0x06 ∧ (v = 50 ∨ v = 100 ∨ v = 400 ∨ v = 1600) then { c with wakeSettle := v }
        else if f.1 = 0x07 then { c with pulseBudget := within 1 4 }
        else if f.1 = 0x08 then { c with pulseLength := within 100 800 / 50 * 50 }
        else if f.1 = 0x09 then { c with confirm := within 500 3000 }
        else if f.1 = 0x0A then { c with ajar := within 30 600 }
        else if f.1 = 0x0B then { c with windowMin := within 0 255 }
        else if f.1 = 0x0C then { c with windowMax := within 0 255 }
        else if f.1 = 0x0D then { c with silence := within 1 10 }
        else if f.1 = 0x0E ∧ v < 2 then { c with scrubber := decide (v = 1) }
        else if f.1 = 0x0F then { c with idle := within 0 3600 }
        else c
      let undefined := fun (f : Byte × BitVec 16) =>
        ((f.1 = 0x04 ∨ f.1 = 0x0E) ∧ 2 ≤ f.2.toNat) ∨
          (f.1 = 0x06 ∧ f.2.toNat ≠ 50 ∧ f.2.toNat ≠ 100 ∧ f.2.toNat ≠ 400 ∧ f.2.toNat ≠ 1600)
      let before := s.mgmt.config
      let stored := fs.foldl put before
      let written := modConfig (fun _ => stored) (reserve s)
      let scanner := if before.expiryScan = true ∧ stored.expiryScan = false then
          setScanner { s.returns.scanner with due := false } written
        else written
      let idle := if before.idle ≠ stored.idle then
          { scanner with dormancy := { s.dormancy with idle := stored.idle } }
        else scanner
      let looked := if before.pulseBudget < stored.pulseBudget then lookOver idle else idle
      let placed := match fs.find? (fun f => f.1 == 0x10#8) with
        | some f => { looked with checker :=
            { looked.checker with cursor := ⟨min f.2.toNat 1135, by omega⟩, timer := 100 } }
        | none => looked
      ((∀ f ∈ fs, f.1.toNat ≤ 16) → (fs.map Prod.fst).Nodup →
        exec (.configSet tag (originOctet .office) fs) s =
          .next (settle (filled tag (originOctet .office)
            (0x35 :: 0x00 :: configSetReport stored ((fs.filter (fun f => decide (undefined f))).map (fun f => f.1.toNat)))
            placed))) ∧
      ((∃ f ∈ fs, 16 < f.1.toNat) ∨ ¬ (fs.map Prod.fst).Nodup →
        exec (.configSet tag (originOctet .office) fs) s =
          .next (settle (replied tag (originOctet .office) [0x35, 0x01] s)))

/-- HOLD sets and UNHOLD clears the hold request flag, each answered OK also when the flag stands as asked; the
HOLD_LINE events record the line. A change is a wake cause, and wakes a DORMANT bank with a WAKE_ALL; one that brings
a hold on makes the arbiter hold: every PULSE queued or between two attempts leaves, its grant returned, one on the
bus is called back after its attempt, HOLD_ALL is queued, HOLD(ON) is raised and counted, and the sweep stops; one
that takes the last source away releases the hold with HOLD(OFF) and a look over the waiting list; one under which the
hold stands does nothing else. A broadcast joins the operation queue's tail unless one of its kind is queued, a
WAKE_ALL behind the removal of a queued SLEEP_ALL; a full queue gives it the place of its newest RELAY, answered
CONGESTED, or holds it back (R131, R148, R149, R204, R211). The model's choices: assumption log 3, 12, 16, 19, 44, 50. -/
def Obligations.HoldFollowsLineAndFlag : Prop :=
  ∀ (s : State) (tag : Byte),
    let woken := fun (x : State) =>
      if x.dormancy.state = .dormant then
        enqueueBroadcast .wakeAll { x with dormancy := { x.dormancy with state := .waking } }
      else x
    let flagged := fun (b : Bool) (x : State) => woken (modConfig (fun c => { c with hold := b }) x)
    let lined := fun (b : Bool) (x : State) => woken { x with lines := { x.lines with hold := b } }
    let pulsed := fun (op : Op) => match op with
      | .pulse n _ _ _ => some n
      | _ => none
    let recalled := fun (x : State) =>
      let between := (x.bus.retry.bind (fun r => pulsed r.exchange.op)).toList
      let kept := x.bus.queue.filter (fun op => (pulsed op).isNone)
      let held := x.bus.overflow.filter (fun op => (pulsed op).isNone)
      ((x.bus.queue ++ x.bus.overflow).filterMap pulsed ++ between).foldl (fun y n => takeBack n y)
        { x with bus :=
          { x.bus with
            queue := kept ++ held.take (16 - kept.length)
            overflow := held.drop (16 - kept.length)
            retry := if between = [] then x.bus.retry else none
            use := match x.bus.use with
              | .attempt a => .attempt { a with recalled := a.recalled || (pulsed a.op).isSome }
              | u => u } }
    let onset := fun (src : HoldSource) (x : State) =>
      stopSweep .hold (count .holds (raise (.hold true src)
        (enqueueBroadcast .holdAll (recalled { x with arbiter := { x.arbiter with holdActive := true } }))))
    let release := fun (src : HoldSource) (x : State) =>
      lookOver (raise (.hold false src) { x with arbiter := { x.arbiter with holdActive := false } })
    let ok := fun (kind : Byte) (x : State) =>
      (Host.Outcome.next (settle (filled tag (originOctet .office) [kind, 0x00] x)) :
        Answer)
    (Ready s →
      (s.mgmt.config.hold = true → exec (.hold tag (originOctet .office)) s = ok 0x37 (reserve s)) ∧
      (s.mgmt.config.hold = false → s.arbiter.holdActive = true →
        exec (.hold tag (originOctet .office)) s = ok 0x37 (flagged true (reserve s))) ∧
      (s.mgmt.config.hold = false → s.arbiter.holdActive = false →
        exec (.hold tag (originOctet .office)) s = ok 0x37 (onset .office (flagged true (reserve s)))) ∧
      (s.mgmt.config.hold = false → exec (.unhold tag (originOctet .office)) s = ok 0x38 (reserve s)) ∧
      (s.mgmt.config.hold = true → s.arbiter.holdActive = true → s.lines.hold = true →
        exec (.unhold tag (originOctet .office)) s = ok 0x38 (flagged false (reserve s))) ∧
      (s.mgmt.config.hold = true → s.arbiter.holdActive = true → s.lines.hold = false →
        exec (.unhold tag (originOctet .office)) s = ok 0x38 (release .office (flagged false (reserve s))))) ∧
    (running s = true →
      (s.lines.hold = false → s.arbiter.holdActive = false →
        exec .holdLineAssert s = .next (conclude (onset .line (lined true s)))) ∧
      (s.lines.hold = false → s.arbiter.holdActive = true →
        exec .holdLineAssert s = .next (conclude (lined true s))) ∧
      (s.lines.hold = true → s.arbiter.holdActive = true → s.mgmt.config.hold = false →
        exec .holdLineRelease s = .next (conclude (release .line (lined false s)))) ∧
      (s.lines.hold = true → s.arbiter.holdActive = true → s.mgmt.config.hold = true →
        exec .holdLineRelease s = .next (conclude (lined false s)))) ∧
    ∀ b : Broadcast,
      let other := fun (op : Op) => op != .broadcast .sleepAll
      let kept := s.bus.queue.filter other
      let held := s.bus.overflow.filter other
      let bus := if b = .wakeAll then
          { s.bus with queue := kept ++ held.take (16 - kept.length), overflow := held.drop (16 - kept.length) }
        else s.bus
      let joined := fun (queue overflow : List Op) => { s with bus := { bus with queue := queue, overflow := overflow } }
      (.broadcast b ∈ bus.queue ++ bus.overflow → enqueueBroadcast b s = { s with bus := bus }) ∧
      (.broadcast b ∉ bus.queue ++ bus.overflow →
        (bus.queue.length < 16 → enqueueBroadcast b s = joined (bus.queue ++ [.broadcast b]) bus.overflow) ∧
        (16 ≤ bus.queue.length → (∀ op ∈ bus.queue, isRelay op = false) →
          enqueueBroadcast b s = joined bus.queue (bus.overflow ++ [.broadcast b])) ∧
        ∀ before after c kind message tag o, 16 ≤ bus.queue.length →
          bus.queue = before ++ .relay c kind message tag o :: after → (∀ op ∈ after, isRelay op = false) →
          enqueueBroadcast b s =
            filled tag o [0x0C, 0x03] (joined (before ++ after ++ [.broadcast b]) bus.overflow))

/-! ### The kiosk link (chapter 9) -/

/-- OCTET_RECEIVED restarts the silence timer; HUNTING, an octet that is no mark is passed over and a mark starts a
frame; COLLECTING, an octet of an incomplete frame whose length is in range joins the buffer, and a length out of
range discards the frame with its counters, the length octet hunted next. The octet that completes a frame discards it
when its check is wrong, with the check-error and discards counters, or when its class is neither REQUEST nor MGMT, with
the discards counter alone; the octets behind its mark are hunted again: without a mark among them the receiver is
HUNTING with an empty buffer, and from the first mark on they are the buffer of a frame still incomplete (R169, R170,
R171). The model's choices: assumption log 12, 14. -/
def Obligations.OctetIsHuntedOrCollected : Prop :=
  ∀ (s : State) (o : Byte), running s = true →
    let heard := fun (p : RxPhase) (b : List Byte) =>
      { s with link := { s.link with phase := p, buffer := b, again := [], silence := s.mgmt.config.silence * 1000 } }
    (s.link.phase = .hunting → o ≠ 0xA7 → exec (.octetReceived o) s = .next (conclude (heard .hunting s.link.buffer))) ∧
    (s.link.phase = .hunting → o = 0xA7 → exec (.octetReceived o) s = .next (conclude (heard .collecting [0xA7]))) ∧
    (s.link.phase = .collecting → s.link.buffer = [0xA7] →
      (8 ≤ o.toNat → o.toNat ≤ 128 → exec (.octetReceived o) s = .next (conclude (heard .collecting [0xA7, o]))) ∧
      (o ≠ 0xA7 → o.toNat < 8 ∨ 128 < o.toNat → exec (.octetReceived o) s =
        .next (conclude (discardRun (count .discards (count .lengthErrors (heard .hunting [])))))) ∧
      (o = 0xA7 → exec (.octetReceived o) s = .next (conclude (setRx .collecting [0xA7]
        (discardRun (count .discards (count .lengthErrors (heard .hunting [])))))))) ∧
    (∀ len rest, s.link.phase = .collecting → s.link.buffer = 0xA7 :: len :: rest → 8 ≤ len.toNat → len.toNat ≤ 128 →
      rest.length + 3 < len.toNat →
      exec (.octetReceived o) s = .next (conclude (heard .collecting (0xA7 :: len :: rest ++ [o])))) ∧
    ∀ len cls rest body check, s.link.phase = .collecting → s.link.buffer = 0xA7 :: len :: rest → 8 ≤ len.toNat →
      len.toNat ≤ 128 → rest.length + 3 = len.toNat → rest ++ [o] = cls :: body ++ check → check.length = 2 →
      let sound := check = oct2 (crc16 (len :: cls :: body))
      let again := fun (x : State) =>
        (0xA7 ∉ rest ++ [o] → exec (.octetReceived o) s = .next (conclude (discardRun (count .discards x)))) ∧
        ∀ before after, rest ++ [o] = before ++ 0xA7 :: after → 0xA7 ∉ before →
          after = [] ∨ (∃ l more, after = l :: more ∧ 8 ≤ l.toNat ∧ l.toNat ≤ 128 ∧ more.length + 2 < l.toNat) →
          exec (.octetReceived o) s =
            .next (conclude (setRx .collecting (0xA7 :: after) (discardRun (count .discards x))))
      (¬ sound → again (count .checkErrors (heard .hunting []))) ∧
      (sound → cls ≠ 0x51 → cls ≠ 0x52 → again (heard .hunting []))

/-- FRAME_RECEIVED with the octets of a whole frame of class REQUEST or MGMT, at a HUNTING receiver: the frame is good
and its entry, class, tag, origin and body as sent, is on the runs, offered to the request FIFO and reported for
dormancy (R169, R170, R176, R213). The model's choices: assumption log 12, 14. -/
def Obligations.FrameDeliversItsEntry : Prop :=
  ∀ (s : State) (c : FrameClass) (tag o : Byte) (body : List Byte), running s = true → s.link.phase = .hunting →
    1 ≤ body.length → body.length ≤ 121 →
    exec (.frameReceived (frame (classOctet c) tag o body)) s =
      .next (conclude (conclude (restartIdle (wakeCause (offer { cls := c, tag := tag, origin := o, body := body }
        (goodRun { s with link :=
          { s.link with phase := .hunting, buffer := [], again := [], silence := s.mgmt.config.silence * 1000 } }))))))

/-- The runs and the link state. A good frame raises the good run up to 2 and clears the discard run; a discard raises
the discard run up to 3 and clears the good run. The good run at 2 brings the link UP, with LINK(UP) alone raised at
each entry when the records of the DUE quotes, whose window ends a LOST link rewrites, pass their checks; the discard
run at 3 makes it LOST; otherwise the state stays. SILENCE_EXPIRY with the timer not at 0: the silences counter rises,
the good run is 0, the link is LOST and the timer stands at 0, and a notice on the line of a link that was UP is cut;
at a COLLECTING receiver the partial frame is discarded first, with the discards counter and run, and without a mark
behind its own the receiver is HUNTING. With the timer at 0 already, nothing happens (R169, R171 to R173, R181). The
model's choices: assumption log 5, 12, 14. -/
def Obligations.RunsAndSilenceDecideTheLinkState : Prop :=
  ∀ s : State,
    ((goodRun s).link.goodRun.val = min 2 (s.link.goodRun.val + 1) ∧ (goodRun s).link.discardRun = 0 ∧
      (discardRun s).link.discardRun.val = min 3 (s.link.discardRun.val + 1) ∧ (discardRun s).link.goodRun = 0) ∧
    (1 ≤ s.link.goodRun.val → (goodRun s).link.state = .up) ∧
    (s.link.goodRun = 0 → (goodRun s).link.state = s.link.state ∧ (goodRun s).notices = s.notices) ∧
    ((∀ (t : Term) k w l, s.collection.contexts[t] = .due k w l → parcelGood k s = true) →
      1 ≤ s.link.goodRun.val → s.link.state ≠ .up → (goodRun s).notices = (raise (.link .up) s).notices) ∧
    (2 ≤ s.link.discardRun.val → (discardRun s).link.state = .lost) ∧
    (s.link.discardRun.val < 2 → (discardRun s).link.state = s.link.state) ∧
    (running s = true →
      let lost := fun (x : State) => { x with link := { x.link with goodRun := 0, silence := 0, state := .lost } }
      let cut := fun (x : State) =>
        { x with link := { x.link with tx := .idle }, notices := { x.notices with onLine := none } }
      let heardOut := discardRun (count .discards (count .silences
        { s with link := { s.link with phase := .hunting, buffer := [], again := [] } }))
      let begun := s.link.phase = .collecting ∧ ∃ rest, s.link.buffer = 0xA7 :: rest ∧ 0xA7 ∉ rest
      let noticeCut := s.link.state = .up ∧ ∃ b, s.link.tx = .notice b
      (s.link.silence ≠ 0 → s.link.phase = .hunting →
        (¬ noticeCut → exec .silenceExpiry s = .next (conclude (lost (count .silences s)))) ∧
        (noticeCut → exec .silenceExpiry s = .next (conclude (cut (lost (count .silences s)))))) ∧
      (s.link.silence ≠ 0 → begun →
        (¬ noticeCut → exec .silenceExpiry s = .next (conclude (lost heardOut))) ∧
        (noticeCut → exec .silenceExpiry s = .next (conclude (cut (lost heardOut))))) ∧
      (s.link.silence = 0 → exec .silenceExpiry s = .next (conclude s)))

/-- A good frame's entry joins the tail of a FIFO that holds fewer than eight; a full FIFO refuses it CONGESTED into a
free place, or, with no place free, drops it and counts the drop. At the hand-off the link interface itself refuses, with
the kind as received and nothing changed outside the reply queue: BAD_FIELD an origin that is none, UNKNOWN_REQUEST a kind
that is not of the class, BAD_FIELD a body that is the octets of no request of its class, a WRITE read against the cursor's
table (R176, R178, R216, R218). The model's choices: assumption log 3. -/
def Obligations.LinkInterfaceRefusesWhatItCannotHandOff : Prop :=
  ∀ (s : State) (e : FifoEntry),
    (s.link.fifo.length < 8 → offer e s = { s with link := { s.link with fifo := s.link.fifo ++ [e] } }) ∧
    (8 ≤ s.link.fifo.length → s.link.replies.length + s.link.reserved < 8 →
      offer e s = replied e.tag e.origin [e.body.headD 0x00, 0x03] s) ∧
    (8 ≤ s.link.fifo.length → 8 ≤ s.link.replies.length + s.link.reserved → offer e s = count .drops s) ∧
    ∀ kind fields, e.body = kind :: fields →
      let known := match e.cls with
        | .request => 0x01 ≤ kind.toNat ∧ kind.toNat ≤ 0x0C
        | .mgmt => 0x20 ≤ kind.toNat ∧ kind.toNat ≤ 0x3C
      (4 ≤ e.origin.toNat → e.origin ≠ 0x0F → takeEntry e s = filled e.tag e.origin [kind, 0x01] s) ∧
      (e.origin.toNat < 4 ∨ e.origin = 0x0F →
        (¬ known → takeEntry e s = filled e.tag e.origin [kind, 0x02] s) ∧
        (known → e.body.length ≤ 121 →
          (∀ r : Request, r.wellFormed = true → fitsTable s.mgmt.cursor.table r = true → classOfRequest r = e.cls →
            bodyOctets r ≠ e.body) →
          takeEntry e s = filled e.tag e.origin [kind, 0x01] s))

/-- An idle transmitter sends the oldest reply; with none, while the link is UP, the oldest detail of the
highest-priority class that is pending and unmasked; a busy one goes on with its frame. REPLY_TRANSMIT_COMPLETE frees the
place of the reply sent; NOTICE_TRANSMIT_COMPLETE takes the sent detail from the head of its queue, whose flag clears when
it is then empty; with nothing of the kind on the line neither does anything (R175, R180, R181, R185). The model's
choices: assumption log 12. -/
def Obligations.TransmitterChoosesAndCompletes : Prop :=
  (∀ s : State,
    (s.link.tx ≠ .idle → chooseTx s = s) ∧
    (∀ r rest, s.link.tx = .idle → s.link.replies = r :: rest →
      chooseTx s = { s with link := { s.link with tx := .reply (frame 0x61 r.tag r.origin r.body) } }) ∧
    (s.link.tx = .idle → s.link.replies = [] → s.link.state ≠ .up → chooseTx s = s) ∧
    (∀ (c : NoticeClass) (d : Detail) (rest : List Detail), s.link.tx = .idle → s.link.replies = [] →
      s.link.state = .up → s.notices.classes[classIndex c].pending = true →
      s.notices.classes[classIndex c].masked = false → s.notices.classes[classIndex c].details = d :: rest →
      (∀ i : Fin 12, i < classIndex c → s.notices.classes[i].pending = false ∨ s.notices.classes[i].masked = true) →
      chooseTx s = { s with
        link := { s.link with tx := .notice (frame 0x62 0x00 0x0F (noticeBody d)) }
        notices := { s.notices with onLine := some c } })) ∧
  ∀ s : State, running s = true →
    (∀ b, s.link.tx = .reply b → exec .replyTransmitComplete s =
      .next (conclude { s with link := { s.link with tx := .idle, replies := s.link.replies.tail } })) ∧
    ((∀ b, s.link.tx ≠ .reply b) → exec .replyTransmitComplete s = .next (conclude s)) ∧
    (∀ b c, s.link.tx = .notice b → s.notices.onLine = some c → exec .noticeTransmitComplete s =
      .next (conclude { s with
        link := { s.link with tx := .idle }
        notices := { s.notices with
          onLine := none
          classes := s.notices.classes.set (classIndex c).val
            { s.notices.classes[classIndex c] with
              details := s.notices.classes[classIndex c].details.tail
              pending := !s.notices.classes[classIndex c].details.tail.isEmpty } (classIndex c).isLt } })) ∧
    ((∀ b, s.link.tx ≠ .notice b) → exec .noticeTransmitComplete s = .next (conclude s))

/-- A notice raised joins the tail of its class's queue with the more marker clear and sets the pending flag; with eight
details queued it is lost, and the newest carries the more marker. The other classes stay as they are (R184). And a raised
counter rises by one unless it stands at 65,535; every other counter, and the snapshot set, stay. -/
def Obligations.NoticesQueueAndCountersSaturate : Prop :=
  (∀ (s : State) (b : NoticeBody) (drill sensor : Bool),
    let i := classIndex (bodyClass b)
    let q := s.notices.classes[i]
    let left := fun (details : List Detail) =>
      { s with notices := { s.notices with
          classes := s.notices.classes.set i.val { q with pending := true, details := details } i.isLt } }
    (q.details.length < 8 →
      raiseMarked b drill sensor s =
        left (q.details ++ [{ body := b, more := false, drill := drill, sensor := sensor }])) ∧
    (∀ front d, q.details = front ++ [d] → 8 ≤ q.details.length →
      raiseMarked b drill sensor s = left (front ++ [{ d with more := true }]))) ∧
  ∀ (s : State) (k : Counter),
    (count k s).counters.snap = s.counters.snap ∧
    (s.counters.live[counterIndex k].toNat < 65535 →
      (count k s).counters.live[counterIndex k].toNat = s.counters.live[counterIndex k].toNat + 1) ∧
    (s.counters.live[counterIndex k].toNat = 65535 → (count k s).counters.live = s.counters.live) ∧
    ∀ j : Fin 62, j ≠ counterIndex k → (count k s).counters.live[j] = s.counters.live[j]

/-! ### Starts, clock and timers (chapters 4 and 11) -/

/-- RESET_ASSERT stops the part; RESET_RELEASE starts it, warm when the retention-intact marker is set, else cold;
RETENTION_SUPPLY_LOSS clears the marker; POWER_LOSS stops the part, with the marker cleared when it cuts a cold start
short; RESTART ENGINES and RESET ALL start the part anew, unanswered. A cold start leaves every item at its cold-start
value, the configuration record, the reset-cause record, the clock and the tariff at those written out, LINK(COLD)
raised and every column to be probed; with the hold line asserted the arbiter holds, HOLD_ALL is queued and HOLD(ON)
raised and counted. What follows it is the state right after reset (R62, R65, R67, R129, R148, R198, R201, R206 to
R208). The model's choices: assumption log 4, 12, 25, 26, 45. -/
def Obligations.StartsFollowTheirCauses : Prop :=
  (∀ (s : State) (tag : Byte),
    let line := fun (x : State) => { x with lines := { x.lines with reset := false, power := true } }
    exec .resetAssert s = .next { s with lines := { s.lines with reset := true } } ∧
    (s.mgmt.retentionIntact = true → exec .resetRelease s = .next (conclude (keptStart .warm (line s)))) ∧
    (s.mgmt.retentionIntact = false → exec .resetRelease s = .next (conclude (coldStart (line s)))) ∧
    exec .retentionSupplyLoss s = .next { s with mgmt := { s.mgmt with retentionIntact := false } } ∧
    exec (.powerLoss false) s = .next { s with lines := { s.lines with power := false } } ∧
    (s.mgmt.resetCause.last = .cold → exec (.powerLoss true) s = .next { s with
      lines := { s.lines with power := false }, mgmt := { s.mgmt with retentionIntact := false } }) ∧
    (Ready s → exec (.restartEngines tag (originOctet .office)) s = .next (settle (keptStart .engine (reserve s))) ∧
      exec (.resetAll tag (originOctet .office)) s = .next (settle (coldStart (reserve s))))) ∧
  ∀ s : State,
    let cold := { State.reset with
      bus := { State.reset.bus with use := .free }, lines := s.lines, pending := s.pending }
    let t := coldStart s
    (t.mgmt =
        { config :=
            { inactivity := 600, depositOpen := 60, releaseOpen := 30, reopen := 600, expiryScan := true, pollInterval := 200
              wakeSettle := 400, pulseBudget := 2, pulseLength := 300, confirm := 1500, ajar := 120, windowMin := 20
              windowMax := 120, silence := 3, scrubber := true, idle := 0
              relay := Vector.replicate 12 { lamp := true, text := true, chime := true }, hold := false }
          cursor := { table := .tariff, index := 0, mode := .hold }
          resetCause := { last := .cold, warm := 0, engine := 0 }, retentionIntact := true } ∧
      t.time = { minute := 0, seconds := 0, clockSet := false } ∧
      (∀ p : PlanNo, t.charge.plans[p] =
        { free := 240, block := 60, rates := Vector.replicate 4 0, caps := Vector.replicate 4 none, peak := false
          expiry := 10080, window := 180 }) ∧
      ∀ w : Fin 4, t.charge.peaks[w] = { first := 0, last := 0, multiplier := 100 }) ∧
    (s.lines.hold = false → coldStart s = cold ∧
      settle (coldStart s) = { State.reset with lines := s.lines, pending := s.pending }) ∧
    (s.lines.hold = true → coldStart s = count .holds (raise (.hold true .line)
      { cold with
        arbiter := { cold.arbiter with holdActive := true }
        bus := { cold.bus with queue := [.broadcast .holdAll] } }))

/-- What a warm start and an engine restart leave, by block: the link DOWN with nothing held, the terminals IDLE, no
deposit marker, no computation, no sweep, an idle scanner, the count of its own kind one higher up to 255, no grant,
the restart guard, an idle bus with every column to be probed, the doors stopped until a first poll, the notices of the
start alone, the table cursor at its start, AWAKE; the counters, the last traces, the columns' states and counts and
the scrubber's cursor stay at an engine restart alone. With no job in flight, the records, compartments, credentials,
queue, tables, configuration and clock stand as they stood, and the free lists are built anew. A job in flight is
resolved: a deposit HELD is freed and its record ADVISED, one LOADING is marked resumed; a record QUOTING or DUE
returns to STORED with its tendered total credited, or to RETURN_QUEUED when expired; an UNTAKEN one joins the re-open
list at the full window, and with a window of 0 returns to STORED with its settled payment; a release and a swept
compartment are marked resumed with no attempts; MAINT returns to phase NONE (R9, R20, R61, R93, R100, R121, R207,
R208). The model's choices: assumption log 25, 27, 45. -/
def Obligations.KeptStartKeepsTheDomainAndResolvesJobs : Prop :=
  ∀ (s : State) (kind : StartKind), kind = .warm ∨ kind = .engine →
    let t := keptStart kind s
    let c := s.mgmt.config
    let held := s.lines.hold || c.hold
    (t.link = Cold.link c.silence ∧ (∀ u : Term, t.creds.terms[u] = Cold.term) ∧
      (∀ u : Term, t.deposit.markers[u] = none) ∧ t.charge.queue = [] ∧ t.charge.running = none ∧
      (∀ u : Term, t.collection.contexts[u] = .none) ∧ t.returns.sweep = none ∧ t.returns.scanner = Cold.scanner ∧
      t.arbiter = { waiting := [], committed := [], nextAge := 0, guard := some 1000, holdActive := held } ∧
      t.bus.queue = (if held then [.broadcast .holdAll] else []) ∧ t.bus.overflow = [] ∧ t.bus.use = .free ∧
      t.bus.retry = none ∧ t.bus.returning = [] ∧
      t.bus.enumeration = some { todo := List.finRange 12, reply := none } ∧
      (∀ a : Col, t.bus.columns[a] =
        { state := if kind = .engine then s.bus.columns[a].state else .unknown
          count := if kind = .engine then s.bus.columns[a].count else 0
          pollDue := false, probeDue := true }) ∧
      t.dormancy = { state := .awake, settling := none, wakeRound := none, idle := c.idle } ∧
      (∀ n : CompNo, t.doors.records[n] = Cold.doorRecord) ∧ (∀ a : Col, t.doors.firstPoll[a] = true) ∧
      (∀ a : Col, t.doors.lastTrace[a] = if kind = .engine then s.doors.lastTrace[a] else none) ∧
      t.mgmt.config = c ∧ t.mgmt.cursor = { table := .tariff, index := 0, mode := .hold } ∧
      t.mgmt.resetCause.last = kind ∧
      t.mgmt.resetCause.warm.val = (if kind = .warm then min 255 (s.mgmt.resetCause.warm.val + 1)
        else s.mgmt.resetCause.warm.val) ∧
      t.mgmt.resetCause.engine.val = (if kind = .engine then min 255 (s.mgmt.resetCause.engine.val + 1)
        else s.mgmt.resetCause.engine.val) ∧
      t.mgmt.retentionIntact = s.mgmt.retentionIntact ∧
      (∀ cls, listOf cls t.freeLists = (List.finRange 240).filter (fun n =>
        t.comps[n].cls == cls && t.comps[n].state == .vacant && t.comps[n].door == .closed
          && !t.comps[n].pendingBar)) ∧
      t.time = s.time ∧ t.lines = s.lines ∧ t.charge.plans = s.charge.plans ∧ t.charge.peaks = s.charge.peaks) ∧
    ((∀ k p, parcelAt k s = some p → p.state = .advised ∨ p.state = .stored ∨ p.state = .returnQueued ∨
        p.state = .stranded ∨ p.state = .quarantined) →
      (∀ n : CompNo, s.comps[n].state ≠ .maint ∧ s.comps[n].state ≠ .sweeping) →
      t.parcels = s.parcels ∧ t.comps = s.comps ∧ t.creds.ways = s.creds.ways ∧ t.returns.queue = s.returns.queue ∧
      t.deposit = Cold.deposit ∧ t.collection = Cold.collection ∧ t.maintSlot = s.maintSlot ∧
      t.checker = { s.checker with cursor := if kind = .engine then s.checker.cursor else 0, timer := 100 } ∧
      (held = false →
        t.notices = (raise (.link (.start kind)) { s with notices := Cold.notices }).notices ∧
        t.counters = if kind = .engine then s.counters else Cold.counters)) ∧
    (TablesGood s → TablesAgree s →
      (∀ (k : Slot) (p : Parcel) (n : CompNo), parcelAt k s = some p → p.comp = some n →
        (p.state = .depositing → s.comps[n].state = .held →
          parcelAt k t = some (sealParcel k { p with state := .advised, comp := none, arrival := none }) ∧
          t.comps[n] = sealCompartment n { s.comps[n] with
            link := none, phase := .none, attempts := 0, suspect := false, pendingBar := false
            state := if s.comps[n].pendingBar then .barred else .vacant
            cause := if s.comps[n].pendingBar then some .management else s.comps[n].cause }) ∧
        (p.state = .depositing → s.comps[n].state = .loading →
          parcelAt k t = some p ∧ t.comps[n] = s.comps[n] ∧ t.deposit.resumed[n] = true) ∧
        (p.state = .quoting ∨ p.state = .due →
          parcelAt k t = some (sealParcel k { p with
            prepaid := p.prepaid + p.tendered, tendered := 0, change := 0, quote := none
            state := if isExpired k p s.time.minute s then .returnQueued else .stored }) ∧
          (isExpired k p s.time.minute s = true → k ∈ t.returns.queue)) ∧
        (p.state = .untaken → 0 < c.reopen →
          parcelAt k t = some p ∧ { slot := k, left := c.reopen } ∈ t.collection.reopen) ∧
        (p.state = .untaken → c.reopen = 0 →
          parcelAt k t = some (sealParcel k { p with
            prepaid := p.prepaid + (p.tendered - p.change), tendered := 0, change := 0, quote := none
            state := if isExpired k p s.time.minute s then .returnQueued else .stored }) ∧
          t.collection.reopen = []) ∧
        ((p.state = .releasing ∧ s.comps[n].state = .releasing) ∨
            (p.state = .sweeping ∧ s.comps[n].state = .sweeping) →
          parcelAt k t = some p ∧ t.deposit.resumed[n] = true ∧
          t.comps[n] = sealCompartment n { s.comps[n] with attempts := 0 })) ∧
      ∀ n : CompNo, s.comps[n].state = .maint → t.comps[n] = sealCompartment n { s.comps[n] with phase := .none })

/-- SECOND_TICK below second 59, and MINUTE_BOUNDARY, at a running part: the seconds advance; at the boundary they return
to 0, the minute rises unless it stands at its largest, and with the clock set and scanning configured the scanner starts
or marks a scan due. Each brings one second event (`secondEvents`, whose counting `TerminalTimersCountAndEnd` states),
which changes nothing with no terminal locked out or in COURIER mode, no window and no ajar timer counting and no idle
time. SECOND_TICK at second 59 is the boundary. A part in reset or without power counts the clock on and does nothing else
(R62, R102, R206). The model's choices: assumption log 4, 6, 12. -/
def Obligations.SecondsAndMinutesAdvanceTheClock : Prop :=
  ∀ s : State,
    let quiet := (∀ t : Term, s.creds.terms[t].lockRemaining = 0 ∧ ∀ i, s.creds.terms[t].mode ≠ .courier i) ∧
      (∀ t : Term, ∀ k w l, s.collection.contexts[t] ≠ .due k w l) ∧ s.collection.reopen = [] ∧
      (∀ n : CompNo, s.doors.records[n].ajar = none) ∧ s.mgmt.config.idle = 0
    let top := 4294967295#32
    let atMinute := fun (m : Minute) => { s with time := { s.time with minute := m, seconds := 0 } }
    let next := s.time.minute + 1
    let advances := fun (events : State → State) =>
      (∀ h : s.time.seconds.val < 59, exec .secondTick s =
        .next (conclude (events { s with time := { s.time with seconds := ⟨s.time.seconds.val + 1, by omega⟩ } }))) ∧
      (s.time.minute = top → exec .minuteBoundary s = .next (conclude (events (atMinute top)))) ∧
      (s.time.minute ≠ top → s.mgmt.config.expiryScan = false ∨ s.time.clockSet = false →
        exec .minuteBoundary s = .next (conclude (events (atMinute next)))) ∧
      (s.time.minute ≠ top → s.mgmt.config.expiryScan = true → s.time.clockSet = true →
        exec .minuteBoundary s = .next (conclude (setScanner
          (if s.returns.scanner.scanning then { s.returns.scanner with due := true }
            else { s.returns.scanner with scanning := true, minute := next, cursor := 0 }) (events (atMinute next)))))
    (running s = true → advances secondEvents ∧ (quiet → advances (fun x => x))) ∧
    (s.time.seconds.val = 59 → exec .secondTick s = exec .minuteBoundary s) ∧
    (running s = false →
      (∀ h : s.time.seconds.val < 59, exec .secondTick s =
        .next { s with time := { s.time with seconds := ⟨s.time.seconds.val + 1, by omega⟩ } }) ∧
      (s.time.minute ≠ top → exec .minuteBoundary s = .next (atMinute next)))

/-- A second event, which SECOND_TICK and MINUTE_BOUNDARY each bring (`SecondsAndMinutesAdvanceTheClock`), counts each
lockout down in every link state; a COURIER's inactivity timer with no open job, payment windows and re-open windows while
the link is not LOST; a running ajar timer on a PRESENT column polled since, with its open seconds rising, up to 65,535;
the idle timer of a quiet AWAKE bank with an idle time; none falls below 0, and nothing else changes. A lockout ends as its
count reaches 0, and LOCKOUT_END changes nothing further: count and level stay, and a lockout with seconds left stands;
INACTIVITY_EXPIRY of a COURIER terminal with no open job, whose timer has reached 0 and that runs no sweep, makes it IDLE;
on another terminal, or with time left, it does nothing (R35, R36, R39, R62, R80, R87, R165 to R167, R174, R209). The
model's choices: assumption log 5, 6, 12. -/
def Obligations.TerminalTimersCountAndEnd : Prop :=
  ∀ (s : State) (t : Term),
    let c := s.creds.terms[t]
    let e := secondEvents s
    let d := e.creds.terms[t]
    let lost := s.link.state = .lost
    let idles := s.dormancy.state = .awake ∧ isQuiet s = true ∧ 0 < s.mgmt.config.idle
    (d.lockRemaining = c.lockRemaining - 1 ∧
      (∀ i, c.mode = .courier i → c.openJob = none → ¬ lost → d.inactivity = c.inactivity - 1) ∧
      ((lost ∨ c.openJob ≠ none ∨ ∀ i, c.mode ≠ .courier i) → d.inactivity = c.inactivity) ∧
      d = { c with lockRemaining := d.lockRemaining, inactivity := d.inactivity } ∧
      (∀ k w l, s.collection.contexts[t] = .due k w l → ¬ lost → e.collection.contexts[t] = .due k (w - 1) l) ∧
      ((∀ k w l, s.collection.contexts[t] ≠ .due k w l) → e.collection.contexts[t] = s.collection.contexts[t]) ∧
      (lost → e.collection = s.collection) ∧
      (¬ lost → e.collection.reopen = s.collection.reopen.map (fun e => { e with left := e.left - 1 }))) ∧
    (∀ n : CompNo,
      let r := s.doors.records[n]
      let runs := ∃ a, columnOf n s = some a ∧ s.bus.columns[a].state = .present ∧ s.doors.firstPoll[a] = false
      (∀ left, r.ajar = some left → runs →
        e.doors.records[n] = { r with ajar := some (left - 1), openSeconds := satInc r.openSeconds }) ∧
      (r.ajar = none ∨ ¬ runs → e.doors.records[n] = r)) ∧
    (idles → e.dormancy = { s.dormancy with idle := s.dormancy.idle - 1 }) ∧
    (¬ idles → e.dormancy = s.dormancy) ∧
    e = { s with
      creds := { s.creds with terms := e.creds.terms }, collection := e.collection
      doors := { s.doors with records := e.doors.records }, dormancy := e.dormancy } ∧
    (running s = true →
      exec (.lockoutEnd t) s = .next (conclude s) ∧
      (∀ i, c.mode = .courier i → c.openJob = none → c.inactivity = 0 →
        (∀ w, s.returns.sweep = some w → w.terminal ≠ t) →
        exec (.inactivityExpiry t) s =
          .next (conclude (modTerm t (fun c => { c with mode := .idle, signOffPending := false }) s))) ∧
      ((∀ i, c.mode ≠ .courier i) ∨ c.inactivity ≠ 0 → exec (.inactivityExpiry t) s = .next (conclude s)))

/-! ### Column bus, arbiter and doors (chapters 7 and 8) -/

/-- While AWAKE, POLL_ROUND and ATTENTION_ASSERT mark every PRESENT column for a poll and start the round timer anew,
and PROBE_MARK marks every UNKNOWN or ABSENT column for a probe. In DORMANT the attention line is a wake cause, and in
WAKING it does nothing; POLL_ROUND and PROBE_MARK do nothing in either. The wake round that has polled every column
marked for it ends in what follows a taking: AWAKE, the idle timer at the full idle time, the round and probe timers at a
full period (R128, R134, R136, R209, R211). The model's choices: assumption log 11, 12, 27. -/
def Obligations.RoundsAndMarksByDormancy : Prop :=
  ∀ s : State, running s = true →
    let round := { s with bus :=
      { s.bus with
        columns := s.bus.columns.map (fun e => if e.state = .present then { e with pollDue := true } else e)
        roundTimer := s.mgmt.config.pollInterval } }
    (s.dormancy.state = .awake →
      exec .pollRound s = .next (conclude round) ∧ exec .attentionAssert s = .next (conclude round) ∧
      exec .probeMark s = .next (conclude { s with bus :=
        { s.bus with
          columns := s.bus.columns.map (fun e =>
            if e.state = .unknown ∨ e.state = .absent then { e with probeDue := true } else e)
          probeTimer := 5000 } })) ∧
    (s.dormancy.state = .dormant → exec .attentionAssert s =
      .next (conclude (enqueueBroadcast .wakeAll { s with dormancy := { s.dormancy with state := .waking } }))) ∧
    (s.dormancy.state = .waking → exec .attentionAssert s = .next (conclude s)) ∧
    (s.dormancy.state ≠ .awake → exec .pollRound s = .next (conclude s) ∧ exec .probeMark s = .next (conclude s)) ∧
    (s.dormancy.wakeRound = some [] → s.charge.running.isSome = true ∨ s.charge.queue = [] →
      s.returns.sweep.all (fun w => w.current.isSome) = true →
      settle s = settle { s with
        dormancy := { s.dormancy with state := .awake, wakeRound := none, idle := s.mgmt.config.idle }
        bus := { s.bus with roundTimer := s.mgmt.config.pollInterval, probeTimer := 5000 } })

/-- The answers a column gives a PULSE, a RELAY and a PROBE on the bus. A PULSE accepted is in flight with the length it
carried and counted; in AWAIT_GRANT or AWAIT_OPEN of its own job, its entry read good, it starts the confirm timer and the
open limit of the job; when that job has ended, or a new one waits, nothing else follows. A RELAY accepted is answered OK.
A PROBE makes the column PRESENT with the count answered, 20 at most, and owed a POLL; each compartment fitted at or
beyond the count takes a cause bar MAP_MISMATCH, with one COLUMN(MAP_MISMATCH) when one was not BARRED before; an ABSENT
column raises COLUMN(RETURNED); the arbiter looks over its list. The probe then ends: its marker is cleared, unless an
enumeration under way still owes the column its own PROBE, and the enumeration ends with its last one, its ENUMERATE
answered with the state and count of each column (R11, R128 to R130, R138, R143, R157). The model's choices: assumption
log 12, 15, 17, 38, 63. -/
def Obligations.AcceptEndsTheExchange : Prop :=
  (∀ (s : State) (x : Exchange) (c : Col), running s = true → s.bus.use = .attempt x →
    let free := { s with bus := { s.bus with use := .free } }
    (∀ n pos length, x.op = .pulse n c pos length →
      let flying := count .pulses { free with arbiter := { s.arbiter with
        committed := s.arbiter.committed.map (fun g => if g.comp = n then { g with stage := .inFlight length } else g) } }
      (s.comps[n].phase = .awaitOpen ∨ (s.comps[n].phase = .awaitGrant ∧ isWaiting n s = false) → compGood n s = true →
        exec (.pulseAccept (addressByte c)) s = .next (conclude (startTimers n
          (modComp n (fun k =>
            { k with state := if k.state = .held then .loading else k.state, phase := .awaitOpen }) flying)))) ∧
      (s.comps[n].phase = .opened → compGood n s = true →
        exec (.pulseAccept (addressByte c)) s = .next (conclude
          (modComp n (fun k => { k with state := if k.state = .held then .loading else k.state }) flying))) ∧
      (s.comps[n].phase = .none ∨ (s.comps[n].phase = .awaitGrant ∧ isWaiting n s = true) →
        exec (.pulseAccept (addressByte c)) s = .next (conclude flying))) ∧
    (∀ kind message tag o, x.op = .relay c kind message tag o →
      exec (.relayAccept (addressByte c)) s =
        .next (conclude (filled tag o [0x0C, 0x00] free))) ∧
    (∀ (number : Byte) en, x.op = .probe c en → TablesGood s →
      let reported : Fin 21 := ⟨min number.toNat 20, by omega⟩
      let present := modColumn c (fun e => { e with state := .present, count := reported, pollDue := true }) free
      let beyond := (List.finRange 240).filter (fun n =>
        s.comps[n].place.any (fun p => p.col == c && reported.val ≤ p.pos.val) && s.comps[n].state != .unfitted)
      let barred := beyond.foldl (fun y n => causeBar n .mapMismatch y) present
      let checked := if ∃ n ∈ beyond, s.comps[n].state ≠ .barred then
          raise (.column (addressByte c) .mapMismatch) barred
        else barred
      let back := if s.bus.columns[c].state = .absent then raise (.column (addressByte c) .returned) checked else checked
      exec (.probeAccept (addressByte c) number) s = .next (conclude (probeOver c en (lookOver
        { back with bus := { back.bus with returning := back.bus.returning.filter (fun d => d != c) ++ [c] } }))))) ∧
  (∀ (s : State) (n : CompNo),
    let limit : Option OpenLimit := match s.comps[n].state with
      | .held | .loading => some { kind := .deposit, left := s.mgmt.config.depositOpen * 1000 }
      | .releasing | .sweeping => some { kind := .release, left := s.mgmt.config.releaseOpen * 1000 }
      | _ => none
    startTimers n s = modDoor n (fun d =>
      { d with confirm := some s.mgmt.config.confirm, pulseEnd := .none, traceStep := .none, readFailed := false
               openLimit := limit }) s) ∧
  ∀ (s : State) (c : Col),
    let unmarked := modColumn c (fun e => { e with probeDue := false }) s
    let with_ := fun (e : Option Enumeration) => { unmarked with bus := { unmarked.bus with enumeration := e } }
    (s.bus.enumeration = none → ∀ en, probeOver c en s = unmarked) ∧
    ∀ e, s.bus.enumeration = some e →
      let todo := e.todo.filter (fun d => d != c)
      (c ∈ e.todo → probeOver c false s = s) ∧
      (c ∉ e.todo → probeOver c false s = unmarked) ∧
      (todo ≠ [] → probeOver c true s = with_ (some { e with todo := todo })) ∧
      (todo = [] → e.reply = none → probeOver c true s = with_ none) ∧
      (∀ tag o, todo = [] → e.reply = some (tag, o) → probeOver c true s = filled tag o
        (0x2D :: 0x00 :: (List.finRange 12).flatMap (fun d =>
          columnStateCode s.bus.columns[d].state :: num2 s.bus.columns[d].count.val)) (with_ none))

/-- The trace of a position is classified by the trace-failed flag, then the absence of edges, then a FALL edge within
the configured release window (R161). A TRACE_READ accepted: the trace of the fitted compartment's position, one
without edges when the answer has none for it, becomes the column's last trace with its class, the pulse end and the
station minute. When the compartment's read is the one queued, the step is NONE, and in AWAIT_OPEN the class acts:
MAINT returns to phase NONE; for a job BOLT_MOVED does nothing, COIL_FAULT is a lock fault, and BOLT_STUCK and
BOLT_SLOW ask a new grant in the job's class, with an attempt more unless the pulse was cut, or are a lock fault after
two attempts. The model's choices: assumption log 12, 15, 18, 21, 35, 41. -/
def Obligations.TraceReadIsClassifiedAndActedOn : Prop :=
  (∀ (s : State) (edges : List Edge) (failed : Bool),
    let inside := fun (e : Edge) =>
      s.mgmt.config.windowMin ≤ e.offset.toNat ∧ e.offset.toNat ≤ s.mgmt.config.windowMax
    (failed = true → classify s edges failed = .coilFault) ∧
    (failed = false → edges = [] → classify s edges failed = .boltStuck) ∧
    (failed = false → (∃ e ∈ edges, e.dir = .fall ∧ inside e) → classify s edges failed = .boltMoved) ∧
    (failed = false → edges ≠ [] → (∀ e ∈ edges, ¬ (e.dir = .fall ∧ inside e)) →
      classify s edges failed = .boltSlow)) ∧
  (∀ (s : State) (n : CompNo) (cls : TraceClass),
    let asked : GrantClass := match s.comps[n].state with
      | .releasing => .collect
      | .sweeping => .sweep
      | _ => .deposit
    (s.comps[n].state = .maint →
      traceAction n cls s = stopJobTimers n (modComp n (fun k => { k with phase := .none }) s)) ∧
    (isJob s.comps[n].state = true →
      (cls = .boltMoved → traceAction n cls s = s) ∧
      (cls = .coilFault → traceAction n cls s = lockFault n cls s) ∧
      (cls = .boltStuck ∨ cls = .boltSlow →
        (s.doors.records[n].pulseEnd = .cut → traceAction n cls s = requestGrant n asked s) ∧
        (s.doors.records[n].pulseEnd ≠ .cut → s.comps[n].attempts = 2 → traceAction n cls s = lockFault n cls s) ∧
        (s.doors.records[n].pulseEnd ≠ .cut → s.comps[n].attempts ≠ 2 → traceAction n cls s = requestGrant n asked
          (modComp n (fun k => { k with attempts := if k.attempts = 0 then 1 else 2 }) s))))) ∧
  ∀ (s : State) (x : Exchange) (c : Col) (n : CompNo) (traces : List PositionTrace) (place : MapPlace),
    running s = true → s.bus.use = .attempt x → x.op = .traceRead n c → s.comps[n].place = some place →
    s.comps[n].state ≠ .unfitted →
    let found := traces.find? (fun t => t.position.toNat == place.pos.val)
    let edges := (found.map PositionTrace.edges).getD []
    let failed := (found.map PositionTrace.failed).getD false
    let cls := classify s edges failed
    let kept := setLastTrace c
      { comp := n, pos := place.pos, pulseEnd := s.doors.records[n].pulseEnd, edges := edges, failed := failed
        cls := cls, minute := s.time.minute } { s with bus := { s.bus with use := .free } }
    let stepped := modDoor n (fun d => { d with traceStep := .none }) kept
    let leaves := fun (t : State) => exec (.traceReadAccept (addressByte c) traces) s = .next (conclude t)
    (s.doors.records[n].traceStep ≠ .queued → leaves kept) ∧
    (s.doors.records[n].traceStep = .queued → s.comps[n].phase ≠ .awaitOpen → leaves stepped) ∧
    (s.doors.records[n].traceStep = .queued → s.comps[n].phase = .awaitOpen → compGood n s = true →
      leaves (traceAction n cls stepped))

/-- An attempt that ends without success. NO_ANSWER and STALL raise the column's counter and the silence count, and below
three the operation is attempted again at once; the third fails it with no answer. BUSY_ANSWER raises the busy count,
retried 10 ms later up to three times, and the fourth fails it COLUMN_BUSY; WAKE_ANSWER the first time is retried after the
wake settle interval, and a later one is counted and taken as nothing heard. A PULSE that a hold has called back is not
attempted again: its grant is returned and the arbiter looks over its list. The ends of those waits make the operation
ready for its next attempt, and neither ends the other's wait (R124 to R126, R132, R148). The model's choices: assumption
log 12, 15, 16. -/
def Obligations.FailedAttemptsAreCountedAndRetried : Prop :=
  (∀ (s : State) (x : Exchange) (c : Col), running s = true → s.bus.use = .attempt x → opColumn x.op = some c →
    let free := fun (k : Counter) => count k { s with bus := { s.bus with use := .free } }
    let again := fun (k : Counter) (y : Exchange) (wait : RetryWait) =>
      match x.recalled, x.op with
      | true, .pulse n _ _ _ => lookOver (takeBack n (free k))
      | _, _ => count k { s with bus := { s.bus with use := .free, retry := some { exchange := y, wait := wait } } }
    let unheard := fun (cmd : Instr) (k : Counter) =>
      (x.silence < 2 → exec cmd s = .next (conclude (again k { x with silence := x.silence + 1 } .ready))) ∧
      (2 ≤ x.silence → exec cmd s = .next (conclude (noAnswerFailure x (free k))))
    unheard .noAnswer (.noAnswer c) ∧
    unheard .stall (.stall c) ∧
    (x.woke = true → unheard (.wakeAnswer (addressByte c)) (.wake c)) ∧
    (x.woke = false → exec (.wakeAnswer (addressByte c)) s =
      .next (conclude (again (.wake c) { x with woke := true } (.afterWake s.mgmt.config.wakeSettle)))) ∧
    (x.busy < 3 ∨ x.recalled = true → exec (.busyAnswer (addressByte c)) s =
      .next (conclude (again (.busy c) { x with busy := x.busy + 1 } (.afterBusy 10)))) ∧
    (3 ≤ x.busy → x.recalled = false →
      exec (.busyAnswer (addressByte c)) s = .next (conclude (busyFailure x (free (.busy c)))))) ∧
  ∀ (s : State) (r : Retry) (ms : Nat), running s = true → s.bus.retry = some r →
    let ready := { s with bus := { s.bus with retry := some { r with wait := .ready } } }
    (r.wait = .afterBusy ms → exec .busyRetryWaitEnd s = .next (conclude ready) ∧
      exec .wakeRetryWaitEnd s = .next (conclude s)) ∧
    (r.wait = .afterWake ms → exec .wakeRetryWaitEnd s = .next (conclude ready) ∧
      exec .busyRetryWaitEnd s = .next (conclude s))

/-- What a failed operation leads to. With no answer: a column PRESENT or ASLEEP becomes ABSENT, with COLUMN(ABSENT)
and its counter, its doors away, its poll over, and the arbiter looks over its list; the failed operation and every
queued one to the column but PROBE is disposed of: a RELAY answered COLUMN_DOWN, a trace read owed until the column
returns, a grant returned. On a column away already the operation is disposed of and the arbiter looks. A PROBE leaves
an ABSENT column so, makes an UNKNOWN one ABSENT, with the notice when a fitted compartment is mapped to it, and ends.
COLUMN_BUSY: a PULSE returns its grant with an attempt more, a POLL ends the poll, a TRACE_READ is queued once more
and then read as one without edges, a RELAY is answered CONGESTED, a PROBE ends. A grant returned leaves the committed
set and rejoins the list in order of its age, unless its compartment waits already (R125, R127 to R129, R138, R144,
R160). The model's choices: assumption log 15, 16, 17, 18, 44, 47, 50, 51, 62. -/
def Obligations.FailedOperationsAreDisposedOf : Prop :=
  let dispose := fun (y : State) (op : Op) => match op with
    | .relay _ _ _ tag o => filled tag o [0x0C, 0x13] y
    | .traceRead n _ =>
      if y.doors.records[n].traceStep = .queued then modDoor n (fun d => { d with traceStep := .atPulseEnd }) y else y
    | .pulse n _ _ _ => takeBack n y
    | _ => y
  let pollEnded := fun (c : Col) (y : State) =>
    let z := modColumn c (fun e => { e with pollDue := false }) y
    { z with dormancy := { z.dormancy with wakeRound := z.dormancy.wakeRound.map (fun l => l.filter (fun d => d != c)) } }
  let lost := fun (c : Col) (failed : List Op) (s : State) =>
    let leaves := fun (op : Op) => opColumn op == some c && !isProbe op
    let away := count .absences (raise (.column (addressByte c) .absent)
      (setFirstPoll c true (modColumn c (fun e => { e with state := .absent }) s)))
    let gone := { away with bus := { away.bus with queue := s.bus.queue.filter (fun op => !leaves op) } }
    let disposed := (failed ++ s.bus.queue.filter leaves).foldl dispose gone
    lookOver (pollEnded c { disposed with bus :=
      { disposed.bus with returning := s.bus.returning.filter (fun d => d != c) } })
  (∀ (s : State) (x : Exchange) (c : Col), opColumn x.op = some c → s.bus.overflow = [] →
    (isProbe x.op = false → s.bus.columns[c].state = .present ∨ s.bus.columns[c].state = .asleep →
      noAnswerFailure x s = lost c [x.op] s) ∧
    (isProbe x.op = false → s.bus.columns[c].state = .unknown ∨ s.bus.columns[c].state = .absent →
      noAnswerFailure x s = lookOver (dispose s x.op)) ∧
    ∀ en, x.op = .probe c en →
      let absent := modColumn c (fun e => { e with state := .absent }) s
      (s.bus.columns[c].state = .absent → noAnswerFailure x s = probeOver c en s) ∧
      (s.bus.columns[c].state = .unknown → noAnswerFailure x s = probeOver c en
        (if ∃ n : CompNo, columnOf n s = some c then count .absences (raise (.column (addressByte c) .absent) absent)
          else absent)) ∧
      (s.bus.columns[c].state = .present ∨ s.bus.columns[c].state = .asleep →
        noAnswerFailure x s = probeOver c en (lost c [] s))) ∧
  (∀ (s : State) (x : Exchange) (c : Col),
    (x.op = .poll c → busyFailure x s = pollEnded c s) ∧
    (∀ en, x.op = .probe c en → busyFailure x s = probeOver c en s) ∧
    (∀ kind message tag o, x.op = .relay c kind message tag o → busyFailure x s = filled tag o [0x0C, 0x03] s) ∧
    (∀ n, x.op = .traceRead n c → s.comps[n].state ≠ .unfitted →
      (s.doors.records[n].readFailed = false → busyFailure x s =
        enqueueOp (.traceRead n c) (modDoor n (fun d => { d with readFailed := true }) s)) ∧
      (s.doors.records[n].readFailed = true → s.doors.records[n].traceStep = .queued →
        s.comps[n].phase = .awaitOpen → compGood n s = true →
        busyFailure x s = traceAction n .boltStuck (modDoor n (fun d => { d with traceStep := .none }) s))) ∧
    (∀ n pos length, x.op = .pulse n c pos length → compGood n s = true →
      (isCommitted n s = true → isWaiting n s = false → busyFailure x s = lookOver
        (modComp n (fun k => { k with attempts := if k.attempts = 0 then 1 else 2 }) (takeBack n s))) ∧
      (isCommitted n s = false ∨ isWaiting n s = true → busyFailure x s = lookOver (takeBack n s)))) ∧
  ∀ (s : State) (n : CompNo),
    let left := s.arbiter.committed.filter (fun g => g.comp != n)
    (isCommitted n s = false → takeBack n s = s) ∧
    (isCommitted n s = true → isWaiting n s = true →
      takeBack n s = { s with arbiter := { s.arbiter with committed := left } }) ∧
    ∀ (before after : List Committed) (g : Committed) (older younger : List GrantRequest),
      s.arbiter.committed = before ++ g :: after → g.comp = n → (∀ h ∈ before, h.comp ≠ n) → isWaiting n s = false →
      s.arbiter.waiting = older ++ younger → (∀ r ∈ older, r.age ≤ g.age) → (∀ r ∈ younger, g.age < r.age) →
      takeBack n s = { s with arbiter :=
        { s.arbiter with
          committed := left
          waiting := older ++ { comp := n, col := g.col, cls := g.cls, age := g.age } :: younger } }

/-- The bus goes to the oldest queued broadcast; else, with an operation between two attempts, to that operation when its
wait is over and to nothing before; else to the oldest of the highest kind, PULSE, TRACE_READ, RELAY, POLL, PROBE, among
the operations that can be placed: a PROBE always, another while its column is PRESENT. With none of these it stays free
(R132). -/
def Obligations.FreeBusChoosesByKind : Prop :=
  ∀ s : State, s.bus.use = .free → s.bus.overflow = [] →
    let placed := fun (op : Op) => match op with
      | .probe _ _ => True
      | .pulse _ c _ _ | .traceRead _ c | .relay c _ _ _ _ | .poll c => s.bus.columns[c].state = .present
      | .broadcast _ => False
    let rank := fun (op : Op) => match op with
      | .broadcast _ => 0
      | .pulse _ _ _ _ => 1
      | .traceRead _ _ => 2
      | .relay _ _ _ _ _ => 3
      | .poll _ => 4
      | .probe _ _ => 5
    (∀ before b after, s.bus.queue = before ++ .broadcast b :: after → (∀ o ∈ before, ∀ d, o ≠ .broadcast d) →
      chooseBus s = { s with bus := { s.bus with use := .sending b, queue := before ++ after } }) ∧
    ((∀ o ∈ s.bus.queue, ∀ d, o ≠ .broadcast d) →
      (∀ r, s.bus.retry = some r → r.wait = .ready →
        chooseBus s = { s with bus := { s.bus with use := .attempt r.exchange, retry := none } }) ∧
      (∀ r, s.bus.retry = some r → r.wait ≠ .ready → chooseBus s = s) ∧
      (s.bus.retry = none → (∀ o ∈ s.bus.queue, ¬ placed o) → chooseBus s = s) ∧
      (∀ before op after, s.bus.retry = none → s.bus.queue = before ++ op :: after → placed op →
        (∀ o ∈ before, placed o → rank op < rank o) → (∀ o ∈ after, placed o → rank op ≤ rank o) →
        chooseBus s = { s with bus :=
          { s.bus with
            use := .attempt { op := op, busy := 0, silence := 0, woke := false, recalled := false }
            queue := before ++ after } }))

/-- The ends of the broadcasts and of the wake settle interval. HOLD_ALL frees the bus and ends every pulse in flight:
its compartment leaves the committed set, its door record tells CUT, a trace read that waited for the end joins the
queue, and the arbiter looks over its list; SLEEP_ALL, with no RELAY queued, makes every PRESENT column ASLEEP with
its first-poll marker set and clears the poll-due markers; WAKE_ALL starts the settle interval; at its end every
ASLEEP column is PRESENT and every PRESENT column is marked for the wake round (R133, R145, R151, R158, R166, R211).
The model's choices: assumption log 11, 12, 15, 55, 61. -/
def Obligations.BroadcastsTakeEffectWhenSent : Prop :=
  ∀ s : State, running s = true →
    let free := { s with bus := { s.bus with use := .free } }
    (s.bus.use = .sending .holdAll →
      let flying := s.arbiter.committed.filterMap (fun g => match g.stage with
        | .inFlight _ => some g.comp
        | .sent => none)
      let cut := fun (x : State) (n : CompNo) =>
        let left := { x with arbiter := { x.arbiter with committed := x.arbiter.committed.filter (fun g => g.comp != n) } }
        let told := modDoor n (fun d => { d with pulseEnd := .cut }) left
        match x.comps[n].place with
        | some p =>
          if x.comps[n].state ≠ .unfitted ∧ x.doors.records[n].traceStep = .atPulseEnd ∧ x.comps[n].phase = .awaitOpen ∧
              x.bus.columns[p.col].state = .present ∧ x.doors.firstPoll[p.col] = false then
            enqueueOp (.traceRead n p.col) (modDoor n (fun d => { d with traceStep := .queued }) told)
          else told
        | none => told
      exec .holdAllSent s = .next (conclude (lookOver (flying.foldl cut free)))) ∧
    (s.bus.use = .sending .sleepAll → (∀ o ∈ s.bus.queue ++ s.bus.overflow, isRelay o = false) →
      s.bus.overflow = [] →
      exec .sleepAllSent s = .next (conclude { free with
        bus := { free.bus with
          returning := []
          columns := s.bus.columns.map (fun e =>
            { e with pollDue := false, state := if e.state = .present then .asleep else e.state }) }
        doors := { s.doors with
          firstPoll := Vector.ofFn (fun c : Col => s.doors.firstPoll[c] || s.bus.columns[c].state == .present) } })) ∧
    (s.bus.use = .sending .wakeAll → exec .wakeAllSent s =
      .next (conclude { free with dormancy := { s.dormancy with settling := some s.mgmt.config.wakeSettle } })) ∧
    (s.dormancy.settling.isSome = true → exec .wakeSettleEnd s = .next (conclude (lookOver
      { s with
        bus := { s.bus with columns := s.bus.columns.map (fun e =>
          if e.state = .asleep ∨ e.state = .present then { e with state := .present, pollDue := true } else e) }
        dormancy := { s.dormancy with
          settling := none
          wakeRound := some ((List.finRange 12).filter (fun c =>
            s.bus.columns[c].state == .asleep || s.bus.columns[c].state == .present)) } })))

/-- A look of the arbiter grants one request after another until none can be: with no hold, no guard running, fewer
pulses committed than the budget, none of them on its column or of its compartment, and that column PRESENT. It takes
the highest class first, COLLECT, DEPOSIT, SWEEP, MAINT, and in it the oldest: the request leaves the list, its
compartment is committed as sent, and a PULSE with the position and the configured length joins the operation queue. A
request of a compartment that does not wait joins the list's tail with the next age and the arbiter looks. PULSE_END of
a pulse in flight takes the compartment out of the committed set, tells the door supervisor ELAPSED, which keeps an
UNFITTED one's record stopped and queues a trace read that waited for it, and the arbiter looks; RESTART_GUARD_ELAPSED
ends a running guard with a look; otherwise nothing happens (R139 to R142, R145, R147, R148, R151, R157, R158). The
model's choices: assumption log 5, 12, 30, 50, 55. -/
def Obligations.ArbiterGrantsByClassAndAge : Prop :=
  (∀ s : State,
    let open_ := fun (r : GrantRequest) =>
      s.arbiter.holdActive = false ∧ s.arbiter.guard = none ∧ s.arbiter.committed.length < s.mgmt.config.pulseBudget ∧
        (∀ g ∈ s.arbiter.committed, g.col ≠ r.col ∧ g.comp ≠ r.comp) ∧ s.bus.columns[r.col].state = .present
    let rank := fun (r : GrantRequest) => match r.cls with
      | .collect => 0
      | .deposit => 1
      | .sweep => 2
      | .maint => 3
    ((∀ r ∈ s.arbiter.waiting, ¬ open_ r) → lookOver s = s) ∧
    ∀ before r after, s.arbiter.waiting = before ++ r :: after → open_ r →
      (∀ q ∈ before, open_ q → rank r < rank q) → (∀ q ∈ after, open_ q → rank r ≤ rank q) →
      let granted := { s with arbiter :=
        { s.arbiter with
          waiting := s.arbiter.waiting.filter (fun q => q.comp != r.comp)
          committed := s.arbiter.committed ++
            [{ comp := r.comp, col := r.col, cls := r.cls, age := r.age, stage := .sent }] } }
      lookOver s = lookOver (enqueueOp
        (.pulse r.comp r.col ((s.comps[r.comp].place.map MapPlace.pos).getD 0) s.mgmt.config.pulseLength) granted)) ∧
  (∀ (s : State) (op : Op),
    (s.bus.queue.length < 16 → enqueueOp op s = { s with bus := { s.bus with queue := s.bus.queue ++ [op] } }) ∧
    (s.bus.queue.length = 16 → (∀ o ∈ s.bus.queue, isRelay o = false) →
      enqueueOp op s = { s with bus := { s.bus with overflow := s.bus.overflow ++ [op] } }) ∧
    ∀ before after c kind message tag o, s.bus.queue.length = 16 →
      s.bus.queue = before ++ .relay c kind message tag o :: after → (∀ q ∈ after, isRelay q = false) →
      enqueueOp op s = filled tag o [0x0C, 0x03] { s with bus := { s.bus with queue := before ++ after ++ [op] } }) ∧
  (∀ (s : State) (n : CompNo) (cls : GrantClass),
    (isWaiting n s = true → requestGrant n cls s = s) ∧
    (isWaiting n s = false → requestGrant n cls s = match columnOf n s with
      | some c => lookOver { s with arbiter := { s.arbiter with
          waiting := s.arbiter.waiting ++ [{ comp := n, col := c, cls := cls, age := s.arbiter.nextAge }]
          nextAge := s.arbiter.nextAge + 1 } }
      | none => s)) ∧
  ∀ s : State, running s = true →
    (∀ n g length, g ∈ s.arbiter.committed → g.comp = n → g.stage = .inFlight length →
      let ended := modDoor n (fun d => { d with pulseEnd := .elapsed }) { s with arbiter := { s.arbiter with
        committed := s.arbiter.committed.filter (fun g => g.comp != n) } }
      exec (.pulseEnd n) s = .next (conclude (lookOver
        (match s.comps[n].place with
          | some p =>
            if s.comps[n].state ≠ .unfitted ∧ s.doors.records[n].traceStep = .atPulseEnd ∧
                s.comps[n].phase = .awaitOpen ∧ s.bus.columns[p.col].state = .present ∧ s.doors.firstPoll[p.col] = false then
              enqueueOp (.traceRead n p.col) (modDoor n (fun d => { d with traceStep := .queued }) ended)
            else ended
          | none => ended)))) ∧
    (∀ n, (∀ g ∈ s.arbiter.committed, g.comp = n → g.stage = .sent) → exec (.pulseEnd n) s = .next (conclude s)) ∧
    (s.arbiter.guard.isSome = true → exec .restartGuardElapsed s =
      .next (conclude (lookOver { s with arbiter := { s.arbiter with guard := none } }))) ∧
    (s.arbiter.guard = none → exec .restartGuardElapsed s = .next (conclude s))

/-- The door timers at their ends, on a column PRESENT and polled since. A confirm timer in AWAIT_OPEN: a TRACE_READ
joins the queue when the pulse has ended, and waits for its end otherwise. An open limit, with no retry asked and no
trace owed: the deposit, the release or the swept record ends as not opened. An ajar timer at 0: DOOR_AJAR with the open
seconds, counted, and the timer starts anew; with time left it does nothing. On a column that is away, none of them acts.
The compartment's entry passes its check (R57, R97, R115, R158, R159, R165, R166). The model's choices: assumption log 5,
12, 21. -/
def Obligations.DoorTimersActAtTheirEnds : Prop :=
  ∀ (s : State) (n : CompNo) (c : Col), running s = true → columnOf n s = some c →
    let d := s.doors.records[n]
    let runs := s.bus.columns[c].state = .present ∧ s.doors.firstPoll[c] = false
    (runs → d.confirm.isSome = true → s.comps[n].phase = .awaitOpen → d.pulseEnd ≠ .none →
      exec (.confirmExpiry n) s = .next (conclude (enqueueOp (.traceRead n c)
        (modDoor n (fun d => { d with confirm := none, traceStep := .queued }) s)))) ∧
    (runs → d.confirm.isSome = true → s.comps[n].phase = .awaitOpen → d.pulseEnd = .none →
      exec (.confirmExpiry n) s =
        .next (conclude (modDoor n (fun d => { d with confirm := none, traceStep := .atPulseEnd }) s))) ∧
    (∀ k, runs → d.openLimit.isSome = true → s.comps[n].phase = .awaitOpen → isWaiting n s = false →
      isSent n s = false → d.traceStep = .none → s.comps[n].link = some k → compGood n s = true →
      let stopped := modDoor n (fun d => { d with openLimit := none }) s
      (s.comps[n].state = .loading →
        exec (.openLimitExpiry n) s = .next (conclude (depositBack n k .notOpened stopped))) ∧
      (s.comps[n].state = .releasing →
        exec (.openLimitExpiry n) s = .next (conclude (collectionUntaken n k .notOpened stopped))) ∧
      (s.comps[n].state = .sweeping →
        exec (.openLimitExpiry n) s = .next (conclude (sweepKept n k stopped)))) ∧
    (runs → d.ajar = some 0 →
      exec (.ajarExpiry n) s = .next (conclude (modDoor n (fun d => { d with ajar := some s.mgmt.config.ajar })
        (count .ajar (raise (.doorAjar (compByte n) d.openSeconds) s))))) ∧
    (d.ajar ≠ some 0 → exec (.ajarExpiry n) s = .next (conclude s)) ∧
    (¬ runs → exec (.confirmExpiry n) s = .next (conclude s) ∧ exec (.openLimitExpiry n) s = .next (conclude s) ∧
      exec (.ajarExpiry n) s = .next (conclude s))

/-- SCRUB_VISIT with the scrubber enabled: the cursor passes to the next entry, after the last to the first, and an
entry that passes its check stays as it is; disabled, no visit is made. IDLE_EXPIRY of a quiet AWAKE bank with an idle
time, its timer at 0, queues a SLEEP_ALL and makes it DORMANT; else, a configured idle time of 0 among the cases, it does
nothing (R191, R209, R210). The model's choices: assumption log 5, 12, 21. -/
def Obligations.ScrubberAndIdleTimer : Prop :=
  ∀ s : State, running s = true →
    (s.mgmt.config.scrubber = true → TablesGood s →
      exec .scrubVisit s = .next (conclude { s with checker :=
        { s.checker with
          cursor := ⟨(s.checker.cursor.val + 1) % 1136, Nat.mod_lt _ (by decide)⟩, timer := 100 } })) ∧
    (s.mgmt.config.scrubber = false → exec .scrubVisit s = .next (conclude s)) ∧
    (s.dormancy.state = .awake → isQuiet s = true → 0 < s.mgmt.config.idle → s.dormancy.idle = 0 →
      exec .idleExpiry s = .next (conclude (enqueueBroadcast .sleepAll
        { s with dormancy := { s.dormancy with state := .dormant } }))) ∧
    (s.dormancy.state ≠ .awake ∨ isQuiet s = false ∨ s.mgmt.config.idle = 0 ∨ s.dormancy.idle ≠ 0 →
      exec .idleExpiry s = .next (conclude s))

/-! ### Ends of jobs, poll answers, and check failures (chapters 1, 3, 5, 6, 8 and 10) -/

/-- How jobs end. A cause bar makes a compartment BARRED with the cause, out of its list, phase NONE, attempts 0,
pending bar clear, its waiting request withdrawn, and ends the maintenance loop; on a BARRED one only INTEGRITY
replaces the cause; an UNFITTED one stays. The engine of a job under way is told. A deposit: EMPTY, or not opened,
frees the compartment and returns the record to ADVISED; FILLED or UNCERTAIN fills it and stores or queues the record;
a lock fault bars and frees it; a bar advises the record, or, in phase OPEN, keeps the parcel as suspect. A release:
EMPTY retires the record, UNCERTAIN behind a bar SENSOR; FILLED, or not opened, makes it UNTAKEN on the re-open list at
the full window, and with a window of 0 the window ends at once and the record, off the list, returns to STORED with
its settled payment credited; a lock fault strands it; a bar returns it to STORED with its settled payment credited. A
swept record: EMPTY or UNCERTAIN retires it, taken; FILLED or not opened returns it to its place, skipped; a lock fault
or a bar, failed. The notices are as the tables give them (R12, R15, R56 to R59, R80, R93, R95 to R99, R114 to R116).
The model's choices: assumption log 28, 32, 48. -/
def Obligations.JobsEndByCloseLimitFaultAndBar : Prop :=
  let filled_ := fun (n : CompNo) (suspect : Bool) (x : State) => stopJobTimers n (modComp n (fun c =>
    { c with state := .loaded, phase := .none, attempts := 0, suspect := c.suspect || suspect }) x)
  let barred := fun (n : CompNo) (cause : BarCause) (x : State) =>
    stopJobTimers n (modComp n (fun c =>
      { c with state := .barred, cause := some cause, phase := .none, attempts := 0, pendingBar := false })
      (withdraw n (leaveFree n x)))
  let queued := fun (k : Slot) (x : State) => { x with returns :=
    { x.returns with queue := if k ∈ x.returns.queue then x.returns.queue else x.returns.queue ++ [k] } }
  (∀ (s : State) (n : CompNo) (cause : BarCause),
    (s.comps[n].state = .unfitted → causeBar n cause s = s) ∧
    (∀ old, s.comps[n].state = .barred → s.comps[n].cause = some old →
      causeBar n cause s = barred n (if cause = .integrity then cause else old) s) ∧
    (s.comps[n].state = .vacant ∨ s.comps[n].state = .loaded → causeBar n cause s = barred n cause s) ∧
    (s.comps[n].state = .maint → causeBar n cause s = { barred n cause s with maintSlot := none }) ∧
    (isJob s.comps[n].state = true → causeBar n cause s = tellEngine n s.comps[n] (barred n cause s))) ∧
  (∀ (s : State) (k : Slot) (p : Parcel) (credit : Amount), parcelAt k s = some p →
    let q := { p with prepaid := p.prepaid + credit, tendered := 0, change := 0, quote := none }
    returnToStored k credit s =
      if isExpired k p s.time.minute s then
        raise (.ret p.ref .queued) (queued k (setParcel k { q with state := .returnQueued } s))
      else setParcel k { q with state := .stored } s) ∧
  ∀ (s : State) (n : CompNo) (k : Slot) (p : Parcel), parcelAt k s = some p → parcelGood k s = true →
    p.comp = some n → s.comps[n].link = some k →
    let fault := fun (cls : TraceClass) (x : State) => raise (.lockFault (compByte n) cls p.ref) x
    let faulted := barred n .lockFault (count .lockFaults s)
    (p.state = .depositing →
      let over_ := fun (x : State) => endJobsOn k { x with deposit := { x.deposit with
        markers := x.deposit.markers.map (fun m : Option DepositMarker => if m.any (fun m => m.slot == k) then none else m) } }
      let advised := setParcel k { p with state := .advised, comp := none, arrival := none }
      let kept := fun (suspect : Bool) (minute : Minute) => setParcel k { p with
        state := match p.kind with
          | .delivery => .stored
          | .ret => .returnQueued
        arrival := some minute, suspect := p.suspect || suspect }
      let noticed := fun (suspect : Bool) (minute : Minute) (x : State) => match p.kind with
        | .delivery => raiseMarked (.deposit p.ref (compByte n) .stored (some minute)) false suspect x
        | .ret => raiseMarked (.ret p.ref .queued) false suspect (queued k x)
      (∀ outcome, depositBack n k outcome s =
        over_ (raise (.deposit p.ref (compByte n) outcome none) (advised (free n s)))) ∧
      (∀ minute, depositClose n k .empty minute s = depositBack n k .abandoned s) ∧
      (isJob s.comps[n].state = true → ∀ minute,
        depositClose n k .filled minute s = over_ (noticed false minute (kept false minute (filled_ n false s))) ∧
        depositClose n k .uncertain minute s = over_ (noticed true minute (kept true minute (filled_ n true s)))) ∧
      (s.comps[n].state = .held ∨ s.comps[n].state = .loading → ∀ cls, lockFault n cls s =
        over_ (raise (.deposit p.ref (compByte n) .lockFault none) (fault cls (advised (free n faulted))))) ∧
      ∀ before : Compartment, before.state = .held ∨ before.state = .loading →
        (before.phase ≠ .opened → tellEngine n before s =
          over_ (raise (.deposit p.ref (compByte n) .barred none) (advised (free n s)))) ∧
        (before.phase = .opened → tellEngine n before s =
          let told := raise (.deposit p.ref (compByte n) .barred (some s.time.minute)) (kept true s.time.minute s)
          over_ (match p.kind with
            | .delivery => told
            | .ret => raise (.ret p.ref .queued) (queued k told)))) ∧
    (p.state = .releasing →
      let over_ := fun (x : State) => endJobsOn k { x with collection := { x.collection with
        contexts := x.collection.contexts.map (fun c => match c with
          | .none | .void _ => c
          | .quoting j | .due j _ _ | .releasing j _ => if j = k then .none else c) } }
      let reopens := fun (x : State) => { x with collection := { x.collection with
        reopen := x.collection.reopen.filter (fun e => e.slot != k) ++ [{ slot := k, left := x.mgmt.config.reopen }] } }
      let leaves := fun (x : State) => { x with collection := { x.collection with
        reopen := x.collection.reopen.filter (fun e => e.slot != k) } }
      let untaken := fun (outcome : CollectOutcome) => over_
        (raise (.collected p.ref (compByte n) outcome) (setParcel k { p with state := .untaken } (filled_ n false s)))
      (isJob s.comps[n].state = true → s.mgmt.config.reopen ≠ 0 →
        (∀ outcome, collectionUntaken n k outcome s = reopens (untaken outcome)) ∧
        collectionClose n k .filled s = reopens (untaken .untaken)) ∧
      (isJob s.comps[n].state = true → s.mgmt.config.reopen = 0 →
        (∀ outcome, collectionUntaken n k outcome s =
          returnToStored k (p.tendered - p.change) (leaves (untaken outcome))) ∧
        collectionClose n k .filled s = returnToStored k (p.tendered - p.change) (leaves (untaken .untaken))) ∧
      collectionClose n k .empty s = retireRecord k (over_ (raise (.collected p.ref (compByte n) .taken) s)) ∧
      (isJob s.comps[n].state = true → collectionClose n k .uncertain s =
        retireRecord k (over_ (barred n .sensor (raiseMarked (.collected p.ref (compByte n) .taken) false true s)))) ∧
      (s.comps[n].state = .releasing → ∀ cls, lockFault n cls s =
        over_ (raise (.collected p.ref (compByte n) .lockFault)
          (fault cls (setParcel k { p with state := .stranded } faulted)))) ∧
      ∀ before : Compartment, before.state = .releasing → tellEngine n before s =
        over_ (raise (.collected p.ref (compByte n) .barred) (returnToStored k (p.tendered - p.change) s))) ∧
    (p.state = .sweeping →
      let resolved := fun (counted : Sweep → Sweep) (x : State) => match x.returns.sweep with
        | some w =>
          if w.current = some k then
            restartInactivity w.terminal { x with returns :=
              { x.returns with sweep := some { counted w with current := none } } }
          else x
        | none => x
      let taken := resolved (fun w => { w with taken := satInc w.taken })
      let skipped := resolved (fun w => { w with skipped := satInc w.skipped })
      let failed := resolved (fun w => { w with failed := satInc w.failed })
      let back := setParcel k { p with state := .returnQueued }
      (isJob s.comps[n].state = true →
        sweepKept n k s = skipped (back (filled_ n false s)) ∧ sweepClose n k .filled s = sweepKept n k s) ∧
      sweepClose n k .empty s = taken (retireRecord k (raise (.ret p.ref .swept) s)) ∧
      (isJob s.comps[n].state = true → sweepClose n k .uncertain s =
        taken (retireRecord k (barred n .sensor (raiseMarked (.ret p.ref .swept) false true s)))) ∧
      (s.comps[n].state = .sweeping → ∀ cls, lockFault n cls s = failed (fault cls (back faulted))) ∧
      ∀ before : Compartment, before.state = .sweeping → tellEngine n before s = failed (back s))

/-- A POLL accepted on a PRESENT column: its first-poll marker is cleared, every fitted compartment mapped to it below
its count is judged with the reading of its position, as it stands at the poll, the openings of all before their
closes; at the first good poll a trace read owed in AWAIT_OPEN joins the queue; the poll then ends. The first part of
a judgement: the sensed values are written; the ajar timer starts at a door read open, and stops at one read closed.
OPENED, or CLOSED from a door sensed open, in AWAIT_GRANT or AWAIT_OPEN is the expected opening: phase OPEN, HELD
LOADING, confirm timer, open limit and trace step stopped, the waiting request withdrawn. OPENED in phase NONE is
tamper: a LOADED compartment takes a cause bar TAMPER, a VACANT one leaves its list; on any other nothing. A resumed
compartment, or one with a held close, is left OPEN by a door read open, its mark or its held close gone. Entries pass
their checks (R11, R61, R100, R121, R135, R152 to R155, R164, R165, R167, R168). The model's choices: assumption log
12, 15, 18, 46. -/
def Obligations.PollIsJudgedDoorByDoor : Prop :=
  (∀ (s : State) (x : Exchange) (c : Col) (readings : List PositionReading), running s = true →
    s.bus.use = .attempt x → x.op = .poll c →
    let free := { s with bus := { s.bus with use := .free } }
    let pollEnded := fun (y : State) =>
      let z := modColumn c (fun e => { e with pollDue := false }) y
      { z with dormancy := { z.dormancy with
          wakeRound := z.dormancy.wakeRound.map (fun l => l.filter (fun d => d != c)) } }
    let read := fun (n : CompNo) (r : PositionReading) =>
      ({ comp := n, reading := r, before := s.comps[n].door
         how := if s.deposit.resumed[n] = true ∧ isJob s.comps[n].state = true then .resumption
           else match s.doors.records[n].heldClose with
             | some h => .held h
             | none => .events } : PolledDoor)
    let polled : List PolledDoor := (List.finRange 240).filterMap (fun n =>
      match s.comps[n].place with
      | some p =>
        if s.comps[n].state ≠ .unfitted ∧ p.col = c ∧ p.pos.val < s.bus.columns[c].count.val then
          readings[p.pos.val]?.map (read n)
        else none
      | none => none)
    let judged := polled.foldl (takeClosing s.time.minute)
      (polled.foldl takeOpening { free with doors := { s.doors with firstPoll := s.doors.firstPoll.set c.val false c.isLt } })
    let requeued := (List.finRange 240).foldl (fun (y : State) n =>
      if columnOf n y = some c ∧ y.doors.records[n].traceStep = .atPulseEnd ∧ y.doors.records[n].pulseEnd ≠ .none ∧
          y.comps[n].phase = .awaitOpen then
        enqueueOp (.traceRead n c) (modDoor n (fun d => { d with traceStep := .queued }) y)
      else y) judged
    (TablesGood s → s.bus.columns[c].state = .present →
      exec (.pollAccept (addressByte c) readings) s =
        .next (conclude (pollEnded (if s.doors.firstPoll[c] then requeued else judged)))) ∧
    (s.bus.columns[c].state ≠ .present →
      exec (.pollAccept (addressByte c) readings) s = .next (conclude (pollEnded free)))) ∧
  ∀ (s : State) (x : PolledDoor),
    let n := x.comp
    let r := x.reading
    let sensed := modDoor n (fun d =>
        if r.door = .opened then
          { d with ajar := some (d.ajar.getD s.mgmt.config.ajar), openSeconds := if d.ajar = none then 0 else d.openSeconds }
        else { d with ajar := none, openSeconds := 0 })
      (modComp n (fun c => { c with door := r.door, occ := r.occupancy }) s)
    let opens := x.before = .closed ∧ (r.door = .opened ∨ r.latched = true)
    let closes := x.before = .opened ∧ r.door = .closed
    let tamper := fun (kind : TamperKind) (y : State) => count .tampers (raise (.tamper (compByte n) kind) y)
    (x.how = .events →
      (opens ∨ closes → s.comps[n].phase = .awaitGrant ∨ s.comps[n].phase = .awaitOpen → takeOpening s x =
        withdraw n (modDoor n (fun d => { d with confirm := none, openLimit := none, traceStep := .none })
          (modComp n (fun c => { c with phase := .opened, state := if c.state = .held then .loading else c.state })
            sensed))) ∧
      (opens → s.comps[n].phase = .none →
        (s.comps[n].state = .loaded → takeOpening s x = tamper .loadedOpened (causeBar n .tamper sensed)) ∧
        (s.comps[n].state = .vacant → takeOpening s x = tamper .vacantOpened (leaveFree n sensed)) ∧
        (s.comps[n].state ≠ .loaded → s.comps[n].state ≠ .vacant → takeOpening s x = sensed)) ∧
      ((¬ opens ∧ ¬ closes) ∨ s.comps[n].phase = .opened ∨ (closes ∧ s.comps[n].phase = .none) →
        takeOpening s x = sensed)) ∧
    (x.how = .resumption →
      (r.door = .opened → takeOpening s x = modComp n (fun c => { c with phase := .opened }) { sensed with deposit :=
        { s.deposit with resumed := s.deposit.resumed.set n.val false n.isLt } }) ∧
      (r.door = .closed → takeOpening s x = sensed)) ∧
    ∀ h, x.how = .held h →
      (r.door = .opened → takeOpening s x = modDoor n (fun d => { d with heldClose := none }) sensed) ∧
      (r.door = .closed → takeOpening s x = sensed)

/-- The second part of a judgement: a door read closed. CLOSED, or OPENED then CLOSED, in phase OPEN is a close; a
VACANT compartment joins its list. A close of MAINT returns it to phase NONE; one read EMPTY or FILLED is handed, with
the station minute, to the engine of the job: deposit, collection or sweep; one read UNCERTAIN is held with its minute
and no re-polls. A later poll of a held close: a definite reading is handed over with the minute held; UNCERTAIN
raises the re-polls, and the third is handed over UNCERTAIN; the latch drops the held close and takes a new one. A
resumed compartment read closed is no longer marked: with an event, in phase OPEN, or LOADING, it is a close; else
RELEASING asks again for a grant in class COLLECT, and SWEEPING is filled with its record back in its place. Behind
each a driver fault in AWAIT_OPEN ends a running confirm timer, with the effects of its expiry (R61, R100, R121, R153,
R155, R156, R164, R168). The model's choices: assumption log 18, 31, 46. -/
def Obligations.ClosesAndRepollsFollowTheirTables : Prop :=
  ∀ (s : State) (minute : Minute) (x : PolledDoor),
    let n := x.comp
    let r := x.reading
    let dropped := fun (y : State) => modDoor n (fun d => { d with heldClose := none }) y
    let handed := fun (occ : Occupancy) (at_ : Minute) (y : State) => match y.comps[n].link with
      | none => dropped y
      | some k => match y.comps[n].state with
        | .held | .loading => depositClose n k occ at_ (dropped y)
        | .releasing => collectionClose n k occ (dropped y)
        | .sweeping => sweepClose n k occ (dropped y)
        | _ => dropped y
    let closed := fun (y : State) =>
      if y.comps[n].state = .maint then stopJobTimers n (modComp n (fun c => { c with phase := .none }) y)
      else if r.occupancy = .uncertain then
        modDoor n (fun d => { d with heldClose := some { minute := minute, repolls := 0 } }) y
      else handed r.occupancy minute y
    let repolled := fun (h : HeldClose) => modDoor n (fun d => { d with heldClose := some h }) s
    let closes := r.door = .closed ∧ (x.before = .opened ∨ r.latched = true)
    (x.how = .events →
      (closes → s.comps[n].phase = .opened → closingAtPoll minute x s = closed s) ∧
      (closes → s.comps[n].phase = .none → closingAtPoll minute x s = joinFree n s) ∧
      (¬ closes → closingAtPoll minute x s = s)) ∧
    (∀ h, x.how = .held h → r.door = .closed →
      (r.latched = true → closingAtPoll minute x s = closed (dropped s)) ∧
      (r.latched = false → r.occupancy ≠ .uncertain → closingAtPoll minute x s = handed r.occupancy h.minute s) ∧
      (r.latched = false → r.occupancy = .uncertain →
        (h.repolls = 0 → closingAtPoll minute x s = repolled { h with repolls := 1 }) ∧
        (h.repolls = 1 → closingAtPoll minute x s = repolled { h with repolls := 2 }) ∧
        (h.repolls = 2 → closingAtPoll minute x s = handed .uncertain h.minute s))) ∧
    (x.how = .resumption → r.door = .closed →
      let unmarked := { s with deposit := { s.deposit with resumed := s.deposit.resumed.set n.val false n.isLt } }
      let closes := x.before = .opened ∨ r.latched = true ∨ s.comps[n].phase = .opened ∨ s.comps[n].state = .loading
      (closes → closingAtPoll minute x s = closed (modComp n (fun c => { c with phase := .opened }) unmarked)) ∧
      (¬ closes → s.comps[n].state = .releasing → closingAtPoll minute x s =
        requestGrant n .collect (modComp n (fun c => { c with phase := .awaitGrant }) unmarked)) ∧
      (¬ closes → s.comps[n].state = .sweeping → ∀ k, s.comps[n].link = some k →
        closingAtPoll minute x s = sweepKept n k unmarked)) ∧
    (x.how ≠ .events → r.door = .opened → closingAtPoll minute x s = s) ∧
    let t := closingAtPoll minute x s
    let ends := ∃ c, t.comps[n].phase = .awaitOpen ∧ t.doors.records[n].confirm.isSome = true ∧ columnOf n t = some c ∧
      t.bus.columns[c].state = .present ∧ t.doors.firstPoll[c] = false
    let expired := fun (step : TraceStep) => modDoor n (fun d => { d with confirm := none, traceStep := step }) t
    (r.driverFault = true → ends →
      (t.doors.records[n].pulseEnd = .none → takeClosing minute s x = expired .atPulseEnd) ∧
      (t.doors.records[n].pulseEnd ≠ .none → ∀ c, columnOf n t = some c →
        takeClosing minute s x = enqueueOp (.traceRead n c) (expired .queued))) ∧
    (r.driverFault = false ∨ ¬ ends → takeClosing minute s x = t)

/-- Check failures, as the scrubber meets them at its cursor. A damaged record: its compartment field becomes the
compartment whose link names the slot; QUARANTINED; that compartment takes a cause bar INTEGRITY with no engine told;
the slot leaves the return queue; a deposit under way raises DEPOSIT(INTEGRITY) and its marker empties; its
computation entries go, their COLLECTs refused INTEGRITY; its quote contexts are VOID; it leaves the re-open list; the
sweep's current record resolves as failed; its open jobs end. A damaged compartment: out of every list, its link the
live record that names it, BARRED(INTEGRITY), and the engine of its job told; an UNFITTED one stays so without link,
its door record stopped. A damaged credential: its way is freed, and, when COURIER, each courier whose number no entry
carries any more is signed off, with an open job at its end. Each failure is counted, raises INTEGRITY and sets the
global integrity flag (R59, R77, R99, R116, R151, R190 to R195). That the record goes on naming an UNFITTED compartment
whose link is gone (assumption log 52), and that a credential is judged by the kind the damaged entry reads (assumption log
53), is the model's choice. The model's choices: assumption log 12, 21, 36, 48, 52, 53, 63. -/
def Obligations.FailedEntriesAreTaken : Prop :=
  let reported := fun (t : CheckedTable) (index : Nat) (x : State) =>
    let y := count .integrity (raise (.integrity t (BitVec.ofNat 16 index)) x)
    { y with checker := { y.checker with flag := true } }
  let barred := fun (n : CompNo) (x : State) =>
    let y := stopJobTimers n (modComp n (fun c =>
      { c with state := .barred, cause := some .integrity, phase := .none, attempts := 0, pendingBar := false })
      (withdraw n (leaveFree n x)))
    if x.comps[n].state = .maint then { y with maintSlot := none } else y
  let visited := fun (s y : State) => exec .scrubVisit s = .next (conclude { y with checker :=
    { y.checker with cursor := ⟨(s.checker.cursor.val + 1) % 1136, Nat.mod_lt _ (by decide)⟩, timer := 100 } })
  (∀ (s : State) (k : Slot) (p : Parcel) (found : Option CompNo), running s = true →
    s.mgmt.config.scrubber = true → s.checker.cursor.val = 240 + k.val → parcelAt k s = some p →
    parcelGood k s = false →
    (∀ n, found = some n → s.comps[n].link = some k ∧ (∀ m, m < n → s.comps[m].link ≠ some k) ∧ compGood n s = true ∧
      s.comps[n].state ≠ .unfitted) →
    (found = none → ∀ n : CompNo, s.comps[n].link ≠ some k) →
    ∀ deposit : Option CompNo,
    let marked := fun (n : CompNo) => ∃ t : Term, s.deposit.markers[t] = some { slot := k, comp := n }
    let resumed := fun (n : CompNo) =>
      found = some n ∧ (s.comps[n].state = .held ∨ s.comps[n].state = .loading)
    (∀ n, deposit = some n → (∀ m, marked m → m = n) ∧ (marked n ∨ resumed n)) →
    (deposit = none → ∀ n, ¬ marked n ∧ ¬ resumed n) →
    let entry := setParcel k { p with state := .quarantined, comp := found } s
    let out : State := leaveReturnQueue k (match found with
      | some n => barred n entry
      | none => entry)
    let told : State := match deposit with
      | some n =>
        let y := raise (.deposit p.ref (compByte n) .integrity none) out
        { y with deposit := { y.deposit with
          markers := y.deposit.markers.map (fun m : Option DepositMarker => if m.any (fun m => m.slot == k) then none else m) } }
      | none => out
    let uncharged : State := (s.charge.queue.filter (fun e => e.slot == k)).foldl
      (fun y e => filled e.tag (originOctet (.terminal e.terminal)) [0x06, 0x1B] y)
      { told with charge := { s.charge with
        queue := s.charge.queue.filter (fun e => e.slot != k)
        running := if s.charge.queue.head?.any (fun e => e.slot == k) then none else s.charge.running } }
    let voided : State := { uncharged with collection := { s.collection with
      contexts := s.collection.contexts.map (fun c => match c with
        | .none | .void _ => c
        | .quoting j | .due j _ _ | .releasing j _ => if j = k then .void k else c)
      reopen := s.collection.reopen.filter (fun e => e.slot != k) } }
    let resolved : State := match voided.returns.sweep with
      | some w =>
        if w.current = some k then
          restartInactivity w.terminal { voided with returns := { voided.returns with
            sweep := some { w with current := none, failed := satInc w.failed } } }
        else voided
      | none => voided
    visited s (endJobsOn k (reported .parcel k.val resolved))) ∧
  (∀ (s : State) (n : CompNo) (found : Option Slot), running s = true → s.mgmt.config.scrubber = true →
    s.checker.cursor.val = n.val → compGood n s = false →
    (∀ k, found = some k → (∃ p, parcelAt k s = some p ∧ p.comp = some n) ∧
      ∀ j p, j < k → parcelAt j s = some p → p.comp ≠ some n) →
    (found = none → ∀ j p, parcelAt j s = some p → p.comp ≠ some n) →
    (s.comps[n].state = .unfitted → visited s
      (reported .compartment n.val (modDoor n (fun _ => Cold.doorRecord)
        (modComp n (fun c => { c with link := none }) (leaveFree n s))))) ∧
    (s.comps[n].state ≠ .unfitted → visited s (tellEngine n s.comps[n]
      (reported .compartment n.val (barred n (modComp n (fun c => { c with link := found }) s)))))) ∧
  ∀ (s : State) (w : Way) (e : Credential), running s = true → s.mgmt.config.scrubber = true →
    s.checker.cursor.val = 624 + w.val → s.creds.ways[w] = some e → wayGood w s = false →
    let freed := { s with creds := { s.creds with ways := s.creds.ways.set w.val none w.isLt } }
    let held := fun (i : CourierInfo) =>
      ∃ v j, v ≠ w ∧ s.creds.ways[v].map Credential.kind = some (.courier j) ∧ j.number = i.number
    ((∀ i, e.kind ≠ .courier i) ∨ (∀ (t : Term) i, s.creds.terms[t].mode = .courier i → held i) →
      visited s (reported .credential w.val freed)) ∧
    ∀ (t : Term) (i j : CourierInfo), e.kind = .courier j → s.creds.terms[t].mode = .courier i → ¬ held i →
      (∀ (u : Term) l, u ≠ t → s.creds.terms[u].mode = .courier l → held l) →
      (s.creds.terms[t].openJob = none → (∀ v, s.returns.sweep = some v → v.terminal ≠ t) →
        visited s (reported .credential w.val
          (modTerm t (fun c => { c with mode := .idle, signOffPending := false }) freed))) ∧
      (s.creds.terms[t].openJob ≠ none →
        visited s (reported .credential w.val (modTerm t (fun c => { c with signOffPending := true }) freed)))
end

