-- ==== Sys2Proof/Laws/Octets.lean ====
section
/-! SUPPORT. Multi-octet fields: the octets of a field read back as the field. -/

namespace Sys2Proof.Wire

/-- Two adjacent parts of a field, put together again. -/
theorem extract_append {v : Nat} (w : BitVec v) (start low high : Nat) :
    w.extractLsb' (start + low) high ++ w.extractLsb' start low = w.extractLsb' start (high + low) := by
  apply BitVec.eq_of_getLsbD_eq
  intro i hi
  simp only [BitVec.getLsbD_append, BitVec.getLsbD_extractLsb', hi, decide_true, Bool.true_and]
  by_cases h : i < low
  · simp [h]
  · have e : start + low + (i - low) = start + i := by omega
    have l : i - low < high := by omega
    simp [h, e, l]

/-- A field taken out whole. -/
theorem extract_all {v : Nat} (w : BitVec v) : w.extractLsb' 0 v = w := by
  apply BitVec.eq_of_getLsbD_eq
  intro i hi
  simp [hi]

@[simp] theorem val2_octets (w : BitVec 16) : val2 (w.extractLsb' 8 8) (w.extractLsb' 0 8) = w :=
  (extract_append w 0 8 8).trans (extract_all w)

@[simp] theorem val3_octets (w : BitVec 24) :
    val3 (w.extractLsb' 16 8) (w.extractLsb' 8 8) (w.extractLsb' 0 8) = w := by
  have h : w.extractLsb' 16 8 ++ w.extractLsb' 8 8 = w.extractLsb' 8 16 := extract_append w 8 8 8
  exact (congrArg (· ++ w.extractLsb' 0 8) h).trans ((extract_append w 0 8 16).trans (extract_all w))

@[simp] theorem val4_octets (w : BitVec 32) :
    val4 (w.extractLsb' 24 8) (w.extractLsb' 16 8) (w.extractLsb' 8 8) (w.extractLsb' 0 8) = w := by
  have h : w.extractLsb' 24 8 ++ w.extractLsb' 16 8 = w.extractLsb' 16 16 := extract_append w 16 8 8
  have g : w.extractLsb' 16 16 ++ w.extractLsb' 8 8 = w.extractLsb' 8 24 := extract_append w 8 8 16
  exact (congrArg (fun x => x ++ w.extractLsb' 8 8 ++ w.extractLsb' 0 8) h).trans
    ((congrArg (· ++ w.extractLsb' 0 8) g).trans ((extract_append w 0 8 24).trans (extract_all w)))

/-- The octets of a 16-bit field, as a list. -/
theorem oct2_def (w : BitVec 16) : oct2 w = [w.extractLsb' 8 8, w.extractLsb' 0 8] := rfl

/-- The octets of a 24-bit field, as a list. -/
theorem oct3_def (w : BitVec 24) : oct3 w = [w.extractLsb' 16 8, w.extractLsb' 8 8, w.extractLsb' 0 8] := rfl

/-- The octets of a 32-bit field, as a list. -/
theorem oct4_def (w : BitVec 32) :
    oct4 w = [w.extractLsb' 24 8, w.extractLsb' 16 8, w.extractLsb' 8 8, w.extractLsb' 0 8] := rfl

end Sys2Proof.Wire
end

