-- ==== Sys2Proof/Laws/State.lean ====
section
/-! SUPPORT. What each write of a piece of the state leaves as it was: one lemma for each field, by `rfl`. -/

namespace Sys2Proof.Machine

variable (s : State)

@[simp] theorem setComp_link (n : CompNo) (c : Compartment) : (setComp n c s).link = s.link := rfl
@[simp] theorem setComp_creds (n : CompNo) (c : Compartment) : (setComp n c s).creds = s.creds := rfl
@[simp] theorem setComp_freeLists (n : CompNo) (c : Compartment) : (setComp n c s).freeLists = s.freeLists := rfl
@[simp] theorem setComp_maintSlot (n : CompNo) (c : Compartment) : (setComp n c s).maintSlot = s.maintSlot := rfl
@[simp] theorem setComp_parcels (n : CompNo) (c : Compartment) : (setComp n c s).parcels = s.parcels := rfl
@[simp] theorem setComp_deposit (n : CompNo) (c : Compartment) : (setComp n c s).deposit = s.deposit := rfl
@[simp] theorem setComp_time (n : CompNo) (c : Compartment) : (setComp n c s).time = s.time := rfl
@[simp] theorem setComp_charge (n : CompNo) (c : Compartment) : (setComp n c s).charge = s.charge := rfl
@[simp] theorem setComp_collection (n : CompNo) (c : Compartment) : (setComp n c s).collection = s.collection := rfl
@[simp] theorem setComp_returns (n : CompNo) (c : Compartment) : (setComp n c s).returns = s.returns := rfl
@[simp] theorem setComp_arbiter (n : CompNo) (c : Compartment) : (setComp n c s).arbiter = s.arbiter := rfl
@[simp] theorem setComp_bus (n : CompNo) (c : Compartment) : (setComp n c s).bus = s.bus := rfl
@[simp] theorem setComp_dormancy (n : CompNo) (c : Compartment) : (setComp n c s).dormancy = s.dormancy := rfl
@[simp] theorem setComp_doors (n : CompNo) (c : Compartment) : (setComp n c s).doors = s.doors := rfl
@[simp] theorem setComp_notices (n : CompNo) (c : Compartment) : (setComp n c s).notices = s.notices := rfl
@[simp] theorem setComp_counters (n : CompNo) (c : Compartment) : (setComp n c s).counters = s.counters := rfl
@[simp] theorem setComp_checker (n : CompNo) (c : Compartment) : (setComp n c s).checker = s.checker := rfl
@[simp] theorem setComp_mgmt (n : CompNo) (c : Compartment) : (setComp n c s).mgmt = s.mgmt := rfl
@[simp] theorem setComp_lines (n : CompNo) (c : Compartment) : (setComp n c s).lines = s.lines := rfl
@[simp] theorem setComp_pending (n : CompNo) (c : Compartment) : (setComp n c s).pending = s.pending := rfl

@[simp] theorem modComp_link (n : CompNo) (f : Compartment → Compartment) : (modComp n f s).link = s.link := rfl
@[simp] theorem modComp_creds (n : CompNo) (f : Compartment → Compartment) : (modComp n f s).creds = s.creds := rfl
@[simp] theorem modComp_freeLists (n : CompNo) (f : Compartment → Compartment) : (modComp n f s).freeLists = s.freeLists := rfl
@[simp] theorem modComp_maintSlot (n : CompNo) (f : Compartment → Compartment) : (modComp n f s).maintSlot = s.maintSlot := rfl
@[simp] theorem modComp_parcels (n : CompNo) (f : Compartment → Compartment) : (modComp n f s).parcels = s.parcels := rfl
@[simp] theorem modComp_deposit (n : CompNo) (f : Compartment → Compartment) : (modComp n f s).deposit = s.deposit := rfl
@[simp] theorem modComp_time (n : CompNo) (f : Compartment → Compartment) : (modComp n f s).time = s.time := rfl
@[simp] theorem modComp_charge (n : CompNo) (f : Compartment → Compartment) : (modComp n f s).charge = s.charge := rfl
@[simp] theorem modComp_collection (n : CompNo) (f : Compartment → Compartment) : (modComp n f s).collection = s.collection := rfl
@[simp] theorem modComp_returns (n : CompNo) (f : Compartment → Compartment) : (modComp n f s).returns = s.returns := rfl
@[simp] theorem modComp_arbiter (n : CompNo) (f : Compartment → Compartment) : (modComp n f s).arbiter = s.arbiter := rfl
@[simp] theorem modComp_bus (n : CompNo) (f : Compartment → Compartment) : (modComp n f s).bus = s.bus := rfl
@[simp] theorem modComp_dormancy (n : CompNo) (f : Compartment → Compartment) : (modComp n f s).dormancy = s.dormancy := rfl
@[simp] theorem modComp_doors (n : CompNo) (f : Compartment → Compartment) : (modComp n f s).doors = s.doors := rfl
@[simp] theorem modComp_notices (n : CompNo) (f : Compartment → Compartment) : (modComp n f s).notices = s.notices := rfl
@[simp] theorem modComp_counters (n : CompNo) (f : Compartment → Compartment) : (modComp n f s).counters = s.counters := rfl
@[simp] theorem modComp_checker (n : CompNo) (f : Compartment → Compartment) : (modComp n f s).checker = s.checker := rfl
@[simp] theorem modComp_mgmt (n : CompNo) (f : Compartment → Compartment) : (modComp n f s).mgmt = s.mgmt := rfl
@[simp] theorem modComp_lines (n : CompNo) (f : Compartment → Compartment) : (modComp n f s).lines = s.lines := rfl
@[simp] theorem modComp_pending (n : CompNo) (f : Compartment → Compartment) : (modComp n f s).pending = s.pending := rfl

@[simp] theorem setParcel_link (k : Slot) (p : Parcel) : (setParcel k p s).link = s.link := rfl
@[simp] theorem setParcel_creds (k : Slot) (p : Parcel) : (setParcel k p s).creds = s.creds := rfl
@[simp] theorem setParcel_comps (k : Slot) (p : Parcel) : (setParcel k p s).comps = s.comps := rfl
@[simp] theorem setParcel_freeLists (k : Slot) (p : Parcel) : (setParcel k p s).freeLists = s.freeLists := rfl
@[simp] theorem setParcel_maintSlot (k : Slot) (p : Parcel) : (setParcel k p s).maintSlot = s.maintSlot := rfl
@[simp] theorem setParcel_deposit (k : Slot) (p : Parcel) : (setParcel k p s).deposit = s.deposit := rfl
@[simp] theorem setParcel_time (k : Slot) (p : Parcel) : (setParcel k p s).time = s.time := rfl
@[simp] theorem setParcel_charge (k : Slot) (p : Parcel) : (setParcel k p s).charge = s.charge := rfl
@[simp] theorem setParcel_collection (k : Slot) (p : Parcel) : (setParcel k p s).collection = s.collection := rfl
@[simp] theorem setParcel_returns (k : Slot) (p : Parcel) : (setParcel k p s).returns = s.returns := rfl
@[simp] theorem setParcel_arbiter (k : Slot) (p : Parcel) : (setParcel k p s).arbiter = s.arbiter := rfl
@[simp] theorem setParcel_bus (k : Slot) (p : Parcel) : (setParcel k p s).bus = s.bus := rfl
@[simp] theorem setParcel_dormancy (k : Slot) (p : Parcel) : (setParcel k p s).dormancy = s.dormancy := rfl
@[simp] theorem setParcel_doors (k : Slot) (p : Parcel) : (setParcel k p s).doors = s.doors := rfl
@[simp] theorem setParcel_notices (k : Slot) (p : Parcel) : (setParcel k p s).notices = s.notices := rfl
@[simp] theorem setParcel_counters (k : Slot) (p : Parcel) : (setParcel k p s).counters = s.counters := rfl
@[simp] theorem setParcel_checker (k : Slot) (p : Parcel) : (setParcel k p s).checker = s.checker := rfl
@[simp] theorem setParcel_mgmt (k : Slot) (p : Parcel) : (setParcel k p s).mgmt = s.mgmt := rfl
@[simp] theorem setParcel_lines (k : Slot) (p : Parcel) : (setParcel k p s).lines = s.lines := rfl
@[simp] theorem setParcel_pending (k : Slot) (p : Parcel) : (setParcel k p s).pending = s.pending := rfl
@[simp] theorem setParcel_parcels_free (k : Slot) (p : Parcel) : (setParcel k p s).parcels.free = s.parcels.free := rfl

@[simp] theorem setWay_link (w : Way) (c : Credential) : (setWay w c s).link = s.link := rfl
@[simp] theorem setWay_comps (w : Way) (c : Credential) : (setWay w c s).comps = s.comps := rfl
@[simp] theorem setWay_freeLists (w : Way) (c : Credential) : (setWay w c s).freeLists = s.freeLists := rfl
@[simp] theorem setWay_maintSlot (w : Way) (c : Credential) : (setWay w c s).maintSlot = s.maintSlot := rfl
@[simp] theorem setWay_parcels (w : Way) (c : Credential) : (setWay w c s).parcels = s.parcels := rfl
@[simp] theorem setWay_deposit (w : Way) (c : Credential) : (setWay w c s).deposit = s.deposit := rfl
@[simp] theorem setWay_time (w : Way) (c : Credential) : (setWay w c s).time = s.time := rfl
@[simp] theorem setWay_charge (w : Way) (c : Credential) : (setWay w c s).charge = s.charge := rfl
@[simp] theorem setWay_collection (w : Way) (c : Credential) : (setWay w c s).collection = s.collection := rfl
@[simp] theorem setWay_returns (w : Way) (c : Credential) : (setWay w c s).returns = s.returns := rfl
@[simp] theorem setWay_arbiter (w : Way) (c : Credential) : (setWay w c s).arbiter = s.arbiter := rfl
@[simp] theorem setWay_bus (w : Way) (c : Credential) : (setWay w c s).bus = s.bus := rfl
@[simp] theorem setWay_dormancy (w : Way) (c : Credential) : (setWay w c s).dormancy = s.dormancy := rfl
@[simp] theorem setWay_doors (w : Way) (c : Credential) : (setWay w c s).doors = s.doors := rfl
@[simp] theorem setWay_notices (w : Way) (c : Credential) : (setWay w c s).notices = s.notices := rfl
@[simp] theorem setWay_counters (w : Way) (c : Credential) : (setWay w c s).counters = s.counters := rfl
@[simp] theorem setWay_checker (w : Way) (c : Credential) : (setWay w c s).checker = s.checker := rfl
@[simp] theorem setWay_mgmt (w : Way) (c : Credential) : (setWay w c s).mgmt = s.mgmt := rfl
@[simp] theorem setWay_lines (w : Way) (c : Credential) : (setWay w c s).lines = s.lines := rfl
@[simp] theorem setWay_pending (w : Way) (c : Credential) : (setWay w c s).pending = s.pending := rfl
@[simp] theorem setWay_creds_terms (w : Way) (c : Credential) : (setWay w c s).creds.terms = s.creds.terms := rfl

@[simp] theorem freeWay_link (w : Way) : (freeWay w s).link = s.link := rfl
@[simp] theorem freeWay_comps (w : Way) : (freeWay w s).comps = s.comps := rfl
@[simp] theorem freeWay_freeLists (w : Way) : (freeWay w s).freeLists = s.freeLists := rfl
@[simp] theorem freeWay_maintSlot (w : Way) : (freeWay w s).maintSlot = s.maintSlot := rfl
@[simp] theorem freeWay_parcels (w : Way) : (freeWay w s).parcels = s.parcels := rfl
@[simp] theorem freeWay_deposit (w : Way) : (freeWay w s).deposit = s.deposit := rfl
@[simp] theorem freeWay_time (w : Way) : (freeWay w s).time = s.time := rfl
@[simp] theorem freeWay_charge (w : Way) : (freeWay w s).charge = s.charge := rfl
@[simp] theorem freeWay_collection (w : Way) : (freeWay w s).collection = s.collection := rfl
@[simp] theorem freeWay_returns (w : Way) : (freeWay w s).returns = s.returns := rfl
@[simp] theorem freeWay_arbiter (w : Way) : (freeWay w s).arbiter = s.arbiter := rfl
@[simp] theorem freeWay_bus (w : Way) : (freeWay w s).bus = s.bus := rfl
@[simp] theorem freeWay_dormancy (w : Way) : (freeWay w s).dormancy = s.dormancy := rfl
@[simp] theorem freeWay_doors (w : Way) : (freeWay w s).doors = s.doors := rfl
@[simp] theorem freeWay_notices (w : Way) : (freeWay w s).notices = s.notices := rfl
@[simp] theorem freeWay_counters (w : Way) : (freeWay w s).counters = s.counters := rfl
@[simp] theorem freeWay_checker (w : Way) : (freeWay w s).checker = s.checker := rfl
@[simp] theorem freeWay_mgmt (w : Way) : (freeWay w s).mgmt = s.mgmt := rfl
@[simp] theorem freeWay_lines (w : Way) : (freeWay w s).lines = s.lines := rfl
@[simp] theorem freeWay_pending (w : Way) : (freeWay w s).pending = s.pending := rfl
@[simp] theorem freeWay_creds_terms (w : Way) : (freeWay w s).creds.terms = s.creds.terms := rfl

@[simp] theorem modTerm_link (t : Term) (f : TermContext → TermContext) : (modTerm t f s).link = s.link := rfl
@[simp] theorem modTerm_comps (t : Term) (f : TermContext → TermContext) : (modTerm t f s).comps = s.comps := rfl
@[simp] theorem modTerm_freeLists (t : Term) (f : TermContext → TermContext) : (modTerm t f s).freeLists = s.freeLists := rfl
@[simp] theorem modTerm_maintSlot (t : Term) (f : TermContext → TermContext) : (modTerm t f s).maintSlot = s.maintSlot := rfl
@[simp] theorem modTerm_parcels (t : Term) (f : TermContext → TermContext) : (modTerm t f s).parcels = s.parcels := rfl
@[simp] theorem modTerm_deposit (t : Term) (f : TermContext → TermContext) : (modTerm t f s).deposit = s.deposit := rfl
@[simp] theorem modTerm_time (t : Term) (f : TermContext → TermContext) : (modTerm t f s).time = s.time := rfl
@[simp] theorem modTerm_charge (t : Term) (f : TermContext → TermContext) : (modTerm t f s).charge = s.charge := rfl
@[simp] theorem modTerm_collection (t : Term) (f : TermContext → TermContext) : (modTerm t f s).collection = s.collection := rfl
@[simp] theorem modTerm_returns (t : Term) (f : TermContext → TermContext) : (modTerm t f s).returns = s.returns := rfl
@[simp] theorem modTerm_arbiter (t : Term) (f : TermContext → TermContext) : (modTerm t f s).arbiter = s.arbiter := rfl
@[simp] theorem modTerm_bus (t : Term) (f : TermContext → TermContext) : (modTerm t f s).bus = s.bus := rfl
@[simp] theorem modTerm_dormancy (t : Term) (f : TermContext → TermContext) : (modTerm t f s).dormancy = s.dormancy := rfl
@[simp] theorem modTerm_doors (t : Term) (f : TermContext → TermContext) : (modTerm t f s).doors = s.doors := rfl
@[simp] theorem modTerm_notices (t : Term) (f : TermContext → TermContext) : (modTerm t f s).notices = s.notices := rfl
@[simp] theorem modTerm_counters (t : Term) (f : TermContext → TermContext) : (modTerm t f s).counters = s.counters := rfl
@[simp] theorem modTerm_checker (t : Term) (f : TermContext → TermContext) : (modTerm t f s).checker = s.checker := rfl
@[simp] theorem modTerm_mgmt (t : Term) (f : TermContext → TermContext) : (modTerm t f s).mgmt = s.mgmt := rfl
@[simp] theorem modTerm_lines (t : Term) (f : TermContext → TermContext) : (modTerm t f s).lines = s.lines := rfl
@[simp] theorem modTerm_pending (t : Term) (f : TermContext → TermContext) : (modTerm t f s).pending = s.pending := rfl
@[simp] theorem modTerm_creds_ways (t : Term) (f : TermContext → TermContext) : (modTerm t f s).creds.ways = s.creds.ways := rfl

@[simp] theorem setMarker_link (t : Term) (m : Option DepositMarker) : (setMarker t m s).link = s.link := rfl
@[simp] theorem setMarker_creds (t : Term) (m : Option DepositMarker) : (setMarker t m s).creds = s.creds := rfl
@[simp] theorem setMarker_comps (t : Term) (m : Option DepositMarker) : (setMarker t m s).comps = s.comps := rfl
@[simp] theorem setMarker_freeLists (t : Term) (m : Option DepositMarker) : (setMarker t m s).freeLists = s.freeLists := rfl
@[simp] theorem setMarker_maintSlot (t : Term) (m : Option DepositMarker) : (setMarker t m s).maintSlot = s.maintSlot := rfl
@[simp] theorem setMarker_parcels (t : Term) (m : Option DepositMarker) : (setMarker t m s).parcels = s.parcels := rfl
@[simp] theorem setMarker_time (t : Term) (m : Option DepositMarker) : (setMarker t m s).time = s.time := rfl
@[simp] theorem setMarker_charge (t : Term) (m : Option DepositMarker) : (setMarker t m s).charge = s.charge := rfl
@[simp] theorem setMarker_collection (t : Term) (m : Option DepositMarker) : (setMarker t m s).collection = s.collection := rfl
@[simp] theorem setMarker_returns (t : Term) (m : Option DepositMarker) : (setMarker t m s).returns = s.returns := rfl
@[simp] theorem setMarker_arbiter (t : Term) (m : Option DepositMarker) : (setMarker t m s).arbiter = s.arbiter := rfl
@[simp] theorem setMarker_bus (t : Term) (m : Option DepositMarker) : (setMarker t m s).bus = s.bus := rfl
@[simp] theorem setMarker_dormancy (t : Term) (m : Option DepositMarker) : (setMarker t m s).dormancy = s.dormancy := rfl
@[simp] theorem setMarker_doors (t : Term) (m : Option DepositMarker) : (setMarker t m s).doors = s.doors := rfl
@[simp] theorem setMarker_notices (t : Term) (m : Option DepositMarker) : (setMarker t m s).notices = s.notices := rfl
@[simp] theorem setMarker_counters (t : Term) (m : Option DepositMarker) : (setMarker t m s).counters = s.counters := rfl
@[simp] theorem setMarker_checker (t : Term) (m : Option DepositMarker) : (setMarker t m s).checker = s.checker := rfl
@[simp] theorem setMarker_mgmt (t : Term) (m : Option DepositMarker) : (setMarker t m s).mgmt = s.mgmt := rfl
@[simp] theorem setMarker_lines (t : Term) (m : Option DepositMarker) : (setMarker t m s).lines = s.lines := rfl
@[simp] theorem setMarker_pending (t : Term) (m : Option DepositMarker) : (setMarker t m s).pending = s.pending := rfl
@[simp] theorem setMarker_deposit_resumed (t : Term) (m : Option DepositMarker) : (setMarker t m s).deposit.resumed = s.deposit.resumed := rfl

@[simp] theorem setResumed_link (n : CompNo) (b : Bool) : (setResumed n b s).link = s.link := rfl
@[simp] theorem setResumed_creds (n : CompNo) (b : Bool) : (setResumed n b s).creds = s.creds := rfl
@[simp] theorem setResumed_comps (n : CompNo) (b : Bool) : (setResumed n b s).comps = s.comps := rfl
@[simp] theorem setResumed_freeLists (n : CompNo) (b : Bool) : (setResumed n b s).freeLists = s.freeLists := rfl
@[simp] theorem setResumed_maintSlot (n : CompNo) (b : Bool) : (setResumed n b s).maintSlot = s.maintSlot := rfl
@[simp] theorem setResumed_parcels (n : CompNo) (b : Bool) : (setResumed n b s).parcels = s.parcels := rfl
@[simp] theorem setResumed_time (n : CompNo) (b : Bool) : (setResumed n b s).time = s.time := rfl
@[simp] theorem setResumed_charge (n : CompNo) (b : Bool) : (setResumed n b s).charge = s.charge := rfl
@[simp] theorem setResumed_collection (n : CompNo) (b : Bool) : (setResumed n b s).collection = s.collection := rfl
@[simp] theorem setResumed_returns (n : CompNo) (b : Bool) : (setResumed n b s).returns = s.returns := rfl
@[simp] theorem setResumed_arbiter (n : CompNo) (b : Bool) : (setResumed n b s).arbiter = s.arbiter := rfl
@[simp] theorem setResumed_bus (n : CompNo) (b : Bool) : (setResumed n b s).bus = s.bus := rfl
@[simp] theorem setResumed_dormancy (n : CompNo) (b : Bool) : (setResumed n b s).dormancy = s.dormancy := rfl
@[simp] theorem setResumed_doors (n : CompNo) (b : Bool) : (setResumed n b s).doors = s.doors := rfl
@[simp] theorem setResumed_notices (n : CompNo) (b : Bool) : (setResumed n b s).notices = s.notices := rfl
@[simp] theorem setResumed_counters (n : CompNo) (b : Bool) : (setResumed n b s).counters = s.counters := rfl
@[simp] theorem setResumed_checker (n : CompNo) (b : Bool) : (setResumed n b s).checker = s.checker := rfl
@[simp] theorem setResumed_mgmt (n : CompNo) (b : Bool) : (setResumed n b s).mgmt = s.mgmt := rfl
@[simp] theorem setResumed_lines (n : CompNo) (b : Bool) : (setResumed n b s).lines = s.lines := rfl
@[simp] theorem setResumed_pending (n : CompNo) (b : Bool) : (setResumed n b s).pending = s.pending := rfl
@[simp] theorem setResumed_deposit_markers (n : CompNo) (b : Bool) : (setResumed n b s).deposit.markers = s.deposit.markers := rfl

@[simp] theorem setContext_link (t : Term) (c : QuoteContext) : (setContext t c s).link = s.link := rfl
@[simp] theorem setContext_creds (t : Term) (c : QuoteContext) : (setContext t c s).creds = s.creds := rfl
@[simp] theorem setContext_comps (t : Term) (c : QuoteContext) : (setContext t c s).comps = s.comps := rfl
@[simp] theorem setContext_freeLists (t : Term) (c : QuoteContext) : (setContext t c s).freeLists = s.freeLists := rfl
@[simp] theorem setContext_maintSlot (t : Term) (c : QuoteContext) : (setContext t c s).maintSlot = s.maintSlot := rfl
@[simp] theorem setContext_parcels (t : Term) (c : QuoteContext) : (setContext t c s).parcels = s.parcels := rfl
@[simp] theorem setContext_deposit (t : Term) (c : QuoteContext) : (setContext t c s).deposit = s.deposit := rfl
@[simp] theorem setContext_time (t : Term) (c : QuoteContext) : (setContext t c s).time = s.time := rfl
@[simp] theorem setContext_charge (t : Term) (c : QuoteContext) : (setContext t c s).charge = s.charge := rfl
@[simp] theorem setContext_returns (t : Term) (c : QuoteContext) : (setContext t c s).returns = s.returns := rfl
@[simp] theorem setContext_arbiter (t : Term) (c : QuoteContext) : (setContext t c s).arbiter = s.arbiter := rfl
@[simp] theorem setContext_bus (t : Term) (c : QuoteContext) : (setContext t c s).bus = s.bus := rfl
@[simp] theorem setContext_dormancy (t : Term) (c : QuoteContext) : (setContext t c s).dormancy = s.dormancy := rfl
@[simp] theorem setContext_doors (t : Term) (c : QuoteContext) : (setContext t c s).doors = s.doors := rfl
@[simp] theorem setContext_notices (t : Term) (c : QuoteContext) : (setContext t c s).notices = s.notices := rfl
@[simp] theorem setContext_counters (t : Term) (c : QuoteContext) : (setContext t c s).counters = s.counters := rfl
@[simp] theorem setContext_checker (t : Term) (c : QuoteContext) : (setContext t c s).checker = s.checker := rfl
@[simp] theorem setContext_mgmt (t : Term) (c : QuoteContext) : (setContext t c s).mgmt = s.mgmt := rfl
@[simp] theorem setContext_lines (t : Term) (c : QuoteContext) : (setContext t c s).lines = s.lines := rfl
@[simp] theorem setContext_pending (t : Term) (c : QuoteContext) : (setContext t c s).pending = s.pending := rfl
@[simp] theorem setContext_collection_reopen (t : Term) (c : QuoteContext) : (setContext t c s).collection.reopen = s.collection.reopen := rfl

@[simp] theorem setReopen_link (l : List ReopenEntry) : (setReopen l s).link = s.link := rfl
@[simp] theorem setReopen_creds (l : List ReopenEntry) : (setReopen l s).creds = s.creds := rfl
@[simp] theorem setReopen_comps (l : List ReopenEntry) : (setReopen l s).comps = s.comps := rfl
@[simp] theorem setReopen_freeLists (l : List ReopenEntry) : (setReopen l s).freeLists = s.freeLists := rfl
@[simp] theorem setReopen_maintSlot (l : List ReopenEntry) : (setReopen l s).maintSlot = s.maintSlot := rfl
@[simp] theorem setReopen_parcels (l : List ReopenEntry) : (setReopen l s).parcels = s.parcels := rfl
@[simp] theorem setReopen_deposit (l : List ReopenEntry) : (setReopen l s).deposit = s.deposit := rfl
@[simp] theorem setReopen_time (l : List ReopenEntry) : (setReopen l s).time = s.time := rfl
@[simp] theorem setReopen_charge (l : List ReopenEntry) : (setReopen l s).charge = s.charge := rfl
@[simp] theorem setReopen_returns (l : List ReopenEntry) : (setReopen l s).returns = s.returns := rfl
@[simp] theorem setReopen_arbiter (l : List ReopenEntry) : (setReopen l s).arbiter = s.arbiter := rfl
@[simp] theorem setReopen_bus (l : List ReopenEntry) : (setReopen l s).bus = s.bus := rfl
@[simp] theorem setReopen_dormancy (l : List ReopenEntry) : (setReopen l s).dormancy = s.dormancy := rfl
@[simp] theorem setReopen_doors (l : List ReopenEntry) : (setReopen l s).doors = s.doors := rfl
@[simp] theorem setReopen_notices (l : List ReopenEntry) : (setReopen l s).notices = s.notices := rfl
@[simp] theorem setReopen_counters (l : List ReopenEntry) : (setReopen l s).counters = s.counters := rfl
@[simp] theorem setReopen_checker (l : List ReopenEntry) : (setReopen l s).checker = s.checker := rfl
@[simp] theorem setReopen_mgmt (l : List ReopenEntry) : (setReopen l s).mgmt = s.mgmt := rfl
@[simp] theorem setReopen_lines (l : List ReopenEntry) : (setReopen l s).lines = s.lines := rfl
@[simp] theorem setReopen_pending (l : List ReopenEntry) : (setReopen l s).pending = s.pending := rfl
@[simp] theorem setReopen_collection_contexts (l : List ReopenEntry) : (setReopen l s).collection.contexts = s.collection.contexts := rfl

@[simp] theorem modColumn_link (c : Col) (f : ColumnEntry → ColumnEntry) : (modColumn c f s).link = s.link := rfl
@[simp] theorem modColumn_creds (c : Col) (f : ColumnEntry → ColumnEntry) : (modColumn c f s).creds = s.creds := rfl
@[simp] theorem modColumn_comps (c : Col) (f : ColumnEntry → ColumnEntry) : (modColumn c f s).comps = s.comps := rfl
@[simp] theorem modColumn_freeLists (c : Col) (f : ColumnEntry → ColumnEntry) : (modColumn c f s).freeLists = s.freeLists := rfl
@[simp] theorem modColumn_maintSlot (c : Col) (f : ColumnEntry → ColumnEntry) : (modColumn c f s).maintSlot = s.maintSlot := rfl
@[simp] theorem modColumn_parcels (c : Col) (f : ColumnEntry → ColumnEntry) : (modColumn c f s).parcels = s.parcels := rfl
@[simp] theorem modColumn_deposit (c : Col) (f : ColumnEntry → ColumnEntry) : (modColumn c f s).deposit = s.deposit := rfl
@[simp] theorem modColumn_time (c : Col) (f : ColumnEntry → ColumnEntry) : (modColumn c f s).time = s.time := rfl
@[simp] theorem modColumn_charge (c : Col) (f : ColumnEntry → ColumnEntry) : (modColumn c f s).charge = s.charge := rfl
@[simp] theorem modColumn_collection (c : Col) (f : ColumnEntry → ColumnEntry) : (modColumn c f s).collection = s.collection := rfl
@[simp] theorem modColumn_returns (c : Col) (f : ColumnEntry → ColumnEntry) : (modColumn c f s).returns = s.returns := rfl
@[simp] theorem modColumn_arbiter (c : Col) (f : ColumnEntry → ColumnEntry) : (modColumn c f s).arbiter = s.arbiter := rfl
@[simp] theorem modColumn_dormancy (c : Col) (f : ColumnEntry → ColumnEntry) : (modColumn c f s).dormancy = s.dormancy := rfl
@[simp] theorem modColumn_doors (c : Col) (f : ColumnEntry → ColumnEntry) : (modColumn c f s).doors = s.doors := rfl
@[simp] theorem modColumn_notices (c : Col) (f : ColumnEntry → ColumnEntry) : (modColumn c f s).notices = s.notices := rfl
@[simp] theorem modColumn_counters (c : Col) (f : ColumnEntry → ColumnEntry) : (modColumn c f s).counters = s.counters := rfl
@[simp] theorem modColumn_checker (c : Col) (f : ColumnEntry → ColumnEntry) : (modColumn c f s).checker = s.checker := rfl
@[simp] theorem modColumn_mgmt (c : Col) (f : ColumnEntry → ColumnEntry) : (modColumn c f s).mgmt = s.mgmt := rfl
@[simp] theorem modColumn_lines (c : Col) (f : ColumnEntry → ColumnEntry) : (modColumn c f s).lines = s.lines := rfl
@[simp] theorem modColumn_pending (c : Col) (f : ColumnEntry → ColumnEntry) : (modColumn c f s).pending = s.pending := rfl
@[simp] theorem modColumn_bus_queue (c : Col) (f : ColumnEntry → ColumnEntry) : (modColumn c f s).bus.queue = s.bus.queue := rfl
@[simp] theorem modColumn_bus_overflow (c : Col) (f : ColumnEntry → ColumnEntry) : (modColumn c f s).bus.overflow = s.bus.overflow := rfl
@[simp] theorem modColumn_bus_use (c : Col) (f : ColumnEntry → ColumnEntry) : (modColumn c f s).bus.use = s.bus.use := rfl
@[simp] theorem modColumn_bus_retry (c : Col) (f : ColumnEntry → ColumnEntry) : (modColumn c f s).bus.retry = s.bus.retry := rfl
@[simp] theorem modColumn_bus_enumeration (c : Col) (f : ColumnEntry → ColumnEntry) : (modColumn c f s).bus.enumeration = s.bus.enumeration := rfl
@[simp] theorem modColumn_bus_returning (c : Col) (f : ColumnEntry → ColumnEntry) : (modColumn c f s).bus.returning = s.bus.returning := rfl

@[simp] theorem modDoor_link (n : CompNo) (f : DoorRecord → DoorRecord) : (modDoor n f s).link = s.link := rfl
@[simp] theorem modDoor_creds (n : CompNo) (f : DoorRecord → DoorRecord) : (modDoor n f s).creds = s.creds := rfl
@[simp] theorem modDoor_comps (n : CompNo) (f : DoorRecord → DoorRecord) : (modDoor n f s).comps = s.comps := rfl
@[simp] theorem modDoor_freeLists (n : CompNo) (f : DoorRecord → DoorRecord) : (modDoor n f s).freeLists = s.freeLists := rfl
@[simp] theorem modDoor_maintSlot (n : CompNo) (f : DoorRecord → DoorRecord) : (modDoor n f s).maintSlot = s.maintSlot := rfl
@[simp] theorem modDoor_parcels (n : CompNo) (f : DoorRecord → DoorRecord) : (modDoor n f s).parcels = s.parcels := rfl
@[simp] theorem modDoor_deposit (n : CompNo) (f : DoorRecord → DoorRecord) : (modDoor n f s).deposit = s.deposit := rfl
@[simp] theorem modDoor_time (n : CompNo) (f : DoorRecord → DoorRecord) : (modDoor n f s).time = s.time := rfl
@[simp] theorem modDoor_charge (n : CompNo) (f : DoorRecord → DoorRecord) : (modDoor n f s).charge = s.charge := rfl
@[simp] theorem modDoor_collection (n : CompNo) (f : DoorRecord → DoorRecord) : (modDoor n f s).collection = s.collection := rfl
@[simp] theorem modDoor_returns (n : CompNo) (f : DoorRecord → DoorRecord) : (modDoor n f s).returns = s.returns := rfl
@[simp] theorem modDoor_arbiter (n : CompNo) (f : DoorRecord → DoorRecord) : (modDoor n f s).arbiter = s.arbiter := rfl
@[simp] theorem modDoor_bus (n : CompNo) (f : DoorRecord → DoorRecord) : (modDoor n f s).bus = s.bus := rfl
@[simp] theorem modDoor_dormancy (n : CompNo) (f : DoorRecord → DoorRecord) : (modDoor n f s).dormancy = s.dormancy := rfl
@[simp] theorem modDoor_notices (n : CompNo) (f : DoorRecord → DoorRecord) : (modDoor n f s).notices = s.notices := rfl
@[simp] theorem modDoor_counters (n : CompNo) (f : DoorRecord → DoorRecord) : (modDoor n f s).counters = s.counters := rfl
@[simp] theorem modDoor_checker (n : CompNo) (f : DoorRecord → DoorRecord) : (modDoor n f s).checker = s.checker := rfl
@[simp] theorem modDoor_mgmt (n : CompNo) (f : DoorRecord → DoorRecord) : (modDoor n f s).mgmt = s.mgmt := rfl
@[simp] theorem modDoor_lines (n : CompNo) (f : DoorRecord → DoorRecord) : (modDoor n f s).lines = s.lines := rfl
@[simp] theorem modDoor_pending (n : CompNo) (f : DoorRecord → DoorRecord) : (modDoor n f s).pending = s.pending := rfl
@[simp] theorem modDoor_doors_firstPoll (n : CompNo) (f : DoorRecord → DoorRecord) : (modDoor n f s).doors.firstPoll = s.doors.firstPoll := rfl
@[simp] theorem modDoor_doors_lastTrace (n : CompNo) (f : DoorRecord → DoorRecord) : (modDoor n f s).doors.lastTrace = s.doors.lastTrace := rfl

@[simp] theorem setFirstPoll_link (c : Col) (b : Bool) : (setFirstPoll c b s).link = s.link := rfl
@[simp] theorem setFirstPoll_creds (c : Col) (b : Bool) : (setFirstPoll c b s).creds = s.creds := rfl
@[simp] theorem setFirstPoll_comps (c : Col) (b : Bool) : (setFirstPoll c b s).comps = s.comps := rfl
@[simp] theorem setFirstPoll_freeLists (c : Col) (b : Bool) : (setFirstPoll c b s).freeLists = s.freeLists := rfl
@[simp] theorem setFirstPoll_maintSlot (c : Col) (b : Bool) : (setFirstPoll c b s).maintSlot = s.maintSlot := rfl
@[simp] theorem setFirstPoll_parcels (c : Col) (b : Bool) : (setFirstPoll c b s).parcels = s.parcels := rfl
@[simp] theorem setFirstPoll_deposit (c : Col) (b : Bool) : (setFirstPoll c b s).deposit = s.deposit := rfl
@[simp] theorem setFirstPoll_time (c : Col) (b : Bool) : (setFirstPoll c b s).time = s.time := rfl
@[simp] theorem setFirstPoll_charge (c : Col) (b : Bool) : (setFirstPoll c b s).charge = s.charge := rfl
@[simp] theorem setFirstPoll_collection (c : Col) (b : Bool) : (setFirstPoll c b s).collection = s.collection := rfl
@[simp] theorem setFirstPoll_returns (c : Col) (b : Bool) : (setFirstPoll c b s).returns = s.returns := rfl
@[simp] theorem setFirstPoll_arbiter (c : Col) (b : Bool) : (setFirstPoll c b s).arbiter = s.arbiter := rfl
@[simp] theorem setFirstPoll_bus (c : Col) (b : Bool) : (setFirstPoll c b s).bus = s.bus := rfl
@[simp] theorem setFirstPoll_dormancy (c : Col) (b : Bool) : (setFirstPoll c b s).dormancy = s.dormancy := rfl
@[simp] theorem setFirstPoll_notices (c : Col) (b : Bool) : (setFirstPoll c b s).notices = s.notices := rfl
@[simp] theorem setFirstPoll_counters (c : Col) (b : Bool) : (setFirstPoll c b s).counters = s.counters := rfl
@[simp] theorem setFirstPoll_checker (c : Col) (b : Bool) : (setFirstPoll c b s).checker = s.checker := rfl
@[simp] theorem setFirstPoll_mgmt (c : Col) (b : Bool) : (setFirstPoll c b s).mgmt = s.mgmt := rfl
@[simp] theorem setFirstPoll_lines (c : Col) (b : Bool) : (setFirstPoll c b s).lines = s.lines := rfl
@[simp] theorem setFirstPoll_pending (c : Col) (b : Bool) : (setFirstPoll c b s).pending = s.pending := rfl
@[simp] theorem setFirstPoll_doors_records (c : Col) (b : Bool) : (setFirstPoll c b s).doors.records = s.doors.records := rfl
@[simp] theorem setFirstPoll_doors_lastTrace (c : Col) (b : Bool) : (setFirstPoll c b s).doors.lastTrace = s.doors.lastTrace := rfl

@[simp] theorem setLastTrace_link (c : Col) (l : LastTrace) : (setLastTrace c l s).link = s.link := rfl
@[simp] theorem setLastTrace_creds (c : Col) (l : LastTrace) : (setLastTrace c l s).creds = s.creds := rfl
@[simp] theorem setLastTrace_comps (c : Col) (l : LastTrace) : (setLastTrace c l s).comps = s.comps := rfl
@[simp] theorem setLastTrace_freeLists (c : Col) (l : LastTrace) : (setLastTrace c l s).freeLists = s.freeLists := rfl
@[simp] theorem setLastTrace_maintSlot (c : Col) (l : LastTrace) : (setLastTrace c l s).maintSlot = s.maintSlot := rfl
@[simp] theorem setLastTrace_parcels (c : Col) (l : LastTrace) : (setLastTrace c l s).parcels = s.parcels := rfl
@[simp] theorem setLastTrace_deposit (c : Col) (l : LastTrace) : (setLastTrace c l s).deposit = s.deposit := rfl
@[simp] theorem setLastTrace_time (c : Col) (l : LastTrace) : (setLastTrace c l s).time = s.time := rfl
@[simp] theorem setLastTrace_charge (c : Col) (l : LastTrace) : (setLastTrace c l s).charge = s.charge := rfl
@[simp] theorem setLastTrace_collection (c : Col) (l : LastTrace) : (setLastTrace c l s).collection = s.collection := rfl
@[simp] theorem setLastTrace_returns (c : Col) (l : LastTrace) : (setLastTrace c l s).returns = s.returns := rfl
@[simp] theorem setLastTrace_arbiter (c : Col) (l : LastTrace) : (setLastTrace c l s).arbiter = s.arbiter := rfl
@[simp] theorem setLastTrace_bus (c : Col) (l : LastTrace) : (setLastTrace c l s).bus = s.bus := rfl
@[simp] theorem setLastTrace_dormancy (c : Col) (l : LastTrace) : (setLastTrace c l s).dormancy = s.dormancy := rfl
@[simp] theorem setLastTrace_notices (c : Col) (l : LastTrace) : (setLastTrace c l s).notices = s.notices := rfl
@[simp] theorem setLastTrace_counters (c : Col) (l : LastTrace) : (setLastTrace c l s).counters = s.counters := rfl
@[simp] theorem setLastTrace_checker (c : Col) (l : LastTrace) : (setLastTrace c l s).checker = s.checker := rfl
@[simp] theorem setLastTrace_mgmt (c : Col) (l : LastTrace) : (setLastTrace c l s).mgmt = s.mgmt := rfl
@[simp] theorem setLastTrace_lines (c : Col) (l : LastTrace) : (setLastTrace c l s).lines = s.lines := rfl
@[simp] theorem setLastTrace_pending (c : Col) (l : LastTrace) : (setLastTrace c l s).pending = s.pending := rfl
@[simp] theorem setLastTrace_doors_records (c : Col) (l : LastTrace) : (setLastTrace c l s).doors.records = s.doors.records := rfl
@[simp] theorem setLastTrace_doors_firstPoll (c : Col) (l : LastTrace) : (setLastTrace c l s).doors.firstPoll = s.doors.firstPoll := rfl

@[simp] theorem setSweep_link (w : Option Sweep) : (setSweep w s).link = s.link := rfl
@[simp] theorem setSweep_creds (w : Option Sweep) : (setSweep w s).creds = s.creds := rfl
@[simp] theorem setSweep_comps (w : Option Sweep) : (setSweep w s).comps = s.comps := rfl
@[simp] theorem setSweep_freeLists (w : Option Sweep) : (setSweep w s).freeLists = s.freeLists := rfl
@[simp] theorem setSweep_maintSlot (w : Option Sweep) : (setSweep w s).maintSlot = s.maintSlot := rfl
@[simp] theorem setSweep_parcels (w : Option Sweep) : (setSweep w s).parcels = s.parcels := rfl
@[simp] theorem setSweep_deposit (w : Option Sweep) : (setSweep w s).deposit = s.deposit := rfl
@[simp] theorem setSweep_time (w : Option Sweep) : (setSweep w s).time = s.time := rfl
@[simp] theorem setSweep_charge (w : Option Sweep) : (setSweep w s).charge = s.charge := rfl
@[simp] theorem setSweep_collection (w : Option Sweep) : (setSweep w s).collection = s.collection := rfl
@[simp] theorem setSweep_arbiter (w : Option Sweep) : (setSweep w s).arbiter = s.arbiter := rfl
@[simp] theorem setSweep_bus (w : Option Sweep) : (setSweep w s).bus = s.bus := rfl
@[simp] theorem setSweep_dormancy (w : Option Sweep) : (setSweep w s).dormancy = s.dormancy := rfl
@[simp] theorem setSweep_doors (w : Option Sweep) : (setSweep w s).doors = s.doors := rfl
@[simp] theorem setSweep_notices (w : Option Sweep) : (setSweep w s).notices = s.notices := rfl
@[simp] theorem setSweep_counters (w : Option Sweep) : (setSweep w s).counters = s.counters := rfl
@[simp] theorem setSweep_checker (w : Option Sweep) : (setSweep w s).checker = s.checker := rfl
@[simp] theorem setSweep_mgmt (w : Option Sweep) : (setSweep w s).mgmt = s.mgmt := rfl
@[simp] theorem setSweep_lines (w : Option Sweep) : (setSweep w s).lines = s.lines := rfl
@[simp] theorem setSweep_pending (w : Option Sweep) : (setSweep w s).pending = s.pending := rfl
@[simp] theorem setSweep_returns_queue (w : Option Sweep) : (setSweep w s).returns.queue = s.returns.queue := rfl
@[simp] theorem setSweep_returns_scanner (w : Option Sweep) : (setSweep w s).returns.scanner = s.returns.scanner := rfl

@[simp] theorem setScanner_link (c : Scanner) : (setScanner c s).link = s.link := rfl
@[simp] theorem setScanner_creds (c : Scanner) : (setScanner c s).creds = s.creds := rfl
@[simp] theorem setScanner_comps (c : Scanner) : (setScanner c s).comps = s.comps := rfl
@[simp] theorem setScanner_freeLists (c : Scanner) : (setScanner c s).freeLists = s.freeLists := rfl
@[simp] theorem setScanner_maintSlot (c : Scanner) : (setScanner c s).maintSlot = s.maintSlot := rfl
@[simp] theorem setScanner_parcels (c : Scanner) : (setScanner c s).parcels = s.parcels := rfl
@[simp] theorem setScanner_deposit (c : Scanner) : (setScanner c s).deposit = s.deposit := rfl
@[simp] theorem setScanner_time (c : Scanner) : (setScanner c s).time = s.time := rfl
@[simp] theorem setScanner_charge (c : Scanner) : (setScanner c s).charge = s.charge := rfl
@[simp] theorem setScanner_collection (c : Scanner) : (setScanner c s).collection = s.collection := rfl
@[simp] theorem setScanner_arbiter (c : Scanner) : (setScanner c s).arbiter = s.arbiter := rfl
@[simp] theorem setScanner_bus (c : Scanner) : (setScanner c s).bus = s.bus := rfl
@[simp] theorem setScanner_dormancy (c : Scanner) : (setScanner c s).dormancy = s.dormancy := rfl
@[simp] theorem setScanner_doors (c : Scanner) : (setScanner c s).doors = s.doors := rfl
@[simp] theorem setScanner_notices (c : Scanner) : (setScanner c s).notices = s.notices := rfl
@[simp] theorem setScanner_counters (c : Scanner) : (setScanner c s).counters = s.counters := rfl
@[simp] theorem setScanner_checker (c : Scanner) : (setScanner c s).checker = s.checker := rfl
@[simp] theorem setScanner_mgmt (c : Scanner) : (setScanner c s).mgmt = s.mgmt := rfl
@[simp] theorem setScanner_lines (c : Scanner) : (setScanner c s).lines = s.lines := rfl
@[simp] theorem setScanner_pending (c : Scanner) : (setScanner c s).pending = s.pending := rfl
@[simp] theorem setScanner_returns_queue (c : Scanner) : (setScanner c s).returns.queue = s.returns.queue := rfl
@[simp] theorem setScanner_returns_sweep (c : Scanner) : (setScanner c s).returns.sweep = s.returns.sweep := rfl

@[simp] theorem setCharge_link (q : List QueuedCharge) (r : Option Snapshot) : (setCharge q r s).link = s.link := rfl
@[simp] theorem setCharge_creds (q : List QueuedCharge) (r : Option Snapshot) : (setCharge q r s).creds = s.creds := rfl
@[simp] theorem setCharge_comps (q : List QueuedCharge) (r : Option Snapshot) : (setCharge q r s).comps = s.comps := rfl
@[simp] theorem setCharge_freeLists (q : List QueuedCharge) (r : Option Snapshot) : (setCharge q r s).freeLists = s.freeLists := rfl
@[simp] theorem setCharge_maintSlot (q : List QueuedCharge) (r : Option Snapshot) : (setCharge q r s).maintSlot = s.maintSlot := rfl
@[simp] theorem setCharge_parcels (q : List QueuedCharge) (r : Option Snapshot) : (setCharge q r s).parcels = s.parcels := rfl
@[simp] theorem setCharge_deposit (q : List QueuedCharge) (r : Option Snapshot) : (setCharge q r s).deposit = s.deposit := rfl
@[simp] theorem setCharge_time (q : List QueuedCharge) (r : Option Snapshot) : (setCharge q r s).time = s.time := rfl
@[simp] theorem setCharge_collection (q : List QueuedCharge) (r : Option Snapshot) : (setCharge q r s).collection = s.collection := rfl
@[simp] theorem setCharge_returns (q : List QueuedCharge) (r : Option Snapshot) : (setCharge q r s).returns = s.returns := rfl
@[simp] theorem setCharge_arbiter (q : List QueuedCharge) (r : Option Snapshot) : (setCharge q r s).arbiter = s.arbiter := rfl
@[simp] theorem setCharge_bus (q : List QueuedCharge) (r : Option Snapshot) : (setCharge q r s).bus = s.bus := rfl
@[simp] theorem setCharge_dormancy (q : List QueuedCharge) (r : Option Snapshot) : (setCharge q r s).dormancy = s.dormancy := rfl
@[simp] theorem setCharge_doors (q : List QueuedCharge) (r : Option Snapshot) : (setCharge q r s).doors = s.doors := rfl
@[simp] theorem setCharge_notices (q : List QueuedCharge) (r : Option Snapshot) : (setCharge q r s).notices = s.notices := rfl
@[simp] theorem setCharge_counters (q : List QueuedCharge) (r : Option Snapshot) : (setCharge q r s).counters = s.counters := rfl
@[simp] theorem setCharge_checker (q : List QueuedCharge) (r : Option Snapshot) : (setCharge q r s).checker = s.checker := rfl
@[simp] theorem setCharge_mgmt (q : List QueuedCharge) (r : Option Snapshot) : (setCharge q r s).mgmt = s.mgmt := rfl
@[simp] theorem setCharge_lines (q : List QueuedCharge) (r : Option Snapshot) : (setCharge q r s).lines = s.lines := rfl
@[simp] theorem setCharge_pending (q : List QueuedCharge) (r : Option Snapshot) : (setCharge q r s).pending = s.pending := rfl
@[simp] theorem setCharge_charge_plans (q : List QueuedCharge) (r : Option Snapshot) : (setCharge q r s).charge.plans = s.charge.plans := rfl
@[simp] theorem setCharge_charge_peaks (q : List QueuedCharge) (r : Option Snapshot) : (setCharge q r s).charge.peaks = s.charge.peaks := rfl

@[simp] theorem modConfig_link (f : ConfigRecord → ConfigRecord) : (modConfig f s).link = s.link := rfl
@[simp] theorem modConfig_creds (f : ConfigRecord → ConfigRecord) : (modConfig f s).creds = s.creds := rfl
@[simp] theorem modConfig_comps (f : ConfigRecord → ConfigRecord) : (modConfig f s).comps = s.comps := rfl
@[simp] theorem modConfig_freeLists (f : ConfigRecord → ConfigRecord) : (modConfig f s).freeLists = s.freeLists := rfl
@[simp] theorem modConfig_maintSlot (f : ConfigRecord → ConfigRecord) : (modConfig f s).maintSlot = s.maintSlot := rfl
@[simp] theorem modConfig_parcels (f : ConfigRecord → ConfigRecord) : (modConfig f s).parcels = s.parcels := rfl
@[simp] theorem modConfig_deposit (f : ConfigRecord → ConfigRecord) : (modConfig f s).deposit = s.deposit := rfl
@[simp] theorem modConfig_time (f : ConfigRecord → ConfigRecord) : (modConfig f s).time = s.time := rfl
@[simp] theorem modConfig_charge (f : ConfigRecord → ConfigRecord) : (modConfig f s).charge = s.charge := rfl
@[simp] theorem modConfig_collection (f : ConfigRecord → ConfigRecord) : (modConfig f s).collection = s.collection := rfl
@[simp] theorem modConfig_returns (f : ConfigRecord → ConfigRecord) : (modConfig f s).returns = s.returns := rfl
@[simp] theorem modConfig_arbiter (f : ConfigRecord → ConfigRecord) : (modConfig f s).arbiter = s.arbiter := rfl
@[simp] theorem modConfig_bus (f : ConfigRecord → ConfigRecord) : (modConfig f s).bus = s.bus := rfl
@[simp] theorem modConfig_dormancy (f : ConfigRecord → ConfigRecord) : (modConfig f s).dormancy = s.dormancy := rfl
@[simp] theorem modConfig_doors (f : ConfigRecord → ConfigRecord) : (modConfig f s).doors = s.doors := rfl
@[simp] theorem modConfig_notices (f : ConfigRecord → ConfigRecord) : (modConfig f s).notices = s.notices := rfl
@[simp] theorem modConfig_counters (f : ConfigRecord → ConfigRecord) : (modConfig f s).counters = s.counters := rfl
@[simp] theorem modConfig_checker (f : ConfigRecord → ConfigRecord) : (modConfig f s).checker = s.checker := rfl
@[simp] theorem modConfig_lines (f : ConfigRecord → ConfigRecord) : (modConfig f s).lines = s.lines := rfl
@[simp] theorem modConfig_pending (f : ConfigRecord → ConfigRecord) : (modConfig f s).pending = s.pending := rfl
@[simp] theorem modConfig_mgmt_cursor (f : ConfigRecord → ConfigRecord) : (modConfig f s).mgmt.cursor = s.mgmt.cursor := rfl
@[simp] theorem modConfig_mgmt_resetCause (f : ConfigRecord → ConfigRecord) : (modConfig f s).mgmt.resetCause = s.mgmt.resetCause := rfl
@[simp] theorem modConfig_mgmt_retentionIntact (f : ConfigRecord → ConfigRecord) : (modConfig f s).mgmt.retentionIntact = s.mgmt.retentionIntact := rfl

@[simp] theorem count_link (k : Counter) : (count k s).link = s.link := rfl
@[simp] theorem count_creds (k : Counter) : (count k s).creds = s.creds := rfl
@[simp] theorem count_comps (k : Counter) : (count k s).comps = s.comps := rfl
@[simp] theorem count_freeLists (k : Counter) : (count k s).freeLists = s.freeLists := rfl
@[simp] theorem count_maintSlot (k : Counter) : (count k s).maintSlot = s.maintSlot := rfl
@[simp] theorem count_parcels (k : Counter) : (count k s).parcels = s.parcels := rfl
@[simp] theorem count_deposit (k : Counter) : (count k s).deposit = s.deposit := rfl
@[simp] theorem count_time (k : Counter) : (count k s).time = s.time := rfl
@[simp] theorem count_charge (k : Counter) : (count k s).charge = s.charge := rfl
@[simp] theorem count_collection (k : Counter) : (count k s).collection = s.collection := rfl
@[simp] theorem count_returns (k : Counter) : (count k s).returns = s.returns := rfl
@[simp] theorem count_arbiter (k : Counter) : (count k s).arbiter = s.arbiter := rfl
@[simp] theorem count_bus (k : Counter) : (count k s).bus = s.bus := rfl
@[simp] theorem count_dormancy (k : Counter) : (count k s).dormancy = s.dormancy := rfl
@[simp] theorem count_doors (k : Counter) : (count k s).doors = s.doors := rfl
@[simp] theorem count_notices (k : Counter) : (count k s).notices = s.notices := rfl
@[simp] theorem count_checker (k : Counter) : (count k s).checker = s.checker := rfl
@[simp] theorem count_mgmt (k : Counter) : (count k s).mgmt = s.mgmt := rfl
@[simp] theorem count_lines (k : Counter) : (count k s).lines = s.lines := rfl
@[simp] theorem count_pending (k : Counter) : (count k s).pending = s.pending := rfl
@[simp] theorem count_counters_snap (k : Counter) : (count k s).counters.snap = s.counters.snap := rfl

@[simp] theorem modClass_link (c : NoticeClass) (f : ClassQueue → ClassQueue) : (modClass c f s).link = s.link := rfl
@[simp] theorem modClass_creds (c : NoticeClass) (f : ClassQueue → ClassQueue) : (modClass c f s).creds = s.creds := rfl
@[simp] theorem modClass_comps (c : NoticeClass) (f : ClassQueue → ClassQueue) : (modClass c f s).comps = s.comps := rfl
@[simp] theorem modClass_freeLists (c : NoticeClass) (f : ClassQueue → ClassQueue) : (modClass c f s).freeLists = s.freeLists := rfl
@[simp] theorem modClass_maintSlot (c : NoticeClass) (f : ClassQueue → ClassQueue) : (modClass c f s).maintSlot = s.maintSlot := rfl
@[simp] theorem modClass_parcels (c : NoticeClass) (f : ClassQueue → ClassQueue) : (modClass c f s).parcels = s.parcels := rfl
@[simp] theorem modClass_deposit (c : NoticeClass) (f : ClassQueue → ClassQueue) : (modClass c f s).deposit = s.deposit := rfl
@[simp] theorem modClass_time (c : NoticeClass) (f : ClassQueue → ClassQueue) : (modClass c f s).time = s.time := rfl
@[simp] theorem modClass_charge (c : NoticeClass) (f : ClassQueue → ClassQueue) : (modClass c f s).charge = s.charge := rfl
@[simp] theorem modClass_collection (c : NoticeClass) (f : ClassQueue → ClassQueue) : (modClass c f s).collection = s.collection := rfl
@[simp] theorem modClass_returns (c : NoticeClass) (f : ClassQueue → ClassQueue) : (modClass c f s).returns = s.returns := rfl
@[simp] theorem modClass_arbiter (c : NoticeClass) (f : ClassQueue → ClassQueue) : (modClass c f s).arbiter = s.arbiter := rfl
@[simp] theorem modClass_bus (c : NoticeClass) (f : ClassQueue → ClassQueue) : (modClass c f s).bus = s.bus := rfl
@[simp] theorem modClass_dormancy (c : NoticeClass) (f : ClassQueue → ClassQueue) : (modClass c f s).dormancy = s.dormancy := rfl
@[simp] theorem modClass_doors (c : NoticeClass) (f : ClassQueue → ClassQueue) : (modClass c f s).doors = s.doors := rfl
@[simp] theorem modClass_counters (c : NoticeClass) (f : ClassQueue → ClassQueue) : (modClass c f s).counters = s.counters := rfl
@[simp] theorem modClass_checker (c : NoticeClass) (f : ClassQueue → ClassQueue) : (modClass c f s).checker = s.checker := rfl
@[simp] theorem modClass_mgmt (c : NoticeClass) (f : ClassQueue → ClassQueue) : (modClass c f s).mgmt = s.mgmt := rfl
@[simp] theorem modClass_lines (c : NoticeClass) (f : ClassQueue → ClassQueue) : (modClass c f s).lines = s.lines := rfl
@[simp] theorem modClass_pending (c : NoticeClass) (f : ClassQueue → ClassQueue) : (modClass c f s).pending = s.pending := rfl
@[simp] theorem modClass_notices_onLine (c : NoticeClass) (f : ClassQueue → ClassQueue) : (modClass c f s).notices.onLine = s.notices.onLine := rfl
@[simp] theorem modClass_notices_drillStep (c : NoticeClass) (f : ClassQueue → ClassQueue) : (modClass c f s).notices.drillStep = s.notices.drillStep := rfl

@[simp] theorem raiseMarked_link (b : NoticeBody) (d m : Bool) : (raiseMarked b d m s).link = s.link := rfl
@[simp] theorem raiseMarked_creds (b : NoticeBody) (d m : Bool) : (raiseMarked b d m s).creds = s.creds := rfl
@[simp] theorem raiseMarked_comps (b : NoticeBody) (d m : Bool) : (raiseMarked b d m s).comps = s.comps := rfl
@[simp] theorem raiseMarked_freeLists (b : NoticeBody) (d m : Bool) : (raiseMarked b d m s).freeLists = s.freeLists := rfl
@[simp] theorem raiseMarked_maintSlot (b : NoticeBody) (d m : Bool) : (raiseMarked b d m s).maintSlot = s.maintSlot := rfl
@[simp] theorem raiseMarked_parcels (b : NoticeBody) (d m : Bool) : (raiseMarked b d m s).parcels = s.parcels := rfl
@[simp] theorem raiseMarked_deposit (b : NoticeBody) (d m : Bool) : (raiseMarked b d m s).deposit = s.deposit := rfl
@[simp] theorem raiseMarked_time (b : NoticeBody) (d m : Bool) : (raiseMarked b d m s).time = s.time := rfl
@[simp] theorem raiseMarked_charge (b : NoticeBody) (d m : Bool) : (raiseMarked b d m s).charge = s.charge := rfl
@[simp] theorem raiseMarked_collection (b : NoticeBody) (d m : Bool) : (raiseMarked b d m s).collection = s.collection := rfl
@[simp] theorem raiseMarked_returns (b : NoticeBody) (d m : Bool) : (raiseMarked b d m s).returns = s.returns := rfl
@[simp] theorem raiseMarked_arbiter (b : NoticeBody) (d m : Bool) : (raiseMarked b d m s).arbiter = s.arbiter := rfl
@[simp] theorem raiseMarked_bus (b : NoticeBody) (d m : Bool) : (raiseMarked b d m s).bus = s.bus := rfl
@[simp] theorem raiseMarked_dormancy (b : NoticeBody) (d m : Bool) : (raiseMarked b d m s).dormancy = s.dormancy := rfl
@[simp] theorem raiseMarked_doors (b : NoticeBody) (d m : Bool) : (raiseMarked b d m s).doors = s.doors := rfl
@[simp] theorem raiseMarked_counters (b : NoticeBody) (d m : Bool) : (raiseMarked b d m s).counters = s.counters := rfl
@[simp] theorem raiseMarked_checker (b : NoticeBody) (d m : Bool) : (raiseMarked b d m s).checker = s.checker := rfl
@[simp] theorem raiseMarked_mgmt (b : NoticeBody) (d m : Bool) : (raiseMarked b d m s).mgmt = s.mgmt := rfl
@[simp] theorem raiseMarked_lines (b : NoticeBody) (d m : Bool) : (raiseMarked b d m s).lines = s.lines := rfl
@[simp] theorem raiseMarked_pending (b : NoticeBody) (d m : Bool) : (raiseMarked b d m s).pending = s.pending := rfl
@[simp] theorem raiseMarked_notices_onLine (b : NoticeBody) (d m : Bool) : (raiseMarked b d m s).notices.onLine = s.notices.onLine := rfl
@[simp] theorem raiseMarked_notices_drillStep (b : NoticeBody) (d m : Bool) : (raiseMarked b d m s).notices.drillStep = s.notices.drillStep := rfl

@[simp] theorem raise_link (b : NoticeBody) : (raise b s).link = s.link := rfl
@[simp] theorem raise_creds (b : NoticeBody) : (raise b s).creds = s.creds := rfl
@[simp] theorem raise_comps (b : NoticeBody) : (raise b s).comps = s.comps := rfl
@[simp] theorem raise_freeLists (b : NoticeBody) : (raise b s).freeLists = s.freeLists := rfl
@[simp] theorem raise_maintSlot (b : NoticeBody) : (raise b s).maintSlot = s.maintSlot := rfl
@[simp] theorem raise_parcels (b : NoticeBody) : (raise b s).parcels = s.parcels := rfl
@[simp] theorem raise_deposit (b : NoticeBody) : (raise b s).deposit = s.deposit := rfl
@[simp] theorem raise_time (b : NoticeBody) : (raise b s).time = s.time := rfl
@[simp] theorem raise_charge (b : NoticeBody) : (raise b s).charge = s.charge := rfl
@[simp] theorem raise_collection (b : NoticeBody) : (raise b s).collection = s.collection := rfl
@[simp] theorem raise_returns (b : NoticeBody) : (raise b s).returns = s.returns := rfl
@[simp] theorem raise_arbiter (b : NoticeBody) : (raise b s).arbiter = s.arbiter := rfl
@[simp] theorem raise_bus (b : NoticeBody) : (raise b s).bus = s.bus := rfl
@[simp] theorem raise_dormancy (b : NoticeBody) : (raise b s).dormancy = s.dormancy := rfl
@[simp] theorem raise_doors (b : NoticeBody) : (raise b s).doors = s.doors := rfl
@[simp] theorem raise_counters (b : NoticeBody) : (raise b s).counters = s.counters := rfl
@[simp] theorem raise_checker (b : NoticeBody) : (raise b s).checker = s.checker := rfl
@[simp] theorem raise_mgmt (b : NoticeBody) : (raise b s).mgmt = s.mgmt := rfl
@[simp] theorem raise_lines (b : NoticeBody) : (raise b s).lines = s.lines := rfl
@[simp] theorem raise_pending (b : NoticeBody) : (raise b s).pending = s.pending := rfl
@[simp] theorem raise_notices_onLine (b : NoticeBody) : (raise b s).notices.onLine = s.notices.onLine := rfl
@[simp] theorem raise_notices_drillStep (b : NoticeBody) : (raise b s).notices.drillStep = s.notices.drillStep := rfl

@[simp] theorem setUse_link (u : BusUse) : (setUse u s).link = s.link := rfl
@[simp] theorem setUse_creds (u : BusUse) : (setUse u s).creds = s.creds := rfl
@[simp] theorem setUse_comps (u : BusUse) : (setUse u s).comps = s.comps := rfl
@[simp] theorem setUse_freeLists (u : BusUse) : (setUse u s).freeLists = s.freeLists := rfl
@[simp] theorem setUse_maintSlot (u : BusUse) : (setUse u s).maintSlot = s.maintSlot := rfl
@[simp] theorem setUse_parcels (u : BusUse) : (setUse u s).parcels = s.parcels := rfl
@[simp] theorem setUse_deposit (u : BusUse) : (setUse u s).deposit = s.deposit := rfl
@[simp] theorem setUse_time (u : BusUse) : (setUse u s).time = s.time := rfl
@[simp] theorem setUse_charge (u : BusUse) : (setUse u s).charge = s.charge := rfl
@[simp] theorem setUse_collection (u : BusUse) : (setUse u s).collection = s.collection := rfl
@[simp] theorem setUse_returns (u : BusUse) : (setUse u s).returns = s.returns := rfl
@[simp] theorem setUse_arbiter (u : BusUse) : (setUse u s).arbiter = s.arbiter := rfl
@[simp] theorem setUse_dormancy (u : BusUse) : (setUse u s).dormancy = s.dormancy := rfl
@[simp] theorem setUse_doors (u : BusUse) : (setUse u s).doors = s.doors := rfl
@[simp] theorem setUse_notices (u : BusUse) : (setUse u s).notices = s.notices := rfl
@[simp] theorem setUse_counters (u : BusUse) : (setUse u s).counters = s.counters := rfl
@[simp] theorem setUse_checker (u : BusUse) : (setUse u s).checker = s.checker := rfl
@[simp] theorem setUse_mgmt (u : BusUse) : (setUse u s).mgmt = s.mgmt := rfl
@[simp] theorem setUse_lines (u : BusUse) : (setUse u s).lines = s.lines := rfl
@[simp] theorem setUse_pending (u : BusUse) : (setUse u s).pending = s.pending := rfl
@[simp] theorem setUse_bus_queue (u : BusUse) : (setUse u s).bus.queue = s.bus.queue := rfl
@[simp] theorem setUse_bus_overflow (u : BusUse) : (setUse u s).bus.overflow = s.bus.overflow := rfl
@[simp] theorem setUse_bus_columns (u : BusUse) : (setUse u s).bus.columns = s.bus.columns := rfl
@[simp] theorem setUse_bus_retry (u : BusUse) : (setUse u s).bus.retry = s.bus.retry := rfl

@[simp] theorem setRetry_link (r : Option Retry) : (setRetry r s).link = s.link := rfl
@[simp] theorem setRetry_creds (r : Option Retry) : (setRetry r s).creds = s.creds := rfl
@[simp] theorem setRetry_comps (r : Option Retry) : (setRetry r s).comps = s.comps := rfl
@[simp] theorem setRetry_freeLists (r : Option Retry) : (setRetry r s).freeLists = s.freeLists := rfl
@[simp] theorem setRetry_maintSlot (r : Option Retry) : (setRetry r s).maintSlot = s.maintSlot := rfl
@[simp] theorem setRetry_parcels (r : Option Retry) : (setRetry r s).parcels = s.parcels := rfl
@[simp] theorem setRetry_deposit (r : Option Retry) : (setRetry r s).deposit = s.deposit := rfl
@[simp] theorem setRetry_time (r : Option Retry) : (setRetry r s).time = s.time := rfl
@[simp] theorem setRetry_charge (r : Option Retry) : (setRetry r s).charge = s.charge := rfl
@[simp] theorem setRetry_collection (r : Option Retry) : (setRetry r s).collection = s.collection := rfl
@[simp] theorem setRetry_returns (r : Option Retry) : (setRetry r s).returns = s.returns := rfl
@[simp] theorem setRetry_arbiter (r : Option Retry) : (setRetry r s).arbiter = s.arbiter := rfl
@[simp] theorem setRetry_dormancy (r : Option Retry) : (setRetry r s).dormancy = s.dormancy := rfl
@[simp] theorem setRetry_doors (r : Option Retry) : (setRetry r s).doors = s.doors := rfl
@[simp] theorem setRetry_notices (r : Option Retry) : (setRetry r s).notices = s.notices := rfl
@[simp] theorem setRetry_counters (r : Option Retry) : (setRetry r s).counters = s.counters := rfl
@[simp] theorem setRetry_checker (r : Option Retry) : (setRetry r s).checker = s.checker := rfl
@[simp] theorem setRetry_mgmt (r : Option Retry) : (setRetry r s).mgmt = s.mgmt := rfl
@[simp] theorem setRetry_lines (r : Option Retry) : (setRetry r s).lines = s.lines := rfl
@[simp] theorem setRetry_pending (r : Option Retry) : (setRetry r s).pending = s.pending := rfl
@[simp] theorem setRetry_bus_queue (r : Option Retry) : (setRetry r s).bus.queue = s.bus.queue := rfl
@[simp] theorem setRetry_bus_overflow (r : Option Retry) : (setRetry r s).bus.overflow = s.bus.overflow := rfl
@[simp] theorem setRetry_bus_columns (r : Option Retry) : (setRetry r s).bus.columns = s.bus.columns := rfl
@[simp] theorem setRetry_bus_use (r : Option Retry) : (setRetry r s).bus.use = s.bus.use := rfl

@[simp] theorem setTx_creds (x : Transmission) : (setTx x s).creds = s.creds := rfl
@[simp] theorem setTx_comps (x : Transmission) : (setTx x s).comps = s.comps := rfl
@[simp] theorem setTx_freeLists (x : Transmission) : (setTx x s).freeLists = s.freeLists := rfl
@[simp] theorem setTx_maintSlot (x : Transmission) : (setTx x s).maintSlot = s.maintSlot := rfl
@[simp] theorem setTx_parcels (x : Transmission) : (setTx x s).parcels = s.parcels := rfl
@[simp] theorem setTx_deposit (x : Transmission) : (setTx x s).deposit = s.deposit := rfl
@[simp] theorem setTx_time (x : Transmission) : (setTx x s).time = s.time := rfl
@[simp] theorem setTx_charge (x : Transmission) : (setTx x s).charge = s.charge := rfl
@[simp] theorem setTx_collection (x : Transmission) : (setTx x s).collection = s.collection := rfl
@[simp] theorem setTx_returns (x : Transmission) : (setTx x s).returns = s.returns := rfl
@[simp] theorem setTx_arbiter (x : Transmission) : (setTx x s).arbiter = s.arbiter := rfl
@[simp] theorem setTx_bus (x : Transmission) : (setTx x s).bus = s.bus := rfl
@[simp] theorem setTx_dormancy (x : Transmission) : (setTx x s).dormancy = s.dormancy := rfl
@[simp] theorem setTx_doors (x : Transmission) : (setTx x s).doors = s.doors := rfl
@[simp] theorem setTx_notices (x : Transmission) : (setTx x s).notices = s.notices := rfl
@[simp] theorem setTx_counters (x : Transmission) : (setTx x s).counters = s.counters := rfl
@[simp] theorem setTx_checker (x : Transmission) : (setTx x s).checker = s.checker := rfl
@[simp] theorem setTx_mgmt (x : Transmission) : (setTx x s).mgmt = s.mgmt := rfl
@[simp] theorem setTx_lines (x : Transmission) : (setTx x s).lines = s.lines := rfl
@[simp] theorem setTx_pending (x : Transmission) : (setTx x s).pending = s.pending := rfl
@[simp] theorem setTx_link_fifo (x : Transmission) : (setTx x s).link.fifo = s.link.fifo := rfl
@[simp] theorem setTx_link_replies (x : Transmission) : (setTx x s).link.replies = s.link.replies := rfl
@[simp] theorem setTx_link_reserved (x : Transmission) : (setTx x s).link.reserved = s.link.reserved := rfl
@[simp] theorem setTx_link_state (x : Transmission) : (setTx x s).link.state = s.link.state := rfl

@[simp] theorem setOnLine_link (c : Option NoticeClass) : (setOnLine c s).link = s.link := rfl
@[simp] theorem setOnLine_creds (c : Option NoticeClass) : (setOnLine c s).creds = s.creds := rfl
@[simp] theorem setOnLine_comps (c : Option NoticeClass) : (setOnLine c s).comps = s.comps := rfl
@[simp] theorem setOnLine_freeLists (c : Option NoticeClass) : (setOnLine c s).freeLists = s.freeLists := rfl
@[simp] theorem setOnLine_maintSlot (c : Option NoticeClass) : (setOnLine c s).maintSlot = s.maintSlot := rfl
@[simp] theorem setOnLine_parcels (c : Option NoticeClass) : (setOnLine c s).parcels = s.parcels := rfl
@[simp] theorem setOnLine_deposit (c : Option NoticeClass) : (setOnLine c s).deposit = s.deposit := rfl
@[simp] theorem setOnLine_time (c : Option NoticeClass) : (setOnLine c s).time = s.time := rfl
@[simp] theorem setOnLine_charge (c : Option NoticeClass) : (setOnLine c s).charge = s.charge := rfl
@[simp] theorem setOnLine_collection (c : Option NoticeClass) : (setOnLine c s).collection = s.collection := rfl
@[simp] theorem setOnLine_returns (c : Option NoticeClass) : (setOnLine c s).returns = s.returns := rfl
@[simp] theorem setOnLine_arbiter (c : Option NoticeClass) : (setOnLine c s).arbiter = s.arbiter := rfl
@[simp] theorem setOnLine_bus (c : Option NoticeClass) : (setOnLine c s).bus = s.bus := rfl
@[simp] theorem setOnLine_dormancy (c : Option NoticeClass) : (setOnLine c s).dormancy = s.dormancy := rfl
@[simp] theorem setOnLine_doors (c : Option NoticeClass) : (setOnLine c s).doors = s.doors := rfl
@[simp] theorem setOnLine_counters (c : Option NoticeClass) : (setOnLine c s).counters = s.counters := rfl
@[simp] theorem setOnLine_checker (c : Option NoticeClass) : (setOnLine c s).checker = s.checker := rfl
@[simp] theorem setOnLine_mgmt (c : Option NoticeClass) : (setOnLine c s).mgmt = s.mgmt := rfl
@[simp] theorem setOnLine_lines (c : Option NoticeClass) : (setOnLine c s).lines = s.lines := rfl
@[simp] theorem setOnLine_pending (c : Option NoticeClass) : (setOnLine c s).pending = s.pending := rfl
@[simp] theorem setOnLine_notices_classes (c : Option NoticeClass) : (setOnLine c s).notices.classes = s.notices.classes := rfl
@[simp] theorem setOnLine_notices_drillStep (c : Option NoticeClass) : (setOnLine c s).notices.drillStep = s.notices.drillStep := rfl

@[simp] theorem setRx_creds (p : RxPhase) (b : List Byte) : (setRx p b s).creds = s.creds := rfl
@[simp] theorem setRx_comps (p : RxPhase) (b : List Byte) : (setRx p b s).comps = s.comps := rfl
@[simp] theorem setRx_freeLists (p : RxPhase) (b : List Byte) : (setRx p b s).freeLists = s.freeLists := rfl
@[simp] theorem setRx_maintSlot (p : RxPhase) (b : List Byte) : (setRx p b s).maintSlot = s.maintSlot := rfl
@[simp] theorem setRx_parcels (p : RxPhase) (b : List Byte) : (setRx p b s).parcels = s.parcels := rfl
@[simp] theorem setRx_deposit (p : RxPhase) (b : List Byte) : (setRx p b s).deposit = s.deposit := rfl
@[simp] theorem setRx_time (p : RxPhase) (b : List Byte) : (setRx p b s).time = s.time := rfl
@[simp] theorem setRx_charge (p : RxPhase) (b : List Byte) : (setRx p b s).charge = s.charge := rfl
@[simp] theorem setRx_collection (p : RxPhase) (b : List Byte) : (setRx p b s).collection = s.collection := rfl
@[simp] theorem setRx_returns (p : RxPhase) (b : List Byte) : (setRx p b s).returns = s.returns := rfl
@[simp] theorem setRx_arbiter (p : RxPhase) (b : List Byte) : (setRx p b s).arbiter = s.arbiter := rfl
@[simp] theorem setRx_bus (p : RxPhase) (b : List Byte) : (setRx p b s).bus = s.bus := rfl
@[simp] theorem setRx_dormancy (p : RxPhase) (b : List Byte) : (setRx p b s).dormancy = s.dormancy := rfl
@[simp] theorem setRx_doors (p : RxPhase) (b : List Byte) : (setRx p b s).doors = s.doors := rfl
@[simp] theorem setRx_notices (p : RxPhase) (b : List Byte) : (setRx p b s).notices = s.notices := rfl
@[simp] theorem setRx_counters (p : RxPhase) (b : List Byte) : (setRx p b s).counters = s.counters := rfl
@[simp] theorem setRx_checker (p : RxPhase) (b : List Byte) : (setRx p b s).checker = s.checker := rfl
@[simp] theorem setRx_mgmt (p : RxPhase) (b : List Byte) : (setRx p b s).mgmt = s.mgmt := rfl
@[simp] theorem setRx_lines (p : RxPhase) (b : List Byte) : (setRx p b s).lines = s.lines := rfl
@[simp] theorem setRx_pending (p : RxPhase) (b : List Byte) : (setRx p b s).pending = s.pending := rfl
@[simp] theorem setRx_link_fifo (p : RxPhase) (b : List Byte) : (setRx p b s).link.fifo = s.link.fifo := rfl
@[simp] theorem setRx_link_replies (p : RxPhase) (b : List Byte) : (setRx p b s).link.replies = s.link.replies := rfl
@[simp] theorem setRx_link_reserved (p : RxPhase) (b : List Byte) : (setRx p b s).link.reserved = s.link.reserved := rfl
@[simp] theorem setRx_link_state (p : RxPhase) (b : List Byte) : (setRx p b s).link.state = s.link.state := rfl
@[simp] theorem setRx_link_tx (p : RxPhase) (b : List Byte) : (setRx p b s).link.tx = s.link.tx := rfl

@[simp] theorem setAgain_creds (l : List Byte) : (setAgain l s).creds = s.creds := rfl
@[simp] theorem setAgain_comps (l : List Byte) : (setAgain l s).comps = s.comps := rfl
@[simp] theorem setAgain_freeLists (l : List Byte) : (setAgain l s).freeLists = s.freeLists := rfl
@[simp] theorem setAgain_maintSlot (l : List Byte) : (setAgain l s).maintSlot = s.maintSlot := rfl
@[simp] theorem setAgain_parcels (l : List Byte) : (setAgain l s).parcels = s.parcels := rfl
@[simp] theorem setAgain_deposit (l : List Byte) : (setAgain l s).deposit = s.deposit := rfl
@[simp] theorem setAgain_time (l : List Byte) : (setAgain l s).time = s.time := rfl
@[simp] theorem setAgain_charge (l : List Byte) : (setAgain l s).charge = s.charge := rfl
@[simp] theorem setAgain_collection (l : List Byte) : (setAgain l s).collection = s.collection := rfl
@[simp] theorem setAgain_returns (l : List Byte) : (setAgain l s).returns = s.returns := rfl
@[simp] theorem setAgain_arbiter (l : List Byte) : (setAgain l s).arbiter = s.arbiter := rfl
@[simp] theorem setAgain_bus (l : List Byte) : (setAgain l s).bus = s.bus := rfl
@[simp] theorem setAgain_dormancy (l : List Byte) : (setAgain l s).dormancy = s.dormancy := rfl
@[simp] theorem setAgain_doors (l : List Byte) : (setAgain l s).doors = s.doors := rfl
@[simp] theorem setAgain_notices (l : List Byte) : (setAgain l s).notices = s.notices := rfl
@[simp] theorem setAgain_counters (l : List Byte) : (setAgain l s).counters = s.counters := rfl
@[simp] theorem setAgain_checker (l : List Byte) : (setAgain l s).checker = s.checker := rfl
@[simp] theorem setAgain_mgmt (l : List Byte) : (setAgain l s).mgmt = s.mgmt := rfl
@[simp] theorem setAgain_lines (l : List Byte) : (setAgain l s).lines = s.lines := rfl
@[simp] theorem setAgain_pending (l : List Byte) : (setAgain l s).pending = s.pending := rfl
@[simp] theorem setAgain_link_fifo (l : List Byte) : (setAgain l s).link.fifo = s.link.fifo := rfl
@[simp] theorem setAgain_link_replies (l : List Byte) : (setAgain l s).link.replies = s.link.replies := rfl
@[simp] theorem setAgain_link_reserved (l : List Byte) : (setAgain l s).link.reserved = s.link.reserved := rfl
@[simp] theorem setAgain_link_state (l : List Byte) : (setAgain l s).link.state = s.link.state := rfl
@[simp] theorem setAgain_link_tx (l : List Byte) : (setAgain l s).link.tx = s.link.tx := rfl
@[simp] theorem setAgain_link_phase (l : List Byte) : (setAgain l s).link.phase = s.link.phase := rfl
@[simp] theorem setAgain_link_buffer (l : List Byte) : (setAgain l s).link.buffer = s.link.buffer := rfl

@[simp] theorem setCursor_link (c : TableCursor) : (setCursor c s).link = s.link := rfl
@[simp] theorem setCursor_creds (c : TableCursor) : (setCursor c s).creds = s.creds := rfl
@[simp] theorem setCursor_comps (c : TableCursor) : (setCursor c s).comps = s.comps := rfl
@[simp] theorem setCursor_freeLists (c : TableCursor) : (setCursor c s).freeLists = s.freeLists := rfl
@[simp] theorem setCursor_maintSlot (c : TableCursor) : (setCursor c s).maintSlot = s.maintSlot := rfl
@[simp] theorem setCursor_parcels (c : TableCursor) : (setCursor c s).parcels = s.parcels := rfl
@[simp] theorem setCursor_deposit (c : TableCursor) : (setCursor c s).deposit = s.deposit := rfl
@[simp] theorem setCursor_time (c : TableCursor) : (setCursor c s).time = s.time := rfl
@[simp] theorem setCursor_charge (c : TableCursor) : (setCursor c s).charge = s.charge := rfl
@[simp] theorem setCursor_collection (c : TableCursor) : (setCursor c s).collection = s.collection := rfl
@[simp] theorem setCursor_returns (c : TableCursor) : (setCursor c s).returns = s.returns := rfl
@[simp] theorem setCursor_arbiter (c : TableCursor) : (setCursor c s).arbiter = s.arbiter := rfl
@[simp] theorem setCursor_bus (c : TableCursor) : (setCursor c s).bus = s.bus := rfl
@[simp] theorem setCursor_dormancy (c : TableCursor) : (setCursor c s).dormancy = s.dormancy := rfl
@[simp] theorem setCursor_doors (c : TableCursor) : (setCursor c s).doors = s.doors := rfl
@[simp] theorem setCursor_notices (c : TableCursor) : (setCursor c s).notices = s.notices := rfl
@[simp] theorem setCursor_counters (c : TableCursor) : (setCursor c s).counters = s.counters := rfl
@[simp] theorem setCursor_checker (c : TableCursor) : (setCursor c s).checker = s.checker := rfl
@[simp] theorem setCursor_lines (c : TableCursor) : (setCursor c s).lines = s.lines := rfl
@[simp] theorem setCursor_pending (c : TableCursor) : (setCursor c s).pending = s.pending := rfl
@[simp] theorem setCursor_mgmt_config (c : TableCursor) : (setCursor c s).mgmt.config = s.mgmt.config := rfl
@[simp] theorem setCursor_mgmt_resetCause (c : TableCursor) : (setCursor c s).mgmt.resetCause = s.mgmt.resetCause := rfl
@[simp] theorem setCursor_mgmt_retentionIntact (c : TableCursor) : (setCursor c s).mgmt.retentionIntact = s.mgmt.retentionIntact := rfl

@[simp] theorem withdraw_link (n : CompNo) : (withdraw n s).link = s.link := rfl
@[simp] theorem withdraw_creds (n : CompNo) : (withdraw n s).creds = s.creds := rfl
@[simp] theorem withdraw_comps (n : CompNo) : (withdraw n s).comps = s.comps := rfl
@[simp] theorem withdraw_freeLists (n : CompNo) : (withdraw n s).freeLists = s.freeLists := rfl
@[simp] theorem withdraw_maintSlot (n : CompNo) : (withdraw n s).maintSlot = s.maintSlot := rfl
@[simp] theorem withdraw_parcels (n : CompNo) : (withdraw n s).parcels = s.parcels := rfl
@[simp] theorem withdraw_deposit (n : CompNo) : (withdraw n s).deposit = s.deposit := rfl
@[simp] theorem withdraw_time (n : CompNo) : (withdraw n s).time = s.time := rfl
@[simp] theorem withdraw_charge (n : CompNo) : (withdraw n s).charge = s.charge := rfl
@[simp] theorem withdraw_collection (n : CompNo) : (withdraw n s).collection = s.collection := rfl
@[simp] theorem withdraw_returns (n : CompNo) : (withdraw n s).returns = s.returns := rfl
@[simp] theorem withdraw_bus (n : CompNo) : (withdraw n s).bus = s.bus := rfl
@[simp] theorem withdraw_dormancy (n : CompNo) : (withdraw n s).dormancy = s.dormancy := rfl
@[simp] theorem withdraw_doors (n : CompNo) : (withdraw n s).doors = s.doors := rfl
@[simp] theorem withdraw_notices (n : CompNo) : (withdraw n s).notices = s.notices := rfl
@[simp] theorem withdraw_counters (n : CompNo) : (withdraw n s).counters = s.counters := rfl
@[simp] theorem withdraw_checker (n : CompNo) : (withdraw n s).checker = s.checker := rfl
@[simp] theorem withdraw_mgmt (n : CompNo) : (withdraw n s).mgmt = s.mgmt := rfl
@[simp] theorem withdraw_lines (n : CompNo) : (withdraw n s).lines = s.lines := rfl
@[simp] theorem withdraw_pending (n : CompNo) : (withdraw n s).pending = s.pending := rfl
@[simp] theorem withdraw_arbiter_committed (n : CompNo) : (withdraw n s).arbiter.committed = s.arbiter.committed := rfl
@[simp] theorem withdraw_arbiter_nextAge (n : CompNo) : (withdraw n s).arbiter.nextAge = s.arbiter.nextAge := rfl
@[simp] theorem withdraw_arbiter_guard (n : CompNo) : (withdraw n s).arbiter.guard = s.arbiter.guard := rfl
@[simp] theorem withdraw_arbiter_holdActive (n : CompNo) : (withdraw n s).arbiter.holdActive = s.arbiter.holdActive := rfl

@[simp] theorem leaveFree_link (n : CompNo) : (leaveFree n s).link = s.link := rfl
@[simp] theorem leaveFree_creds (n : CompNo) : (leaveFree n s).creds = s.creds := rfl
@[simp] theorem leaveFree_comps (n : CompNo) : (leaveFree n s).comps = s.comps := rfl
@[simp] theorem leaveFree_maintSlot (n : CompNo) : (leaveFree n s).maintSlot = s.maintSlot := rfl
@[simp] theorem leaveFree_parcels (n : CompNo) : (leaveFree n s).parcels = s.parcels := rfl
@[simp] theorem leaveFree_deposit (n : CompNo) : (leaveFree n s).deposit = s.deposit := rfl
@[simp] theorem leaveFree_time (n : CompNo) : (leaveFree n s).time = s.time := rfl
@[simp] theorem leaveFree_charge (n : CompNo) : (leaveFree n s).charge = s.charge := rfl
@[simp] theorem leaveFree_collection (n : CompNo) : (leaveFree n s).collection = s.collection := rfl
@[simp] theorem leaveFree_returns (n : CompNo) : (leaveFree n s).returns = s.returns := rfl
@[simp] theorem leaveFree_arbiter (n : CompNo) : (leaveFree n s).arbiter = s.arbiter := rfl
@[simp] theorem leaveFree_bus (n : CompNo) : (leaveFree n s).bus = s.bus := rfl
@[simp] theorem leaveFree_dormancy (n : CompNo) : (leaveFree n s).dormancy = s.dormancy := rfl
@[simp] theorem leaveFree_doors (n : CompNo) : (leaveFree n s).doors = s.doors := rfl
@[simp] theorem leaveFree_notices (n : CompNo) : (leaveFree n s).notices = s.notices := rfl
@[simp] theorem leaveFree_counters (n : CompNo) : (leaveFree n s).counters = s.counters := rfl
@[simp] theorem leaveFree_checker (n : CompNo) : (leaveFree n s).checker = s.checker := rfl
@[simp] theorem leaveFree_mgmt (n : CompNo) : (leaveFree n s).mgmt = s.mgmt := rfl
@[simp] theorem leaveFree_lines (n : CompNo) : (leaveFree n s).lines = s.lines := rfl
@[simp] theorem leaveFree_pending (n : CompNo) : (leaveFree n s).pending = s.pending := rfl

@[simp] theorem replied_creds (tag o : Byte) (body : List Byte) : (replied tag o body s).creds = s.creds := rfl
@[simp] theorem replied_comps (tag o : Byte) (body : List Byte) : (replied tag o body s).comps = s.comps := rfl
@[simp] theorem replied_freeLists (tag o : Byte) (body : List Byte) : (replied tag o body s).freeLists = s.freeLists := rfl
@[simp] theorem replied_maintSlot (tag o : Byte) (body : List Byte) : (replied tag o body s).maintSlot = s.maintSlot := rfl
@[simp] theorem replied_parcels (tag o : Byte) (body : List Byte) : (replied tag o body s).parcels = s.parcels := rfl
@[simp] theorem replied_deposit (tag o : Byte) (body : List Byte) : (replied tag o body s).deposit = s.deposit := rfl
@[simp] theorem replied_time (tag o : Byte) (body : List Byte) : (replied tag o body s).time = s.time := rfl
@[simp] theorem replied_charge (tag o : Byte) (body : List Byte) : (replied tag o body s).charge = s.charge := rfl
@[simp] theorem replied_collection (tag o : Byte) (body : List Byte) : (replied tag o body s).collection = s.collection := rfl
@[simp] theorem replied_returns (tag o : Byte) (body : List Byte) : (replied tag o body s).returns = s.returns := rfl
@[simp] theorem replied_arbiter (tag o : Byte) (body : List Byte) : (replied tag o body s).arbiter = s.arbiter := rfl
@[simp] theorem replied_bus (tag o : Byte) (body : List Byte) : (replied tag o body s).bus = s.bus := rfl
@[simp] theorem replied_dormancy (tag o : Byte) (body : List Byte) : (replied tag o body s).dormancy = s.dormancy := rfl
@[simp] theorem replied_doors (tag o : Byte) (body : List Byte) : (replied tag o body s).doors = s.doors := rfl
@[simp] theorem replied_notices (tag o : Byte) (body : List Byte) : (replied tag o body s).notices = s.notices := rfl
@[simp] theorem replied_counters (tag o : Byte) (body : List Byte) : (replied tag o body s).counters = s.counters := rfl
@[simp] theorem replied_checker (tag o : Byte) (body : List Byte) : (replied tag o body s).checker = s.checker := rfl
@[simp] theorem replied_mgmt (tag o : Byte) (body : List Byte) : (replied tag o body s).mgmt = s.mgmt := rfl
@[simp] theorem replied_lines (tag o : Byte) (body : List Byte) : (replied tag o body s).lines = s.lines := rfl
@[simp] theorem replied_pending (tag o : Byte) (body : List Byte) : (replied tag o body s).pending = s.pending := rfl
@[simp] theorem replied_link_fifo (tag o : Byte) (body : List Byte) : (replied tag o body s).link.fifo = s.link.fifo := rfl
@[simp] theorem replied_link_reserved (tag o : Byte) (body : List Byte) : (replied tag o body s).link.reserved = s.link.reserved := rfl
@[simp] theorem replied_link_tx (tag o : Byte) (body : List Byte) : (replied tag o body s).link.tx = s.link.tx := rfl
@[simp] theorem replied_link_state (tag o : Byte) (body : List Byte) : (replied tag o body s).link.state = s.link.state := rfl

end Sys2Proof.Machine
end

