-- ==== Sys2Proof/Laws/Ops.lean ====
section
/-! SUPPORT. What each shared operation does, said once: reading back what a write left, the writes that fold into one,
the octets that read back as the value they stand for, and the bounds the queues keep. -/

namespace Sys2Proof.Machine

/-! ### Check bytes (R190): an entry as written passes its check -/

@[simp] theorem compartmentOk_seal (n : CompNo) (c : Compartment) : compartmentOk n (sealCompartment n c) = true := by
  simp only [compartmentOk, sealCompartment, beq_iff_eq]; rfl

@[simp] theorem parcelOk_seal (k : Slot) (p : Parcel) : parcelOk k (sealParcel k p) = true := by
  simp only [parcelOk, sealParcel, beq_iff_eq]; rfl

@[simp] theorem credentialOk_seal (w : Way) (c : Credential) : credentialOk w (sealCredential w c) = true := by
  simp only [credentialOk, sealCredential, beq_iff_eq]; rfl

/-! ### Reading back -/

theorem setComp_at (n m : CompNo) (c : Compartment) (s : State) :
    (setComp n c s).comps[m] = if n = m then sealCompartment n c else s.comps[m] := by
  show (s.comps.set n.val _ n.isLt)[m.val] = _
  rw [Vector.getElem_set]
  simp only [Fin.ext_iff]; rfl

theorem modComp_at (n m : CompNo) (f : Compartment → Compartment) (s : State) :
    (modComp n f s).comps[m] = if n = m then sealCompartment n (f s.comps[n]) else s.comps[m] := setComp_at n m _ s

theorem setParcel_at (k j : Slot) (p : Parcel) (s : State) :
    parcelAt j (setParcel k p s) = if k = j then some (sealParcel k p) else parcelAt j s := by
  show (s.parcels.slots.set k.val _ k.isLt)[j.val] = _
  rw [Vector.getElem_set]
  simp only [Fin.ext_iff]; rfl

theorem modTerm_at (t u : Term) (f : TermContext → TermContext) (s : State) :
    (modTerm t f s).creds.terms[u] = if t = u then f s.creds.terms[t] else s.creds.terms[u] := by
  show (s.creds.terms.set t.val _ t.isLt)[u.val] = _
  rw [Vector.getElem_set]
  simp only [Fin.ext_iff]; rfl

theorem setWay_at (w v : Way) (c : Credential) (s : State) :
    (setWay w c s).creds.ways[v] = if w = v then some (sealCredential w c) else s.creds.ways[v] := by
  show (s.creds.ways.set w.val _ w.isLt)[v.val] = _
  rw [Vector.getElem_set]
  simp only [Fin.ext_iff]; rfl

theorem freeWay_at (w v : Way) (s : State) :
    (freeWay w s).creds.ways[v] = if w = v then none else s.creds.ways[v] := by
  show (s.creds.ways.set w.val _ w.isLt)[v.val] = _
  rw [Vector.getElem_set]
  simp only [Fin.ext_iff]; rfl

theorem setContext_at (t u : Term) (c : QuoteContext) (s : State) :
    (setContext t c s).collection.contexts[u] = if t = u then c else s.collection.contexts[u] := by
  show (s.collection.contexts.set t.val _ t.isLt)[u.val] = _
  rw [Vector.getElem_set]
  simp only [Fin.ext_iff]; rfl

theorem setMarker_at (t u : Term) (m : Option DepositMarker) (s : State) :
    (setMarker t m s).deposit.markers[u] = if t = u then m else s.deposit.markers[u] := by
  show (s.deposit.markers.set t.val _ t.isLt)[u.val] = _
  rw [Vector.getElem_set]
  simp only [Fin.ext_iff]; rfl

theorem modColumn_at (c d : Col) (f : ColumnEntry → ColumnEntry) (s : State) :
    (modColumn c f s).bus.columns[d] = if c = d then f s.bus.columns[c] else s.bus.columns[d] := by
  show (s.bus.columns.set c.val _ c.isLt)[d.val] = _
  rw [Vector.getElem_set]
  simp only [Fin.ext_iff]; rfl

theorem modDoor_at (n m : CompNo) (f : DoorRecord → DoorRecord) (s : State) :
    (modDoor n f s).doors.records[m] =
      if n = m then if isFitted n s then f s.doors.records[n] else Cold.doorRecord else s.doors.records[m] := by
  show (s.doors.records.set n.val _ n.isLt)[m.val] = _
  rw [Vector.getElem_set]
  simp only [Fin.ext_iff]; rfl

theorem isFitted_iff (n : CompNo) (s : State) : isFitted n s = true ↔ s.comps[n].state ≠ .unfitted := bne_iff_ne

/-- When a waiting request can be granted (R140, R141). -/
theorem isEligible_iff (s : State) (r : GrantRequest) :
    isEligible s r = true ↔
      s.arbiter.holdActive = false ∧ s.arbiter.guard = none ∧ s.arbiter.committed.length < s.mgmt.config.pulseBudget ∧
        (∀ g ∈ s.arbiter.committed, g.col ≠ r.col ∧ g.comp ≠ r.comp) ∧ s.bus.columns[r.col].state = .present := by
  have h : decide (s.arbiter.committed.length < (cfg s).pulseBudget) = true ↔
      s.arbiter.committed.length < s.mgmt.config.pulseBudget := decide_eq_true_iff
  simp only [isEligible, columnPresent, Bool.and_eq_true, Bool.not_eq_true', Option.isNone_iff_eq_none, h,
    List.all_eq_true, bne_iff_ne, beq_iff_eq, and_assoc]

/-- What can be placed on a free bus (R132). -/
theorem placeable_iff (s : State) (op : Op) :
    placeable s op = true ↔ isProbe op = true ∨ ∃ c, opColumn op = some c ∧ s.bus.columns[c].state = .present := by
  cases op <;> simp [placeable, isProbe, opColumn, columnPresent]

theorem outOfService_iff (n : CompNo) (s : State) :
    outOfService n s = true ↔ s.comps[n].state = .barred ∨ s.comps[n].state = .maint := by
  simp only [outOfService, Bool.or_eq_true, beq_iff_eq]

theorem releaseTaken_iff (n : CompNo) (k : Slot) (s : State) :
    releaseTaken n k s = true ↔ s.comps[n].state = .loaded ∧ s.comps[n].link = some k := by
  simp only [releaseTaken, Bool.and_eq_true, beq_iff_eq]

theorem sweepRelease_some (k : Slot) (n : CompNo) (s : State) :
    sweepRelease? k s = some n ↔ (parcelAt k s).bind Parcel.comp = some n ∧ releaseTaken n k s = true := by
  simp only [sweepRelease?, Option.filter_eq_some_iff]

/-- A release is taken whole, or changes nothing and asks no grant (R10). -/
theorem releaseAndAsk_cases (n : CompNo) (k : Slot) (st : CompState) (cls : GrantClass) (s : State) :
    (releaseTaken n k s = true ∧ releaseAndAsk n k st cls s =
      requestGrant n cls (modComp n (fun c => { c with state := st, phase := .awaitGrant, attempts := 0 }) s)) ∨
    (releaseTaken n k s = false ∧ releaseAndAsk n k st cls s = s) := by
  cases h : releaseTaken n k s <;> simp [releaseAndAsk, release, h]

/-- The door record of a fitted compartment is changed as asked. -/
theorem modDoor_fitted (n : CompNo) (f : DoorRecord → DoorRecord) (s : State) (h : s.comps[n].state ≠ .unfitted) :
    (modDoor n f s).doors.records[n] = f s.doors.records[n] := by
  rw [modDoor_at, if_pos rfl, if_pos ((isFitted_iff n s).mpr h)]

/-- The door record of an UNFITTED compartment is stopped, whatever is asked (R151). -/
theorem modDoor_unfitted (n : CompNo) (f : DoorRecord → DoorRecord) (s : State) (h : s.comps[n].state = .unfitted) :
    (modDoor n f s).doors.records[n] = Cold.doorRecord := by
  rw [modDoor_at, if_pos rfl, if_neg (fun q => (isFitted_iff n s).mp q h)]

/-- The place of a fitted compartment is that of its map. -/
theorem fittedPlace_fitted (n : CompNo) (s : State) (h : s.comps[n].state ≠ .unfitted) :
    fittedPlace n s = s.comps[n].place := if_pos ((isFitted_iff n s).mpr h)

/-- An UNFITTED compartment has no place (R193). -/
theorem fittedPlace_unfitted (n : CompNo) (s : State) (h : s.comps[n].state = .unfitted) : fittedPlace n s = none :=
  if_neg (fun q => (isFitted_iff n s).mp q h)

theorem modClass_at (c : NoticeClass) (i : Fin 12) (f : ClassQueue → ClassQueue) (s : State) :
    (modClass c f s).notices.classes[i] =
      if classIndex c = i then f s.notices.classes[classIndex c] else s.notices.classes[i] := by
  show (s.notices.classes.set (classIndex c).val _ (classIndex c).isLt)[i.val] = _
  rw [Vector.getElem_set]
  simp only [Fin.ext_iff]; rfl

/-! ### Two writes of one entry are one -/

@[simp] theorem modTerm_modTerm (t : Term) (f g : TermContext → TermContext) (s : State) :
    modTerm t f (modTerm t g s) = modTerm t (fun c => f (g c)) s := by
  have h : (modTerm t g s).creds.terms[t] = g s.creds.terms[t] := by rw [modTerm_at, if_pos rfl]
  unfold modTerm at h ⊢
  simp only [h, Vector.set_set]

@[simp] theorem modDoor_modDoor (n : CompNo) (f g : DoorRecord → DoorRecord) (s : State) :
    modDoor n f (modDoor n g s) = modDoor n (fun d => f (g d)) s := by
  have h := modDoor_at n n g s
  rw [if_pos rfl] at h
  have k : isFitted n (modDoor n g s) = isFitted n s := rfl
  unfold modDoor at h k ⊢
  simp only [h, k, Vector.set_set]
  cases isFitted n s <;> rfl

@[simp] theorem setContext_setContext (t : Term) (a b : QuoteContext) (s : State) :
    setContext t a (setContext t b s) = setContext t a s := by
  unfold setContext
  simp only [Vector.set_set]

/-! ### Replies (R175) -/

/-- A reply fills a reserved place, or finds none. -/
theorem placeReply_cases (r : Reply) (s : State) :
    (s.link.reserved = 0 ∧ placeReply r s = s) ∨
    (s.link.reserved ≠ 0 ∧ placeReply r s =
      { s with link := { s.link with reserved := s.link.reserved - 1, replies := s.link.replies ++ [r] } }) := by
  unfold placeReply
  split
  · exact .inl ⟨‹_›, rfl⟩
  · exact .inr ⟨‹_›, rfl⟩

/-- A reply takes no place that was not in use. -/
theorem placeReply_places (r : Reply) (s : State) : placesInUse (placeReply r s) = placesInUse s := by
  rcases placeReply_cases r s with ⟨_, e⟩ | ⟨_, e⟩ <;> rw [e]
  simp only [placesInUse, List.length_append, List.length_singleton]
  omega

/-! ### Notices (R184) -/

theorem markNewest_length (l : List Detail) : (markNewest l).length = l.length := by
  induction l with
  | nil => rfl
  | cons d t ih =>
    cases t with
    | nil => rfl
    | cons e u => exact congrArg (· + 1) ih

/-- A detail that reaches a class within its bounds leaves it so. -/
theorem enqueueDetail_bounded (d : Detail) (q : ClassQueue) (h : ClassBounded q) : ClassBounded (enqueueDetail d q) := by
  unfold enqueueDetail
  split
  · exact ⟨by simp only [List.length_append, List.length_singleton]; omega, by simp⟩
  · refine ⟨by rw [markNewest_length]; exact h.1, by
      refine ⟨fun _ e => ?_, fun _ => rfl⟩
      have := markNewest_length q.details
      rw [show (markNewest q.details).length = 0 from congrArg List.length e] at this
      omega⟩

/-! ### Octets that name something -/

@[simp] theorem origin_octet (o : Origin) : origin? (originOctet o) = some o := by
  cases o with
  | office => rfl
  | terminal t => revert t; decide

@[simp] theorem comp_octet (n : CompNo) : comp? (compByte n) = some n := by
  have h : (compByte n).toNat = n.val := by
    simp only [compByte, BitVec.toNat_ofNat]
    exact Nat.mod_eq_of_lt (by omega)
  unfold comp? below?
  rw [h, dif_pos n.isLt]

@[simp] theorem col_octet (c : Col) : col? (addressByte c) = some c := by revert c; decide

@[simp] theorem yesNo_octet (b : Bool) : Wire.yesNo? (if b then 0x01#8 else 0x00#8) = some b := by
  cases b <;> rfl

end Sys2Proof.Machine
end

