-- ==== Sys2Proof/Tests/Slice0.lean ====
section
/-! SUPPORT. The model's own tests: small states built by helpers, the check computations and worked cases of the
reference, an ill-formed term for each check of `WellFormed`, and for each statement a state that meets its hypotheses. -/

namespace Sys2Proof.Tests

set_option Elab.async false

open Sys2Proof Sys2Proof.Machine Sys2Proof.Wire

/-! ### Helpers -/

/-- A started bank after its enumeration: column 1 PRESENT with 20 positions, compartment 0 fitted there, VACANT and
listed, the clock set at minute 1,000. -/
def bank : State :=
  let s := State.reset
  let s := { s with
    bus := { s.bus with use := .free, enumeration := none, columns := Vector.replicate 12 Cold.column }
    time := { minute := 1000, seconds := 0, clockSet := true } }
  let s := modColumn 0 (fun e => { e with state := .present, count := 20 }) s
  let s := setComp 0 { Cold.compartment 0 with place := some { col := 0, pos := 0 }, state := .vacant } s
  { s with freeLists := { s.freeLists with small := [0] } }

/-- A record of plan 0, reference 77. -/
def record (st : ParcelState) (comp : Option CompNo) : Parcel :=
  { ref := 77, kind := .delivery, state := st, cls := .small, upsize := false, plan := 0, prepaid := 0, route := 0
    comp := comp, arrival := some 900, quote := none, tendered := 0, change := 0, suspect := false, check := 0 }

/-- A bank with the record in slot 0. -/
def holding (p : Parcel) (s : State) : State :=
  let s := setParcel 0 p s
  { s with parcels := { s.parcels with free := s.parcels.free.tail } }

/-- Compartment 0 in a state and phase, linked to slot 0, out of its list. -/
def under (st : CompState) (ph : DoorPhase) (s : State) : State :=
  leaveFree 0 (modComp 0 (fun c => { c with state := st, phase := ph, link := some 0 }) s)

/-- A stored record in compartment 0. -/
def stored (st : ParcelState) : State := under .loaded .none (holding (record st (some 0)) bank)

/-- Code 7 in way 28, the first of its bucket. -/
def coded (kind : CredKind) (s : State) : State := setWay 28 { kind := kind, code := 7, check := 0 } s

/-- A courier with both permissions. -/
def ann : CourierInfo := { number := 3, route := 0, deposit := true, sweep := true }

/-- Terminal 1 under a courier. -/
def signedOn (s : State) : State := modTerm 1 (fun c => { c with mode := .courier ann, inactivity := 600 }) s

/-- The state a command leaves. -/
def after (c : Instr) (s : State) : State :=
  match exec c s with
  | .next t => t
  | _ => s

/-- The body of the newest reply. -/
def lastBody (s : State) : List Byte := ((s.link.replies.getLast?).map Reply.body).getD []

/-! ### Check computations: the published values of the two polynomials over the octets 31h to 39h -/

def nineDigits : List Byte := [0x31, 0x32, 0x33, 0x34, 0x35, 0x36, 0x37, 0x38, 0x39]

/-- The 16-bit check starting at FFFFh, x^16 + x^12 + x^5 + 1 (R213). -/
theorem test_crc16_digits : crc16 nineDigits = 0x29B1#16 := by decide +kernel

/-- The 8-bit check over x^8 + x^2 + x + 1 (R190). -/
theorem test_crc8_digits : crc8 nineDigits = 0xF4#8 := by decide +kernel

/-! ### Chapter 12's worked example -/

/-- The frame of terminal 1's COLLECT, tag 2Ch, code 12345678, up to its check. -/
theorem test_collect_frame :
    (frame 0x51 0x2C 0x01 (bodyOctets (.collect 12345678))).take 10 =
      [0xA7, 0x0C, 0x51, 0x2C, 0x01, 0x06, 0x00, 0xBC, 0x61, 0x4E] ∧
    (frame 0x51 0x2C 0x01 (bodyOctets (.collect 12345678))).length = 12 := by decide +kernel

/-- The body is read back at the hand-off, and with a 3-octet code it is malformed. -/
theorem test_collect_body :
    readBody .tariff .request [0x06, 0x00, 0xBC, 0x61, 0x4E] = .request (.collect 12345678) ∧
    readBody .tariff .request [0x06, 0x00, 0xBC, 0x61] = .malformed := by decide +kernel

/-! ### Chapter 4's worked cases -/

/-- Plan 2 of worked case 1. -/
def plan2 : Plan :=
  { free := 240, block := 60, rates := #v[0, 120, 0, 0], caps := #v[none, some 1500, none, none], peak := true
    expiry := 10080, window := 180 }

/-- Its peak table. -/
def peaks1 : Vector PeakWindow 4 :=
  #v[{ first := 420, last := 570, multiplier := 150 }, { first := 990, last := 1140, multiplier := 150 }, Cold.peak,
    Cold.peak]

/-- The snapshot of worked case 1 at a quote minute, with a prepaid credit. -/
def snap1 (q : Minute) (prepaid : Nat) : Snapshot :=
  { plan := plan2, peaks := peaks1, cls := .medium, arrival := some 15200, slot := 0, prepaid := prepaid
    quoteMinute := q }

theorem test_fee_capped_day : feeOf (snap1 16905 0) = 1680 ∧ clampOf (snap1 16905 0) = false ∧
    owedOf (snap1 16905 500) = 1180 ∧ feeOf (snap1 16880 0) = 1500 ∧ feeOf (snap1 16881 0) = 1680 := by decide +kernel

/-- Worked case 2. -/
theorem test_price_rounding : priceOf 95 125 = 119 ∧ priceOf 95 110 = 105 ∧ priceOf 95 100 = 95 := by decide +kernel

/-- The peak table of worked case 3. -/
def peaks3 : Vector PeakWindow 4 :=
  #v[{ first := 1320, last := 120, multiplier := 120 }, { first := 60, last := 180, multiplier := 200 }, Cold.peak,
    Cold.peak]

theorem test_multipliers_across_midnight :
    [1319, 1320, 1439, 0, 90, 120, 179, 180].map (multiplierAt peaks3) = [100, 120, 120, 120, 200, 200, 200, 100] := by
  decide +kernel

/-- A snapshot of worked case 4. -/
def snap4 (free block rate : Nat) (q : Minute) (prepaid : Nat) : Snapshot :=
  { plan := { Cold.plan with free := free, block := block, rates := #v[0, 0, rate, 0] }, peaks := Cold.charge.peaks
    cls := .large, arrival := some 30000, slot := 0, prepaid := prepaid, quoteMinute := q }

theorem test_fee_limits :
    feeOf (snap4 240 60 300 29950 0) = 0 ∧ feeOf (snap4 240 60 300 30240 0) = 0 ∧ feeOf (snap4 240 60 300 30241 0) = 300 ∧
    feeOf (snap4 240 60 0 35000 0) = 0 ∧ feeOf (snap4 240 60 300 30360 900) = 600 ∧
    owedOf (snap4 240 60 300 30360 900) = 0 := by decide +kernel

theorem test_fee_clamped : feeOf (snap4 0 15 9999 31501 0) = 999999 ∧ clampOf (snap4 0 15 9999 31501 0) = true ∧
    clampOf (snap4 0 15 9999 31500 0) = false := by decide +kernel

/-! ### Other worked sequences -/

/-- Chapter 2, bucket 37: its codes and its ways. -/
theorem test_bucket_ways :
    [37, 165, 12800037, 25600037].map bucketWays = List.replicate 4 [(148 : Way), 149, 150, 151] := by decide +kernel

/-- Chapter 2, the lockouts: a fifth failure locks 60 s, at level 1 it locks 120 s. -/
theorem test_lockout_lengths :
    lastBody (after (.signOn 1 2 7) (modTerm 2 (fun c => { c with failed := 4 }) bank)) = [0x01, 0x05, 0x00, 60] ∧
    lastBody (after (.signOn 1 2 7) (modTerm 2 (fun c => { c with failed := 4, lockLevel := 1 }) bank)) =
      [0x01, 0x05, 0x00, 120] := by decide +kernel

/-- Chapter 11, a configuration write: what is stored of the five fields. -/
theorem test_config_write :
    ((fun c : ConfigRecord => (c.pollInterval, c.pulseLength, c.wakeSettle, c.idle, c.silence))
      (after (.configSet 1 0x0F [(0x05, 50), (0x08, 475), (0x06, 200), (0x0F, 900), (0x0D, 12)]) bank).mgmt.config) =
      (100, 450, 400, 900, 10) := by decide +kernel

/-- Chapter 8, a slow bolt retried: RISE 6 ms, FALL 160 ms is BOLT_SLOW; RISE 5 ms, FALL 85 ms is BOLT_MOVED. -/
theorem test_trace_classes :
    classify bank [⟨6, .rise⟩, ⟨160, .fall⟩] false = .boltSlow ∧ classify bank [⟨5, .rise⟩, ⟨85, .fall⟩] false = .boltMoved := by
  decide +kernel

/-- Chapter 9: a frame with a wrong check is discarded and counted. -/
theorem test_wrong_check :
    let s := after (.frameReceived [0xA7, 0x08, 0x52, 0x01, 0x0F, 0x36, 0x00, 0x00]) bank
    s.counters.live[(0 : Fin 62)] = 1 ∧ s.counters.live[(2 : Fin 62)] = 1 ∧ s.link.discardRun = 1 := by decide +kernel

/-- Chapter 7, rush hour: a second request on a committed column waits. -/
theorem test_one_pulse_per_column :
    let s := requestGrant 1 .deposit (requestGrant 0 .collect
      (setComp 1 { Cold.compartment 1 with place := some { col := 0, pos := 1 }, state := .held } bank))
    s.arbiter.committed.map Committed.comp = [0] ∧ s.arbiter.waiting.map GrantRequest.comp = [1] := by decide +kernel

/-- Chapters 7 and 8: an UNFITTED entry left with a map value is on no column, has no reading, and its door record holds
every field stopped; a map write of that value fits it. -/
theorem test_unfitted_keeps_out :
    let s := setComp 0 { Cold.compartment 0 with place := some { col := 0, pos := 0 } } bank
    mappedTo 0 0 s = false ∧ readingOf 0 0 [⟨.opened, true, .filled, true⟩] s = none ∧
      (ajarAtPoll 0 .opened s).doors.records[(0 : CompNo)] = Cold.doorRecord ∧
      (writePlace 0 (some { col := 0, pos := 0 }) .small s).comps[(0 : CompNo)].state = .vacant := by decide +kernel

/-! ### WellFormed: an ill-formed term for each check, and the largest each lets pass -/

theorem test_relay_message : (Instr.relay 1 0 1 0 []).wellFormed = false ∧
    (Instr.relay 1 0 1 0 (List.replicate 33 0)).wellFormed = false ∧
    (Instr.relay 1 0 1 0 (List.replicate 32 0)).wellFormed = true := by decide +kernel

theorem test_config_pairs : (Instr.configSet 1 0x0F []).wellFormed = false ∧
    (Instr.configSet 1 0x0F (List.replicate 41 (0, 0))).wellFormed = false ∧
    (Instr.configSet 1 0x0F (List.replicate 40 (0, 0))).wellFormed = true := by decide +kernel

theorem test_write_octets : (Instr.write 1 0x0F (List.replicate 121 0)).wellFormed = false ∧
    (Instr.write 1 0x0F (List.replicate 120 0)).wellFormed = true := by decide +kernel

theorem test_frame_octets : (Instr.frameReceived (List.replicate 7 0)).wellFormed = false ∧
    (Instr.frameReceived (List.replicate 129 0)).wellFormed = false ∧
    (Instr.frameReceived (List.replicate 128 0)).wellFormed = true := by decide +kernel

theorem test_poll_readings :
    (Instr.pollAccept 1 (List.replicate 21 ⟨.closed, false, .empty, false⟩)).wellFormed = false ∧
    (Instr.pollAccept 1 (List.replicate 20 ⟨.closed, false, .empty, false⟩)).wellFormed = true := by decide +kernel

theorem test_trace_edges : (Instr.traceReadAccept 1 (List.replicate 21 ⟨0, [], false⟩)).wellFormed = false ∧
    (Instr.traceReadAccept 1 [⟨0, List.replicate 5 ⟨0, .rise⟩, false⟩]).wellFormed = false ∧
    (Instr.traceReadAccept 1 [⟨0, List.replicate 4 ⟨0, .rise⟩, false⟩]).wellFormed = true := by decide +kernel

/-! ## For each statement with hypotheses, a state and operands that meet them, clause by clause -/

/-! ### Hypotheses that speak of every value of a type, from ones that can be evaluated -/

/-- In a state whose ways were all free, way 28 alone is used once code 7 is in it. -/
theorem coded_alone {s : State} (kind : CredKind) (h : s.creds.ways = Vector.replicate 512 none) :
    ∀ v : Way, (coded kind s).creds.ways[v].isSome = true → v = 28 := by
  intro v a
  unfold coded at a
  rw [setWay_at, h] at a
  split at a
  · exact Eq.symm ‹_›
  · have e : (Vector.replicate 512 (none : Option Credential))[v.val] = none := by simp
    exact absurd (show (Vector.replicate 512 (none : Option Credential))[v.val].isSome = true from a) (by rw [e]; simp)

theorem names_first {s : State} {k : Slot} {w : Way} {kind : CredKind}
    (h : ∀ v : Way, s.creds.ways[v].isSome = true → v = w) (a : s.creds.ways[w].map Credential.kind = some kind)
    (b : kindSlot kind = some k) : NamesSlot k w kind s := by
  refine ⟨a, b, fun v l other e => ?_⟩
  have : s.creds.ways[v].isSome = true := by
    cases f : s.creds.ways[v] with
    | none => rw [f] at e; cases e
    | some c => rfl
  exact absurd (h v this) (Fin.ne_of_lt l)

theorem courier_first {s : State} {w : Way} (h : ∀ v : Way, s.creds.ways[v].isSome = true → v = w) (i : CourierNo) :
    ∀ v, v < w → ∀ j, s.creds.ways[v].map Credential.kind = some (.courier j) → j.number ≠ i := by
  intro v l j e
  have : s.creds.ways[v].isSome = true := by
    cases f : s.creds.ways[v] with
    | none => rw [f] at e; cases e
    | some c => rfl
  exact absurd (h v this) (Fin.ne_of_lt l)

theorem no_courier {s : State} (h : ∀ t : Term, courierAt t s = none) :
    ∀ (t : Term) (i : CourierInfo), s.creds.terms[t].mode ≠ .courier i := by
  intro t i a
  have := h t
  unfold courierAt at this
  rw [a] at this
  cases this

theorem no_courier_but {s : State} {u : Term} (h : ∀ t : Term, t ≠ u → courierAt t s = none) (n : CourierNo) :
    ∀ t : Term, t ≠ u → ∀ i, s.creds.terms[t].mode = .courier i → i.number ≠ n := by
  intro t ne i a
  have := h t ne
  unfold courierAt at this
  rw [a] at this
  cases this

theorem no_sweep {s : State} (h : s.returns.sweep = none) (t : Term) : ∀ w, s.returns.sweep = some w → w.terminal ≠ t := by
  intro w a
  rw [h] at a
  cases a

theorem no_records {s : State} (h : ∀ k : Slot, parcelAt k s = none) (r : Reference) :
    ∀ k p, parcelAt k s = some p → p.ref ≠ r := by
  intro k p a
  rw [h k] at a
  cases a

theorem at_rest {s : State} (h : ∀ k : Slot, (parcelAt k s).all (fun p => p.state == .stored) = true) :
    ∀ k p, parcelAt k s = some p → p.state = .advised ∨ p.state = .stored ∨ p.state = .returnQueued ∨
      p.state = .stranded ∨ p.state = .quarantined := by
  intro k p a
  have := h k
  rw [a] at this
  exact .inr (.inl (eq_of_beq this))

theorem table_at {α : Type} (f : Fin 240 → α) (n : CompNo) : (table 240 f)[n] = f n := by
  show (table 240 f)[n.val] = f n
  unfold table
  simp

theorem bank_tables : TablesGood bank := by
  refine ⟨fun n => ?_, fun k => ?_, fun w => ?_⟩
  · show compartmentOk n (setComp 0 _ _).comps[n] = true
    rw [setComp_at]
    split
    · rename_i e; rw [← e]; exact compartmentOk_seal _ _
    · show compartmentOk n (table 240 Cold.compartment)[n] = true
      rw [table_at]
      exact compartmentOk_seal _ _
  · have h : parcelAt k bank = none := by
      show (Vector.replicate 384 none)[k.val] = none
      simp
    unfold parcelGood
    rw [h]
  · have h : bank.creds.ways[w] = none := by
      show (Vector.replicate 512 none)[w.val] = none
      simp
    unfold wayGood
    rw [h]

theorem bank_free (k : Slot) : parcelAt k bank = none := by
  show (Vector.replicate 384 none)[k.val] = none
  simp

/-! ### Tables that agree: the quantifiers of `TablesAgree`, from facts that can be evaluated -/

theorem slot_listed (k : Slot) : k ∈ (List.finRange 384).tail ↔ k ≠ 0 := by
  rw [List.finRange_succ, List.tail_cons, List.mem_map]
  exact ⟨fun ⟨j, _, e⟩ => e ▸ Fin.succ_ne_zero j, fun h => ⟨k.pred h, List.mem_finRange _, Fin.succ_pred k h⟩⟩

/-- What a state with at most one record, in slot 0 and compartment 0, is asked. -/
abbrev AgreeAt (s : State) (link : Option Slot) : Prop :=
  (∀ cls ∈ [SizeClass.small, .medium, .large, .bulky], (listOf cls s.freeLists).Nodup ∧
    ∀ n : CompNo, (n ∈ listOf cls s.freeLists ↔
      s.comps[n].cls = cls ∧ s.comps[n].state = .vacant ∧ s.comps[n].door = .closed ∧ s.comps[n].pendingBar = false)) ∧
  (∀ n : CompNo, s.comps[n].link = (if n = 0 then link else none) ∧
    (s.comps[n].state = .unfitted ∨ s.comps[n].state = .vacant ∨ s.comps[n].state = .maint → s.comps[n].link = none) ∧
    (s.comps[n].pendingBar = true →
      s.comps[n].state ≠ .unfitted ∧ s.comps[n].state ≠ .vacant ∧ s.comps[n].state ≠ .barred) ∧
    (s.comps[n].phase ≠ .none → isJob s.comps[n].state = true ∨ s.comps[n].state = .maint) ∧
    s.doors.records[n].heldClose = none ∧ s.deposit.resumed[n] = false ∧
    (s.comps[n].state = .maint ↔ s.maintSlot.map MaintSlot.comp = some n)) ∧
  (∀ k : Slot, ((parcelAt k s).bind Parcel.comp = if k = 0 then link.map (fun _ => 0) else none) ∧
    ((parcelAt k s).isSome = true → k = 0)) ∧
  (parcelAt 0 s).all (fun p => p.state != .advised || p.comp == none) = true ∧
  (link = none ∨ link = some 0) ∧ s.returns.sweep = none ∧
  s.parcels.free = if (parcelAt 0 s).isSome then (List.finRange 384).tail else List.finRange 384

theorem agree {s : State} {link : Option Slot} (h : AgreeAt s link) : TablesAgree s := by
  obtain ⟨a, b, c, d, e, w, f⟩ := h
  have listOfAll : ∀ cls, cls ∈ [SizeClass.small, .medium, .large, .bulky] := by intro cls; cases cls <;> decide
  refine ⟨fun cls => (a cls (listOfAll cls)).2, fun cls => (a cls (listOfAll cls)).1, fun n k => ?_,
    fun n => (b n).2.1, fun k p hp st => ?_, fun k => ?_, ?_, fun n => (b n).2.2.1, fun n => (b n).2.2.2.1,
    fun n h => absurd (b n).2.2.2.2.1 h, fun n h => absurd h (by rw [(b n).2.2.2.2.2.1]; exact Bool.noConfusion),
    fun v k n h => (by rw [w] at h; cases h), fun n => (b n).2.2.2.2.2.2.trans ?_⟩
  · rw [(b n).1]
    have hk : (∃ p, parcelAt k s = some p ∧ p.comp = some n) ↔ (parcelAt k s).bind Parcel.comp = some n := by
      cases parcelAt k s <;> simp
    rw [hk, (c k).1]
    rcases e with e | e <;> subst e
    · constructor <;> intro h <;> split at h <;> cases h
    · constructor <;> intro h <;> split at h <;> cases h <;> subst_vars <;> rfl
  · have h0 := (c k).2 (by rw [hp]; rfl)
    subst h0
    rw [hp] at d
    simpa [st] using d
  · rw [f]
    have h0 := (c k).2
    by_cases hk : k = 0
    · subst hk
      cases parcelAt 0 s <;> simp [slot_listed]
    · have : parcelAt k s = none := by
        cases hp : parcelAt k s with
        | none => rfl
        | some p => exact absurd (h0 (by rw [hp]; rfl)) hk
      split <;> simp [slot_listed, hk, this]
  · rw [f]
    split
    · exact (List.nodup_finRange 384).tail
    · exact List.nodup_finRange 384
  · cases s.maintSlot <;> simp

theorem bank_agrees : TablesAgree bank := agree (link := none) (by decide +kernel)

/-- So does a bank with one record, in slot 0 and in compartment 0, under a job or LOADED. -/
theorem agree_one {s : State} {p : Parcel} (other : ∀ n : CompNo, n ≠ 0 → s.comps[n] = bank.comps[n])
    (hl : s.comps[(0 : CompNo)].link = some 0)
    (hs : isJob s.comps[(0 : CompNo)].state = true ∨ s.comps[(0 : CompNo)].state = .loaded)
    (hf : s.comps[(0 : CompNo)].phase ≠ .none → isJob s.comps[(0 : CompNo)].state = true)
    (hb : s.comps[(0 : CompNo)].pendingBar = false) (lists : ∀ cls, listOf cls s.freeLists = [])
    (slot : ∀ k : Slot, parcelAt k s = if k = 0 then some p else none) (hp : p.comp = some 0) (ha : p.state ≠ .advised)
    (free : s.parcels.free = (List.finRange 384).tail) (doors : s.doors = bank.doors) (loop : s.maintSlot = none)
    (unmarked : s.deposit = bank.deposit) (still : s.returns.sweep = none) :
    TablesAgree s := by
  have hv : s.comps[(0 : CompNo)].state ≠ .unfitted ∧ s.comps[(0 : CompNo)].state ≠ .vacant ∧
      s.comps[(0 : CompNo)].state ≠ .maint := by
    cases h : s.comps[(0 : CompNo)].state <;> rw [h] at hs <;> simp_all [isJob]
  have banks : ∀ cls n, n ∈ listOf cls bank.freeLists → n = 0 := by
    intro cls n h
    cases cls with
    | small => exact List.mem_singleton.1 h
    | medium => exact absurd h List.not_mem_nil
    | large => exact absurd h List.not_mem_nil
    | bulky => exact absurd h List.not_mem_nil
  have bare : ∀ n : CompNo, bank.comps[n].link = none := by
    intro n
    cases h : bank.comps[n].link with
    | none => rfl
    | some k => obtain ⟨q, c, _⟩ := (bank_agrees.linked n k).1 h; rw [bank_free] at c; cases c
  refine ⟨fun cls n => ?_, fun cls => by rw [lists]; exact List.nodup_nil, fun n k => ?_, fun n h => ?_, fun k q h => ?_,
    fun k => ?_, by rw [free]; exact (List.nodup_finRange 384).tail, fun n h => ?_, fun n h => ?_, fun n h => ?_,
    fun n h => ?_, fun w k n h => (by rw [still] at h; cases h), fun n => ?_⟩
  · rw [lists]
    by_cases h : n = 0
    · subst h; exact ⟨fun a => absurd a List.not_mem_nil, fun a => absurd a.2.1 hv.2.1⟩
    · rw [other n h]
      exact ⟨fun a => absurd a List.not_mem_nil, fun a => absurd (banks cls n ((bank_agrees.listed cls n).2 a)) h⟩
  · by_cases h : n = 0 <;> by_cases g : k = 0
    · subst h; subst g; rw [hl]; simp [slot, hp]
    · subst h; rw [hl]; simp [slot, g, Ne.symm g]
    · rw [other n h, bare]; subst g; simp [slot, hp, Ne.symm h]
    · rw [other n h, bare]; simp [slot, g]
  · by_cases g : n = 0
    · subst g; simp_all
    · rw [other n g]; exact bare n
  · rw [slot] at h
    split at h
    · cases h; exact fun c => absurd c ha
    · cases h
  · rw [free, slot_listed, slot]
    by_cases g : k = 0 <;> simp [g]
  · by_cases g : n = 0
    · subst g; rw [hb] at h; cases h
    · rw [other n g] at h ⊢; exact bank_agrees.pending n h
  · by_cases g : n = 0
    · subst g; exact .inl (hf h)
    · rw [other n g] at h ⊢; exact bank_agrees.phase n h
  · rw [doors] at h
    have := bank_agrees.held n h
    by_cases g : n = 0
    · subst g; exact absurd this (by decide +kernel)
    · rw [other n g]; exact this
  · rw [unmarked] at h
    have := bank_agrees.resumed n h
    by_cases g : n = 0
    · subst g; exact absurd this (by decide +kernel)
    · rw [other n g]; exact this
  · rw [loop]
    have := bank_agrees.loop n
    by_cases g : n = 0
    · subst g; exact ⟨fun a => absurd a hv.2.2, fun ⟨_, a, _⟩ => by cases a⟩
    · rw [other n g, this]; rfl

theorem holding_comps (p : Parcel) (s : State) : (holding p s).comps = s.comps := rfl

theorem under_comps (st : CompState) (ph : DoorPhase) (s : State) (n : CompNo) : (under st ph s).comps[n] =
    if 0 = n then sealCompartment 0 { s.comps[(0 : CompNo)] with state := st, phase := ph, link := some 0 }
    else s.comps[n] :=
  modComp_at 0 n (fun c => { c with state := st, phase := ph, link := some 0 }) s

theorem job_agrees {st : CompState} {ph : DoorPhase} {p : Parcel} (hp : p.comp = some 0) (ha : p.state ≠ .advised)
    (hs : isJob st = true ∨ st = .loaded) (hf : ph ≠ .none → isJob st = true) :
    TablesAgree (under st ph (holding p bank)) := by
  have at_ : ∀ n : CompNo, (under st ph (holding p bank)).comps[n] = if 0 = n then
      sealCompartment 0 { bank.comps[(0 : CompNo)] with state := st, phase := ph, link := some 0 } else bank.comps[n] := by
    intro n
    rw [under_comps]
    simp only [holding_comps]
  refine agree_one (p := sealParcel 0 p) (fun n h => by rw [at_, if_neg (Ne.symm h)]) (by rw [at_]; rfl)
    (by rw [at_]; exact hs) (by rw [at_]; exact hf) ?_ (fun cls => by cases cls <;> rfl) (fun k => ?_) hp ha rfl rfl rfl
    rfl rfl
  · rw [at_]
    show bank.comps[(0 : CompNo)].pendingBar = false
    decide +kernel
  · rw [show parcelAt k (under st ph (holding p bank)) = _ from setParcel_at 0 k p bank, bank_free]
    simp only [eq_comm]

/-- Its entries agree with their check bytes. -/
theorem good_modComp (n : CompNo) (f : Compartment → Compartment) {s : State} (h : TablesGood s) :
    TablesGood (modComp n f s) := by
  refine ⟨fun m => ?_, h.2.1, h.2.2⟩
  show compartmentOk m (modComp n f s).comps[m] = true
  rw [modComp_at]
  split
  · rename_i e; rw [← e]; exact compartmentOk_seal _ _
  · exact h.1 m

theorem good_setParcel (k : Slot) (p : Parcel) {s : State} (h : TablesGood s) : TablesGood (setParcel k p s) := by
  refine ⟨h.1, fun j => ?_, h.2.2⟩
  by_cases e : k = j
  · subst e
    simp [parcelGood, setParcel_at]
  · have := h.2.1 j
    simpa only [parcelGood, setParcel_at, if_neg e] using this

theorem job_good (st : CompState) (ph : DoorPhase) (p : Parcel) : TablesGood (under st ph (holding p bank)) :=
  have h := good_modComp 0 (fun c => { c with state := st, phase := ph, link := some 0 })
    (good_setParcel 0 p bank_tables)
  ⟨h.1, h.2.1, h.2.2⟩
/-! ### Steps, invariants -/

theorem witness_StepTakesTheFrontCommand :
    { bank with pending := [.stall, .noAnswer] }.pending = .stall :: [.noAnswer] ∧ bank.pending = [] := by decide +kernel

/-- The shortest entry of the request FIFO, a SIGN_OFF of terminal 0. -/
def entry : FifoEntry := { cls := .request, tag := 1, origin := 0, body := [0x02] }

/-- A FIFO, and places reserved. -/
def waitingWith (l : List FifoEntry) (n : Nat) : State := { bank with link := { bank.link with fifo := l, reserved := n } }

theorem witness_SettleAndConcludeFollowEveryTaking :
    (AtRest bank ∧ bank.bus.use = .free ∧ bank.link.tx = .idle ∧ AtRest State.reset ∧ State.reset.bus.use ≠ .free ∧
      AtRest { bank with link := { bank.link with tx := .reply [0xA7] } }) ∧
    ((waitingWith [] 8).link.fifo = [] ∧ 6 < placesInUse (waitingWith [entry] 7)) ∧
    (waitingWith [entry, entry] 6).link.fifo = entry :: [entry] ∧ placesInUse (waitingWith [entry, entry] 6) ≤ 6 := by
  decide +kernel

theorem witness_ReadyRequestIsTakenByItsOwner :
    (Ready bank ∧ (Request.writePeak 0 0 100).wellFormed = true ∧ fitsTable .peak (.writePeak 0 0 100) = true ∧
      (Instr.writePeak 1 0x0F 0 0 100).request? = some (1, originOctet .office, .writePeak 0 0 100) ∧
      (Instr.signOff 1 0x03).request? = some (1, originOctet (.terminal 3), .signOff) ∧
      Ready (waitingWith [] 6)) ∧
    (∀ o ∈ ([0x04, 0x0E, 0x10, 0xFF] : List Byte), 4 ≤ o.toNat ∧ o ≠ 0x0F ∧
      (Instr.signOff 1 o).request? = some (1, o, .signOff)) ∧
    (classOfRequest .signOff = .request ∧ kindOctet .signOff ≠ 0x0B ∧ kindOctet .signOff ≠ 0x0C ∧
      (Instr.signOff 1 0x0F).request? = some (1, originOctet .office, .signOff) ∧ Request.signOff.wellFormed = true) ∧
    (classOfRequest .snapshot = .mgmt ∧ (Instr.snapshot 1 0x03).request? = some (1, originOctet (.terminal 3), .snapshot) ∧
      Request.snapshot.wellFormed = true ∧ fitsTable .tariff .snapshot = true) := by decide +kernel

theorem witness_RequestBodyReadsBack :
    ((Request.relay 1 0 (List.replicate 32 7)).wellFormed = true ∧ (Request.relay 1 0 [7]).wellFormed = true ∧
      (Request.configSet (List.replicate 40 (0, 1))).wellFormed = true ∧
      (Request.write (List.replicate 120 7)).wellFormed = true ∧ fitsTable .parcel (.write []) = true ∧
      fitsTable .map (.writeMap none 0) = true) ∧
    (([0x02] : List Byte).length ≤ 121 ∧ readBody .tariff .request [0x02] = .request .signOff) ∧
    (0x34#8 :: List.replicate 120 0x07#8).length ≤ 121 ∧
      readBody .parcel .mgmt (0x34 :: List.replicate 120 7) = .request (.write (List.replicate 120 7)) := by
  decide +kernel

/-- Both queues of the link full, and a full notice queue. -/
def fullQueues : State :=
  { bank with
    pending := [.stall]
    link := { bank.link with
      fifo := List.replicate 8 entry
      replies := List.replicate 3 { tag := 1, origin := 0, body := [0x02, 0] }, reserved := 5 }
    bus := { bank.bus with queue := List.replicate 16 (.poll 0), use := .sending .holdAll }
    notices :=
      { bank.notices with
        classes := bank.notices.classes.set 10
          { pending := true, masked := true
            details := List.replicate 8 { body := .link .up, more := false, drill := false, sensor := false } } } }

theorem witness_QueueBoundsAreKept :
    LinkBounded fullQueues ∧ NoticesBounded fullQueues ∧ OperationsBounded fullQueues ∧ ∃ t, step fullQueues = .next t :=
  ⟨by decide +kernel, by decide +kernel, by decide +kernel, _, rfl⟩

/-- Four pulses committed under a budget of four. -/
def fourPulses : State :=
  { modConfig (fun c => { c with pulseBudget := 4 }) bank with
    pending := [.pulseEnd 0]
    arbiter := { bank.arbiter with committed :=
      [⟨0, 0, .collect, 0, .inFlight 300⟩, ⟨1, 1, .deposit, 1, .sent⟩, ⟨2, 2, .sweep, 2, .sent⟩, ⟨3, 3, .maint, 3, .sent⟩] } }

theorem witness_PulseBoundsAreKept : PulsesBounded fourPulses ∧ ∃ t, step fourPulses = .next t :=
  ⟨by decide +kernel, _, rfl⟩

theorem witness_TablesStayGood :
    TablesGood { bank with pending := [.resetRelease] } ∧ ∃ t, step { bank with pending := [.resetRelease] } = .next t :=
  ⟨bank_tables, _, rfl⟩

theorem bank_charges : ChargeTablesInRange { bank with pending := [.writePeak 1 0x0F 0 0 300] } := by
  refine ⟨?_, fun sn h => by cases h⟩
  show ∀ p : PlanNo, ChargesInRange Cold.charge.plans[p] Cold.charge.peaks
  decide +kernel

theorem witness_ChargeTablesStayInRange :
    ChargeTablesInRange { bank with pending := [.writePeak 1 0x0F 0 0 300] } ∧
      ∃ t, step { bank with pending := [.writePeak 1 0x0F 0 0 300] } = .next t := ⟨bank_charges, _, rfl⟩

/-- A compartment listed, and one under a job that a bar ends. -/
theorem witness_FreeListsAndLinksStayInAgreement :
    (TablesGood { bank with pending := [.bar 1 0x0F 0] } ∧ TablesAgree { bank with pending := [.bar 1 0x0F 0] } ∧
      ∃ t, step { bank with pending := [.bar 1 0x0F 0] } = .next t) ∧
    ∀ s, s = { under .releasing .awaitOpen (holding (record .releasing (some 0)) bank) with pending := [.resetRelease] } →
      TablesGood s ∧ TablesAgree s ∧ ∃ t, step s = .next t := by
  refine ⟨⟨bank_tables, ?_, _, rfl⟩, fun s h => ?_⟩
  · obtain ⟨a, b, c, d, e, f, g, h, i, j, k, l, m⟩ := bank_agrees
    exact ⟨a, b, c, d, e, f, g, h, i, j, k, l, m⟩
  · subst h
    obtain ⟨a, b, c⟩ := job_good .releasing .awaitOpen (record .releasing (some 0))
    obtain ⟨d, e, f, g, h, i, j, k, l, m, n, o, q⟩ := job_agrees (st := .releasing) (ph := .awaitOpen)
      (p := record .releasing (some 0)) rfl ParcelState.noConfusion (.inl rfl) (fun _ => rfl)
    exact ⟨⟨a, b, c⟩, ⟨d, e, f, g, h, i, j, k, l, m, n, o, q⟩, _, rfl⟩

/-! ### Credentials and terminals -/

/-- Code 7 in way 28 for a courier. -/
def enrolled : State := coded (.courier ann) bank

/-- Terminal 0 after a number of failures, at a lockout level. -/
def failures (n level : Nat) : State := modTerm 0 (fun c => { c with failed := n, lockLevel := level }) bank

theorem witness_SignOnSignOffAndWrongCodes :
    (Ready enrolled ∧ enrolled.creds.terms[(3 : Term)].mode = .idle ∧ enrolled.creds.terms[(3 : Term)].lockRemaining = 0 ∧
      codeInRange 7 = true ∧ BucketGood 7 enrolled ∧ HoldsCode 7 28 (.courier ann) enrolled ∧
      (∀ u, u ≠ (3 : Term) → ∀ j, enrolled.creds.terms[u].mode = .courier j → j.number ≠ ann.number)) ∧
    (Ready (signedOn bank) ∧ (signedOn bank).creds.terms[(1 : Term)].mode = .courier ann ∧
      (signedOn bank).creds.terms[(1 : Term)].openJob = none ∧
      ∀ w, (signedOn bank).returns.sweep = some w → w.terminal ≠ 1) ∧
    ∀ s ∈ [failures 0 0, failures 3 0, failures 4 0, failures 4 5],
      Ready s ∧ s.creds.terms[(0 : Term)].mode = .idle ∧ s.creds.terms[(0 : Term)].lockRemaining = 0 ∧
        codeInRange 7 = true ∧ BucketGood 7 s ∧ (∀ v ∈ bucketWays 7, wayHolds 7 s v = false) ∧
        (s.creds.terms[(0 : Term)].failed < 4 ∨ 4 ≤ s.creds.terms[(0 : Term)].failed) :=
  ⟨⟨by decide +kernel, by decide +kernel, by decide +kernel, by decide +kernel, by decide +kernel, by decide +kernel,
    no_courier_but (by decide +kernel) _⟩,
    ⟨by decide +kernel, by decide +kernel, by decide +kernel, no_sweep (by decide +kernel) 1⟩, by decide +kernel⟩

theorem witness_EnrolAndRevokeCourier :
    (Ready bank ∧ codeInRange 0 = true ∧ codeInRange 99999999 = true ∧ PlaceOpen 0 0 bank ∧ courierHeld bank 0 = false ∧
      ∀ j : CourierNo, j < 0 → courierHeld bank j = true) ∧
    (Ready enrolled ∧ enrolled.creds.ways[(28 : Way)].map Credential.kind = some (.courier ann) ∧
      (∀ v, v < (28 : Way) → ∀ j, enrolled.creds.ways[v].map Credential.kind = some (.courier j) →
        j.number ≠ ann.number) ∧
      ∀ (t : Term) (j : CourierInfo), enrolled.creds.terms[t].mode = .courier j → j.number ≠ ann.number) :=
  ⟨by decide +kernel, by decide +kernel, by decide +kernel, courier_first (coded_alone _ rfl) _,
    fun t j h => absurd h (no_courier (by decide +kernel) t j)⟩

/-! ### Parcel store -/

/-- The fields of an ADVISE at the ends of their ranges. -/
def adviceFields : AdviceFields :=
  { ref := 77, kind := 0x01, cls := 0x03, upsize := 0x01, plan := 0x07, prepaid := 999999, route := 0x0F, code := 7 }

/-- What they say. -/
def adviceRead : Advice :=
  { ref := 77, kind := .ret, cls := .bulky, upsize := true, plan := 7, prepaid := 999999, route := 15, code := 7 }

theorem witness_AdviseWritesRecordAndCode :
    Ready bank ∧ advice? adviceFields = some adviceRead ∧ (∀ j, parcelGood j bank = true) ∧
    (∀ j p, parcelAt j bank = some p → p.ref ≠ adviceRead.ref) ∧
    bank.parcels.free = 0 :: (List.finRange 384).tail ∧ PlaceOpen adviceRead.code 28 bank :=
  ⟨by decide +kernel, by decide +kernel, bank_tables.2.1, no_records bank_free _, by decide +kernel, by decide +kernel⟩

/-- A record in slot 0, as it was sealed. -/
def sealed (st : ParcelState) : Parcel := sealParcel 0 (record st (some 0))

theorem witness_WithdrawRetireAndClearRetireTheRecord :
    (∀ st ∈ [ParcelState.advised, .stranded, .quarantined, .returnQueued],
      Ready (stored st) ∧ parcelAt 0 (stored st) = some (sealed st) ∧ compGood 0 (stored st) = true ∧
        RecordRead (sealed st).ref 0 (sealed st) (stored st) ∧ (sealed st).state = st) ∧
    (sealed .returnQueued).comp = some 0 := by decide +kernel

/-- An advised record whose code, 7, is in way 28. -/
def advised : State := coded (.pickup 0) (holding (record .advised none) bank)

theorem advised_code : NamesSlot 0 28 (.pickup 0) advised :=
  names_first (coded_alone _ rfl) (by decide +kernel) rfl

/-- A sweep of a terminal at a cursor, with a record resolved now. -/
def sweepOf (t : Term) : Sweep :=
  { phase := .walking, terminal := t, courier := 3, route := 0, cursor := 1, current := some 0, taken := 0, skipped := 0
    failed := 0, cause := none }

/-- Slot 0 in the return queue, before the sweep's cursor. -/
def queuedBack : State :=
  let s := stored .returnQueued
  { s with returns := { s.returns with queue := [0], sweep := some (sweepOf 1) } }

/-- Terminal 1's open job, in a mode, sign-off pending or not. -/
def openJob (m : TermMode) (p : Bool) : State :=
  modTerm 1 (fun c => { c with mode := m, openJob := some 0, signOffPending := p }) (stored .depositing)

theorem no_code (s : State) (h : s.creds.ways = Vector.replicate 512 none) (k : Slot) :
    ∀ (w : Way) (c : Credential), s.creds.ways[w] = some c → kindSlot c.kind ≠ some k := by
  intro w c e
  rw [h] at e
  have : (Vector.replicate 512 (none : Option Credential))[w.val] = none := by simp
  exact absurd (this.symm.trans e) (by simp)

theorem witness_RetirementFreesSlotCompartmentAndCode :
    ((parcelAt 0 advised = some (sealParcel 0 (record .advised none)) ∧ NamesSlot 0 28 (.pickup 0) advised) ∧
      parcelAt 0 (stored .stored) = some (sealed .stored) ∧
      ∀ (w : Way) (c : Credential), (stored .stored).creds.ways[w] = some c → kindSlot c.kind ≠ some 0) ∧
    ((0 : Slot) ∉ bank.returns.queue ∧ (0 : Slot) ∈ queuedBack.returns.queue ∧ queuedBack.returns.queue.idxOf 0 < 1) ∧
    (∀ st ∈ [CompState.held, .loaded, .barred, .unfitted, .vacant, .maint],
      let s := under st .none (stored .stored)
      s.comps[(0 : CompNo)].link = some 0 ∧ parcelAt 0 s = some (sealed .stored) ∧ (sealed .stored).comp = some 0 ∧
        s.comps[(0 : CompNo)].state = st) ∧
    ((∀ m ∈ [TermMode.customer, .courier ann], ∀ p ∈ [true, false], (openJob m p).creds.terms[(1 : Term)].openJob = some 0 ∧
        (openJob m p).creds.terms[(1 : Term)].mode = m ∧ (openJob m p).creds.terms[(1 : Term)].signOffPending = p ∧
        (openJob m p).returns.sweep = none ∧
        ∀ u : Term, u ≠ 1 → (openJob m p).creds.terms[u].openJob ≠ some 0) ∧
      courierAt 1 (openJob .customer false) = none ∧
      ∀ u : Term, bank.creds.terms[u].openJob ≠ some 0) :=
  ⟨⟨⟨by decide +kernel, advised_code⟩, by decide +kernel, no_code _ rfl 0⟩, by decide +kernel, by decide +kernel,
    by decide +kernel⟩

theorem witness_ReissueReplacesTheCode :
    (Ready advised ∧ RecordRead 77 0 (sealParcel 0 (record .advised none)) advised ∧
      (record .advised none).state ≠ .quarantined ∧ codeInRange 135 = true ∧ BucketGood 135 advised ∧
      (∀ u ∈ bucketWays 135, wayHolds 135 advised u = false) ∧ (28 : Way) ∈ bucketWays 135 ∧
      ∀ u ∈ bucketWays 135, u < 28 → advised.creds.ways[u].isSome = true ∧ u ≠ 28) ∧
    (BucketGood 8 advised ∧ (∀ u ∈ bucketWays 8, wayHolds 8 advised u = false) ∧ (32 : Way) ∈ bucketWays 8 ∧
      advised.creds.ways[(32 : Way)] = none ∧
      ∀ u ∈ bucketWays 8, u < 32 → advised.creds.ways[u].isSome = true ∧ u ≠ 28) ∧
    NamesSlot 0 28 (.pickup 0) advised := ⟨by decide +kernel, by decide +kernel, advised_code⟩

/-- A stored record, terminal 2's open job. -/
def working : State := modTerm 2 (fun c => { c with mode := .customer, openJob := some 0 }) (stored .stored)

theorem witness_StatusReportsAndChangesNothing :
    Ready working ∧ compGood 0 working = true ∧ compGood 239 working = true ∧
    RecordRead 77 0 (sealed .stored) working ∧ working.creds.terms[(2 : Term)].openJob = some 0 ∧
    (sealed .stored).state ≠ .quarantined := by decide +kernel
/-! ### Deposits and the clock -/

/-- An advised record, a DELIVERY or a RETURN with its code in way 28, and a courier at terminal 1. -/
def awaiting (kind : ParcelKind) : State :=
  coded (.returnAuth 0) (holding { record .advised none with kind := kind } (signedOn bank))

theorem takes_compartment (s : State) (h : s.freeLists.small = [0]) (p : onPresentColumn 0 s = true) (u : Bool) :
    AllocationTakes .small u 0 s :=
  ⟨.small, [], [], [], (classesFrom .small u).tail, by cases u <;> rfl, h, p, by simp, by simp⟩

theorem witness_DepositAndReturnDropTakeTheCompartmentFound :
    (AllocationTakes .small true 0 bank ∧ ∀ c ∈ classesFrom .medium true, ∀ n ∈ listOf c bank.freeLists,
      onPresentColumn n bank = false) ∧
    (∀ kind : ParcelKind, kind = .delivery ∨ kind = .ret →
      Ready (awaiting kind) ∧ (awaiting kind).time.clockSet = true ∧ (awaiting kind).arbiter.holdActive = false ∧
      parcelAt 0 (awaiting kind) = some (sealParcel 0 { record .advised none with kind := kind }) ∧
      parcelGood 0 (awaiting kind) = true ∧ compGood 0 (awaiting kind) = true ∧
      AllocationTakes .small false 0 (awaiting kind)) ∧
    ((awaiting .delivery).creds.terms[(1 : Term)].mode = .courier ann ∧
      (awaiting .delivery).creds.terms[(1 : Term)].signOffPending = false ∧ ann.deposit = true ∧
      (awaiting .delivery).creds.terms[(1 : Term)].openJob = none ∧ recordOf 77 (awaiting .delivery) = some 0) ∧
    (courierAt 0 (awaiting .ret) = none ∧ (awaiting .ret).creds.terms[(0 : Term)].lockRemaining = 0 ∧
      (awaiting .ret).creds.terms[(0 : Term)].openJob = none ∧ codeInRange 7 = true ∧ BucketGood 7 (awaiting .ret) ∧
      HoldsCode 7 28 (.returnAuth 0) (awaiting .ret)) := by
  refine ⟨⟨takes_compartment _ (by decide +kernel) (by decide +kernel) true, by decide +kernel⟩, fun kind h => ?_,
    by decide +kernel, by decide +kernel⟩
  rcases h with rfl | rfl <;>
    exact ⟨by decide +kernel, by decide +kernel, by decide +kernel, by decide +kernel, by decide +kernel, by decide +kernel,
      takes_compartment _ (by decide +kernel) (by decide +kernel) false⟩

/-- A deposit whose grant still waits, under a hold. -/
def waitingDeposit : State :=
  let s := setMarker 0 (some { slot := 0, comp := 0 }) (under .held .awaitGrant (holding (record .depositing (some 0)) bank))
  { s with arbiter := { s.arbiter with
      waiting := [{ comp := 0, col := 0, cls := .deposit, age := 0 }], nextAge := 1, holdActive := true } }

theorem witness_AbandonGivesTheCompartmentBack :
    Ready waitingDeposit ∧ waitingDeposit.deposit.markers[(0 : Term)] = some { slot := 0, comp := 0 } ∧
    parcelAt 0 waitingDeposit = some (sealed .depositing) ∧ parcelGood 0 waitingDeposit = true ∧
    (sealed .depositing).state = .depositing ∧ compGood 0 waitingDeposit = true ∧
    waitingDeposit.comps[(0 : CompNo)].state = .held ∧ waitingDeposit.comps[(0 : CompNo)].link = some 0 ∧
    waitingDeposit.comps[(0 : CompNo)].phase = .awaitGrant ∧ isWaiting 0 waitingDeposit = true := by decide +kernel

theorem witness_TimeSetSetsTheClock :
    Ready bank ∧ (59 : Byte).toNat < 60 ∧ 60 ≤ (60 : Byte).toNat := by decide +kernel

/-! ### Charges and collection -/

theorem witness_PeakMultiplierAndFlatFee :
    ((∀ i : Fin 4, 100 ≤ peaks3[i].multiplier) ∧ (∃ i : Fin 4, peakCovers peaks3[i] 1320 = true) ∧
      ∀ i : Fin 4, peakCovers peaks3[i] 1319 = false) ∧
    ∀ sn ∈ [snap4 0 15 9999 31501 0, snap4 240 1440 300 30240 0, snap4 240 60 300 30241 0],
      sn.arrival = some 30000 ∧ sn.plan.block ∈ blockLengths ∧ sn.plan.peak = false ∧ sn.plan.caps[classAt sn.cls] = none := by
  decide +kernel

/-- The snapshot of a computation at a rate. -/
def snapOf (rate : Nat) : Snapshot :=
  { plan := { Cold.plan with rates := Vector.replicate 4 rate, free := 0 }, peaks := Cold.charge.peaks, cls := .small
    arrival := some 900, slot := 0, prepaid := 0, quoteMinute := 1000 }

/-- Terminal 2's COLLECT at the head of the computation queue. -/
def queuedCharge : QueuedCharge := { terminal := 2, slot := 0, tag := 4 }

/-- A computation in progress, or none. -/
def completing (running : Option Snapshot) : State :=
  setCharge [queuedCharge] running
    (setContext 2 (.quoting 0)
      (modTerm 2 (fun c => { c with mode := .customer, openJob := some 0 }) (stored .quoting)))

/-- None, at a minute. -/
def starting (m : Minute) : State := { completing none with time := { minute := m, seconds := 0, clockSet := true } }

/-- The dwell at the free minutes, one past them, at one below the expiry and at the expiry. -/
theorem witness_ComputationStartsAndItsQuoteIsAnswered :
    ((completing (some (snapOf 0))).charge.running ≠ none ∧ bank.charge.queue = []) ∧
    (∀ s ∈ completing (some (snapOf 0)) :: completing (some (snapOf 1)) :: [1140, 1141, 10979, 10980].map starting,
      s.charge.queue = queuedCharge :: [] ∧ parcelAt 0 s = some (sealed .quoting) ∧ parcelGood 0 s = true ∧
      (sealed .quoting).state = .quoting ∧ (sealed .quoting).comp = some 0 ∧ compGood 0 s = true ∧
      s.comps[(0 : CompNo)].state = .loaded ∧ s.comps[(0 : CompNo)].link = some 0) ∧
    (∀ rate ∈ [0, 1], running (completing (some (snapOf rate))) = true ∧
      (completing (some (snapOf rate))).charge.running = some (snapOf rate)) ∧
    (owedOf (snapOf 0) = 0 ∧ owedOf (snapOf 1) ≠ 0) ∧
    (sealed .quoting).arrival = some 900 ∧
    ∀ s ∈ [1140, 1141, 10979, 10980].map starting,
      s.charge.running = none ∧ 0 < s.charge.plans[(sealed .quoting).plan].block ∧
        s.charge.plans[(sealed .quoting).plan].expiry = 10080 ∧ s.charge.plans[(sealed .quoting).plan].free = 240 := by decide +kernel

/-- A record whose code 7 is in way 28. -/
def collectable (st : ParcelState) : State := coded (.pickup 0) (stored st)

theorem witness_CollectStartsAQuoteOrReleases :
    (∀ st ∈ [ParcelState.stored, .untaken],
      Ready (collectable st) ∧ courierAt 3 (collectable st) = none ∧ (collectable st).creds.terms[(3 : Term)].openJob = none ∧
      (collectable st).collection.contexts[(3 : Term)] = .none ∧ (collectable st).creds.terms[(3 : Term)].lockRemaining = 0 ∧
      (collectable st).time.clockSet = true ∧ codeInRange 7 = true ∧ parcelAt 0 (collectable st) = some (sealed st) ∧
      parcelGood 0 (collectable st) = true ∧ (sealed st).comp = some 0 ∧ compGood 0 (collectable st) = true ∧
      onPresentColumn 0 (collectable st) = true ∧ (collectable st).comps[(0 : CompNo)].state = .loaded ∧
      (collectable st).comps[(0 : CompNo)].link = some 0 ∧ (sealed st).state = st) ∧
    (∀ st ∈ [ParcelState.stored, .untaken],
      BucketGood 7 (collectable st) ∧ HoldsCode 7 28 (.pickup 0) (collectable st)) ∧
    isExpired 0 (sealed .stored) (collectable .stored).time.minute (collectable .stored) = false :=
  ⟨by decide +kernel, by decide +kernel, by decide +kernel⟩

/-- A quote that owes 500. -/
def quote500 : Quote :=
  { fee := 500, owed := 500, clamped := false, minute := 1000, endMinute := 1003, endSecond := 0, terminal := 2 }

/-- Its record, with 300 tendered. -/
def owing : Parcel := { record .due (some 0) with quote := some quote500, tendered := 300 }

/-- A DUE quote at terminal 2, with the last tender taken. -/
def due (window : Nat) (last : Option LastTender) : State :=
  setContext 2 (.due 0 window last)
    (modTerm 2 (fun c => { c with mode := .customer, openJob := some 0 }) (under .loaded .none (holding owing bank)))

/-- A first tender of 300. -/
def part300 : LastTender := { tref := 1, reply := .part 200 }

theorem witness_TenderIsAddedSettlesOrIsRepeated :
    (Ready (due 30 (some part300)) ∧ (due 30 (some part300)).collection.contexts[(2 : Term)] = .due 0 30 (some part300) ∧
      part300.tref ≠ 2 ∧ parcelAt 0 (due 30 (some part300)) = some (sealParcel 0 owing) ∧
      parcelGood 0 (due 30 (some part300)) = true ∧ owing.quote = some quote500 ∧ owing.state = .due ∧
      owing.comp = some 0 ∧ compGood 0 (due 30 (some part300)) = true ∧
      (due 30 (some part300)).comps[(0 : CompNo)].state = .loaded ∧
      (due 30 (some part300)).comps[(0 : CompNo)].link = some 0) ∧
    (owing.tendered + 199 < quote500.owed ∧ quote500.owed ≤ owing.tendered + 200 ∧ owing.tendered + 999699 ≤ 999999) ∧
    (Ready (setContext 2 (.releasing 0 (some { tref := 2, reply := .settled 0 0 })) (due 30 none)) ∧
      (setContext 2 (.releasing 0 (some { tref := 2, reply := .settled 0 0 })) (due 30 none)).collection.contexts[(2 : Term)] =
        .releasing 0 (some { tref := 2, reply := .settled 0 0 })) := by decide +kernel

/-- A settled record left untaken. -/
def untaken : Parcel := { record .untaken (some 0) with quote := some quote500, tendered := 600, change := 100 }

/-- Its re-open window runs. -/
def reopening (left : Nat) : State :=
  setReopen [{ slot := 0, left := left }] (under .loaded .none (holding untaken bank))

/-- Terminal 2's computation at the head of the queue, and behind another's. -/
def cancelling (before : List QueuedCharge) : State := setCharge (before ++ [queuedCharge]) none (completing none)

theorem witness_CancelLapseAndReopenEndCredit :
    (∀ w ∈ [0, 1], Ready (due w none) ∧ parcelAt 0 (due w none) = some (sealParcel 0 owing) ∧
      parcelGood 0 (due w none) = true ∧ (due w none).collection.contexts[(2 : Term)] = .due 0 w none ∧
      owing.state = .due) ∧
    (∀ before ∈ [[], [({ terminal := 0, slot := 1, tag := 5 } : QueuedCharge)]], Ready (cancelling before) ∧
      parcelAt 0 (cancelling before) = some (sealed .quoting) ∧ parcelGood 0 (cancelling before) = true ∧
      (cancelling before).collection.contexts[(2 : Term)] = .quoting 0 ∧ (sealed .quoting).state = .quoting ∧
      (cancelling before).charge.queue = before ++ queuedCharge :: [] ∧ queuedCharge.slot = 0 ∧
      ∀ x ∈ before, x.slot ≠ 0) ∧
    ∀ left ∈ [0, 600], running (reopening left) = true ∧ parcelAt 0 (reopening left) = some (sealParcel 0 untaken) ∧
      parcelGood 0 (reopening left) = true ∧ untaken.state = .untaken ∧
      ⟨0, left⟩ ∈ (reopening left).collection.reopen ∧ (left ≠ 0 → ∀ e ∈ (reopening left).collection.reopen, e.left ≠ 0) := by
  decide +kernel

/-! ### Returns -/

/-- A returned record, first in the queue, and a courier at terminal 1. -/
def returning : State :=
  let s := signedOn (stored .returnQueued)
  { s with returns := { s.returns with queue := [0] } }

/-- A sweep from a cursor with no current record. -/
def walking (route : Route) (cursor : Nat) (phase : SweepPhase) : Sweep :=
  { sweepOf 1 with phase := phase, route := route, cursor := cursor, current := none, cause := some .hold }

/-- Every entry of the queue from the cursor on passes: it has one entry, ahead of the cursor or of another route. -/
theorem nothing_ahead (s : State) (route : Route) (cursor : Nat) (h : s.returns.queue = [0])
    (g : cursor = 0 → parcelGood 0 s = true ∧ sweepEligible route 0 s = false) :
    ∀ i, cursor ≤ i → ∀ k, s.returns.queue[i]? = some k → parcelGood k s = true ∧ sweepEligible route k s = false := by
  intro i a k e
  rw [h] at e
  match i, a, e with
  | 0, a, e => cases e; exact g (Nat.le_zero.1 a)

/-- A sweep at work on slot 0: its request waiting or its pulse committed. -/
def sweptBy (ph : DoorPhase) (waits : Bool) : State :=
  let s := setSweep (some (sweepOf 1)) (under .sweeping ph (holding (record .sweeping (some 0)) bank))
  { s with arbiter := { s.arbiter with
      waiting := if waits then [{ comp := 0, col := 0, cls := .sweep, age := 0 }] else []
      committed := if waits then [] else [{ comp := 0, col := 0, cls := .sweep, age := 0, stage := .sent }] } }

theorem witness_SweepWalksStartsAndStops :
    (bank.returns.sweep = none ∧ (setSweep (some (sweepOf 1)) returning).returns.sweep = some (sweepOf 1) ∧
      (sweepOf 1).current ≠ none ∧ (walking 0 0 .stopping).cause = some .hold ∧ (walking 0 0 .stopping).phase = .stopping) ∧
    (∀ w ∈ [walking 0 0 .walking, walking 1 0 .walking, walking 0 1 .walking],
      (setSweep (some w) returning).returns.sweep = some w ∧ w.current = none ∧ w.phase = .walking) ∧
    ((0 : Nat) ≤ 0 ∧ returning.returns.queue[0]? = some 0 ∧ sweepEligible 0 0 returning = true ∧
      (parcelAt 0 returning).bind Parcel.comp = some 0 ∧ parcelGood 0 returning = true ∧ compGood 0 returning = true ∧
      returning.comps[(0 : CompNo)].link = some 0) ∧
    (∀ route cursor, (route, cursor) ∈ [((1 : Route), 0), (0, 1)] → ∀ i, cursor ≤ i → ∀ k,
      returning.returns.queue[i]? = some k → parcelGood k returning = true ∧ sweepEligible route k returning = false) ∧
    (∀ x ∈ [(DoorPhase.awaitGrant, true), (.awaitGrant, false), (.opened, false)],
      let s := sweptBy x.1 x.2
      s.returns.sweep = some (sweepOf 1) ∧ (sweepOf 1).phase = .walking ∧ parcelAt 0 s = some (sealed .sweeping) ∧
        (sealed .sweeping).comp = some 0 ∧ s.comps[(0 : CompNo)].phase = x.1 ∧ isWaiting 0 s = x.2 ∧
        isCommitted 0 s = !x.2 ∧ parcelGood 0 s = true ∧ compGood 0 s = true ∧ (sealed .sweeping).state = .sweeping ∧
        s.comps[(0 : CompNo)].state = .sweeping) ∧
    (Ready returning ∧ returning.creds.terms[(1 : Term)].mode = .courier ann ∧
      returning.creds.terms[(1 : Term)].signOffPending = false ∧ ann.sweep = true ∧ returning.returns.sweep = none ∧
      returning.arbiter.holdActive = false ∧ ann.route = 0) ∧
    (Ready (setSweep (some (sweepOf 1)) returning) ∧
      (setSweep (some (sweepOf 1)) returning).creds.terms[(1 : Term)].mode = .courier ann ∧
      (sweepOf 1).terminal = 1) := by
  refine ⟨by decide +kernel, by decide +kernel, by decide +kernel, fun route cursor h => ?_, by decide +kernel,
    by decide +kernel, by decide +kernel⟩
  simp only [List.mem_cons, Prod.mk.injEq, List.not_mem_nil, or_false] at h
  rcases h with ⟨rfl, rfl⟩ | ⟨rfl, rfl⟩
  · exact nothing_ahead _ _ _ rfl (fun _ => by decide +kernel)
  · exact nothing_ahead _ _ _ rfl (fun h => absurd h (by decide))

/-- A scan at a slot at a scan minute, a further one due or not. -/
def scanning (minute : Minute) (cursor : Slot) (again : Bool) (st : ParcelState) : State :=
  setScanner { scanning := true, minute := minute, cursor := cursor, due := again } (stored st)

theorem witness_ScanVisitQueuesTheExpired :
    (running (scanning 10980 0 false .stored) = true ∧ (scanning 10980 0 false .stored).returns.scanner.scanning = true ∧
      (scanning 10980 0 false .stored).returns.scanner.cursor = 0 ∧
      parcelGood 0 (scanning 10980 0 false .stored) = true ∧
      parcelAt 0 (scanning 10980 0 false .stored) = some (sealed .stored) ∧ (sealed .stored).state = .stored ∧
      isExpired 0 (sealed .stored) 10980 (scanning 10980 0 false .stored) = true) ∧
    (isExpired 0 (sealed .stored) 10979 (scanning 10979 0 false .stored) = false ∧
      parcelAt 0 (scanning 10980 0 false .stranded) = some (sealed .stranded) ∧
      parcelGood 0 (scanning 10980 0 false .stranded) = true) ∧
    (∀ again ∈ [true, false], (scanning 10980 383 again .stored).returns.scanner.due = again ∧
      parcelAt 383 (scanning 10980 383 again .stored) = none ∧
      parcelGood 383 (scanning 10980 383 again .stored) = true) ∧
    bank.returns.scanner.scanning = false := by decide +kernel

/-- A COLLECT of a record whose compartment is in MAINT is refused HELD_FOR_STAFF, as for a BARRED one (R17, R83). -/
theorem test_collect_in_maint :
    lastBody (after (.collect 1 (originOctet (.terminal 3)) 7)
      (modComp 0 (fun c => { c with state := .maint }) (collectable .stored))) = [0x06, 0x12] := by decide +kernel

/-- A sweep takes no record whose release the manager refuses: the link names another slot (R10, log 54). -/
theorem test_sweep_release_refused :
    let s := walkOn (setSweep (some (walking 0 0 .walking)) (modComp 0 (fun c => { c with link := some 1 }) returning))
    (parcelAt 0 s).map Parcel.state = some .returnQueued ∧ s.arbiter.waiting = [] ∧ s.returns.sweep = none := by
  decide +kernel

/-! ### Compartments, columns, notices, tables -/

/-- Compartment 0 in a state with a cause, no link. -/
def compIn (st : CompState) (cause : Option BarCause) (pendingBar : Bool) : State :=
  modComp 0 (fun c => { c with state := st, cause := cause, pendingBar := pendingBar }) bank

theorem witness_BarAndUnbarFollowTheirTables :
    (∀ st ∈ [CompState.vacant, .held, .loading, .loaded, .releasing, .sweeping, .maint, .barred, .unfitted],
      ∀ p ∈ [true, false], Ready (compIn st none p) ∧ compGood 0 (compIn st none p) = true ∧
        (compIn st none p).comps[(0 : CompNo)].state = st ∧ (compIn st none p).comps[(0 : CompNo)].pendingBar = p ∧
        (compIn st none p).comps[(0 : CompNo)].cause ≠ some .mapMismatch ∧
        (compIn st none p).comps[(0 : CompNo)].link = none) ∧
    (∀ s, s = modColumn 0 (fun e => { e with count := 0 }) (compIn .barred (some .mapMismatch) false) →
      Ready s ∧ compGood 0 s = true ∧ s.comps[(0 : CompNo)].state = .barred ∧
      s.comps[(0 : CompNo)].cause = some .mapMismatch ∧ s.comps[(0 : CompNo)].place = some { col := 0, pos := 0 } ∧
      s.bus.columns[(0 : Col)].state = .present ∧ s.bus.columns[(0 : Col)].count.val ≤ 0) ∧
    (∀ st ∈ [ParcelState.stored, .stranded, .quarantined],
      let s := modComp 0 (fun c => { c with state := .barred, cause := some .tamper }) (stored st)
      Ready s ∧ compGood 0 s = true ∧ s.comps[(0 : CompNo)].state = .barred ∧
        s.comps[(0 : CompNo)].cause ≠ some .mapMismatch ∧ s.comps[(0 : CompNo)].link = some 0 ∧
        parcelAt 0 s = some (sealed st) ∧ (sealed st).state = st) :=
  ⟨by decide +kernel, fun s h => by subst h; decide +kernel, by decide +kernel⟩

/-- Compartment 0 in the maintenance slot. -/
def maintained (origin : MaintFrom) (pendingBar : Bool) : State :=
  { compIn .maint (if origin = .barred then some .lockFault else none) pendingBar with
    maintSlot := some { comp := 0, origin := origin } }

/-- Its phase, its test pulse's request in the waiting list or its grant in the committed set. -/
def maintPhase (ph : DoorPhase) (waits committed : Bool) : State :=
  let s := modComp 0 (fun c => { c with phase := ph }) (maintained .vacant false)
  { s with arbiter := { s.arbiter with
    waiting := if waits then [{ comp := 0, col := 0, cls := .maint, age := 7 }] else []
    committed := if committed then [{ comp := 0, col := 0, cls := .maint, age := 7, stage := .sent }] else [] } }

theorem witness_MaintenanceLoopEntersPulsesAndExits :
    (∀ st ∈ [CompState.vacant, .barred], Ready (compIn st none false) ∧ compGood 0 (compIn st none false) = true ∧
      (compIn st none false).maintSlot = none ∧ (compIn st none false).comps[(0 : CompNo)].state = st ∧
      (compIn st none false).comps[(0 : CompNo)].link = none) ∧
    (∀ o ∈ [MaintFrom.vacant, .barred], ∀ p ∈ [true, false],
      Ready (maintained o p) ∧ compGood 0 (maintained o p) = true ∧ (maintained o p).maintSlot = some { comp := 0, origin := o } ∧
      (maintained o p).comps[(0 : CompNo)].phase = .none ∧ (maintained o p).arbiter.holdActive = false ∧
      onPresentColumn 0 (maintained o p) = true ∧ (maintained o p).comps[(0 : CompNo)].door = .closed) ∧
    ∀ x ∈ [(DoorPhase.awaitGrant, true, false), (.awaitGrant, false, false), (.awaitGrant, false, true),
        (.awaitOpen, false, true), (.opened, false, false)],
      let s := maintPhase x.1 x.2.1 x.2.2
      Ready s ∧ compGood 0 s = true ∧ s.maintSlot = some { comp := 0, origin := .vacant } ∧
        s.comps[(0 : CompNo)].phase = x.1 ∧ isWaiting 0 s = x.2.1 ∧ isCommitted 0 s = x.2.2 := by decide +kernel

/-! ### Columns, notices, tables -/

/-- The longest operation queue a RELAY still joins, an enumeration not under way, a last trace. -/
def traceOf : LastTrace :=
  { comp := 0, pos := 0, pulseEnd := .elapsed, edges := [⟨85, .fall⟩], failed := false, cls := .boltMoved, minute := 900 }

def tracing : State :=
  let s := setLastTrace 0 traceOf bank
  { s with bus := { s.bus with queue := List.replicate 15 (.probe 0 false) } }

theorem witness_RelayEnumerateAndTraceRequests :
    Ready tracing ∧ relayKind? 0x02 = some .chime ∧ 1 ≤ [(0x41 : Byte)].length ∧
    (List.replicate 32 (0x41 : Byte)).length ≤ 32 ∧
    permits tracing.mgmt.config.relay[(0 : Col)] .chime = true ∧ tracing.bus.columns[(0 : Col)].state = .present ∧
    tracing.bus.queue.length < 16 ∧ tracing.bus.enumeration = none ∧ tracing.dormancy.state = .awake ∧
    tracing.doors.lastTrace[(0 : Col)] = some traceOf := by decide +kernel

/-- The drill stands at a step. -/
def drilled (step : Fin 8) : State := { bank with notices := { bank.notices with drillStep := step } }

theorem witness_SnapshotIntegrityMaskAndDrillRequests :
    Ready (count .pulses bank) ∧
    (∀ step : Fin 8, Ready (drilled step) ∧ (drilled step).notices.drillStep = step) ∧
    ((0 : Fin 8), NoticeBody.doorAjar 0xFF 0, [Counter.ajar]) ∈
      ([(0, .doorAjar 0xFF 0, [.ajar]), (6, .drill 0x07, [])] : List (Fin 8 × NoticeBody × List Counter)) := by
  decide +kernel

/-- The cursor at an entry of a table. -/
def cursorAt (table : TableId) (index : Nat) (mode : StepMode) : State :=
  { coded (.courier ann) (stored .returnQueued) with
    mgmt := { bank.mgmt with cursor := { table := table, index := index, mode := mode } } }

/-- The return queue of one entry, under a cursor. -/
def queueAt (index : Nat) (queue : List Slot) : State :=
  let s := cursorAt .returnQueue index .each
  { s with returns := { s.returns with queue := queue } }

theorem witness_CursorAndReadFollowTheTable :
    ((∀ b ∈ ([0, 1, 2, 3, 4, 5, 7, 8] : List Byte), ∀ m ∈ ([0, 1, 2] : List Byte),
        (tableId? b).isSome = true ∧ tableId? b ≠ some .returnQueue ∧ (stepMode? m).isSome = true) ∧
      tableId? 0x06 = some .returnQueue ∧ (queueAt 0 [0]).returns.queue ≠ [] ∧ Ready (queueAt 0 [0])) ∧
    (∀ x ∈ [(TableId.tariff, 0), (.tariff, 7), (.peak, 0), (.peak, 3), (.map, 0), (.map, 239), (.column, 0), (.column, 11),
        (.parcel, 0), (.parcel, 383), (.credential, 28), (.credential, 511), (.counters, 0), (.counters, 61),
        (.snapshot, 0), (.snapshot, 61)],
      Ready (cursorAt x.1 x.2 .each) ∧ x.2 ≤ lastIndex x.1 (cursorAt x.1 x.2 .each) ∧
        (cursorAt x.1 x.2 .each).mgmt.cursor.table = x.1 ∧ (cursorAt x.1 x.2 .each).mgmt.cursor.index = x.2) ∧
    (∀ s ∈ [cursorAt .parcel 0 .each],
      compGood 0 s = true ∧ compGood 239 s = true ∧ parcelAt 0 s = some (sealed .returnQueued) ∧ parcelGood 0 s = true ∧
        parcelAt 383 s = none ∧ s.creds.ways[(511 : Way)] = none ∧
        s.creds.ways[(28 : Way)].map Credential.kind = some (.courier ann) ∧ wayGood 28 s = true) ∧
    (∀ kind ∈ [CredKind.pickup 0, .returnAuth 0],
      (coded kind bank).creds.ways[(28 : Way)].map Credential.kind = some kind ∧ wayGood 28 (coded kind bank) = true) ∧
    ((queueAt 0 [0]).returns.queue[(0 : Nat)]? = some 0 ∧ parcelAt 0 (queueAt 0 [0]) = some (sealed .returnQueued) ∧
      (queueAt 0 [0]).mgmt.cursor.index ≤ lastIndex .returnQueue (queueAt 0 [0])) ∧
    (Ready (queueAt 0 []) ∧ (queueAt 0 []).mgmt.cursor.table = .returnQueue ∧ (queueAt 0 []).returns.queue = []) ∧
    (Ready (queueAt 1 [0]) ∧ (queueAt 1 [0]).returns.queue = [] ++ [0] ∧
      ([] : List Slot).length < (queueAt 1 [0]).mgmt.cursor.index ∧
      parcelAt 0 (queueAt 1 [0]) = some (sealed .returnQueued)) :=
  ⟨by decide +kernel, by decide +kernel, by decide +kernel, by decide +kernel, by decide +kernel, by decide +kernel,
    by decide +kernel⟩

/-- A plan at the upper ends of its ranges. -/
def planFields : PlanFields :=
  { free := 10080, block := 1440, rates := Vector.replicate 4 9999, caps := Vector.replicate 4 (some 99999), peak := 0x01
    expiry := 20160, window := 600 }

theorem witness_WritesStoreTheirEntry :
    (plan2? planFields).isSome = true ∧ Ready (cursorAt .tariff 7 .each) ∧ Ready (cursorAt .peak 3 .writes) ∧
    Ready (cursorAt .column 11 .hold) ∧ (1439 : BitVec 16).toNat ≤ 1439 ∧ 100 ≤ (300 : BitVec 16).toNat ∧
    (Instr.write 1 (originOctet .office) [0]).request? = some (1, originOctet .office, .write [0]) ∧
    kindOctet (.write [0]) = 0x34 ∧
    ∀ table ∈ [TableId.parcel, .credential, .returnQueue, .counters, .snapshot],
      Ready (cursorAt table 0 .each) ∧ (cursorAt table 0 .each).mgmt.cursor.table = table := by decide +kernel

/-- Compartment 0 in a state, under the MAP cursor. -/
def mapping (st : CompState) : State :=
  { compIn st none false with mgmt := { bank.mgmt with cursor := { table := .map, index := 0, mode := .hold } } }

theorem bank_place (m : CompNo) (h : m ≠ 0) : bank.comps[m].place = none := by
  have e : bank.comps[m] = Cold.compartments[m] := by
    unfold bank
    simp only [setComp_at, if_neg (Ne.symm h)]
    rfl
  rw [e]
  exact congrArg Compartment.place (table_at Cold.compartment m)

theorem held_by_none (st : CompState) (p : MapPlace) :
    ∀ m : CompNo, m ≠ 0 → (mapping st).comps[m].place ≠ some p := by
  intro m h a
  have e : (mapping st).comps[m] = bank.comps[m] := by
    unfold mapping compIn
    simp only [modComp_at, if_neg (Ne.symm h)]
  rw [e, bank_place m h] at a
  cases a

/-- The same, column 1 with three positions. -/
def narrowed (st : CompState) : State := modColumn 0 (fun e => { e with count := 3 }) (mapping st)

/-- The MAP cursor at its last entry, an UNFITTED compartment. -/
def mappingLast (mode : StepMode) : State :=
  { bank with mgmt := { bank.mgmt with cursor := { table := .map, index := 239, mode := mode } } }

theorem witness_MapWriteFitsAndUnfits :
    (∀ st ∈ [CompState.unfitted, .vacant, .barred],
      Ready (mapping st) ∧ (mapping st).mgmt.cursor.table = .map ∧ (mapping st).mgmt.cursor.index = (0 : CompNo).val ∧
      (mapping st).mgmt.cursor.mode = .hold ∧ compGood 0 (mapping st) = true ∧ sizeClass? 0x03 = some .bulky ∧
      (mapping st).comps[(0 : CompNo)].state = st ∧ (mapping st).comps[(0 : CompNo)].link = none ∧
      (mapping st).comps[(0 : CompNo)].place ≠ some { col := 11, pos := 19 } ∧
      (mapping st).bus.columns[(11 : Col)].state ≠ .present) ∧
    (∀ st place, ∀ m : CompNo, m ≠ 0 → (narrowed st).comps[m].place = some place → (narrowed st).comps[m].state = .unfitted) ∧
    (∀ st place, ∀ m : CompNo, m ≠ 0 → (mapping st).comps[m].place = some place → (mapping st).comps[m].state = .unfitted) ∧
    (∀ st ∈ [CompState.unfitted, .vacant, .barred],
      Ready (narrowed st) ∧ compGood 0 (narrowed st) = true ∧ (narrowed st).comps[(0 : CompNo)].state = st ∧
      (narrowed st).bus.columns[(0 : Col)].state = .present ∧ (narrowed st).bus.columns[(0 : Col)].count = 3 ∧
      (narrowed st).comps[(0 : CompNo)].place = some { col := 0, pos := 0 } ∧
      (narrowed st).comps[(0 : CompNo)].place ≠ some { col := 0, pos := 2 } ∧
      (narrowed st).comps[(0 : CompNo)].place ≠ some { col := 0, pos := 3 } ∧
      (narrowed st).comps[(0 : CompNo)].cls = .small) ∧
    ((0 : CompNo) ∈ listOf .small (narrowed .vacant).freeLists ∧
      (narrowed .vacant).comps[(0 : CompNo)].door = .closed ∧
      (narrowed .vacant).comps[(0 : CompNo)].pendingBar = false ∧
      (0 : CompNo) ∉ listOf .small (leaveFree 0 (narrowed .barred)).freeLists) ∧
    (∀ mode ∈ [StepMode.hold, .each, .writes], Ready (mappingLast mode) ∧ (mappingLast mode).mgmt.cursor.table = .map ∧
      (mappingLast mode).mgmt.cursor.index = (239 : CompNo).val ∧ compGood 239 (mappingLast mode) = true ∧
      (mappingLast mode).comps[(239 : CompNo)].state = .unfitted) :=
  ⟨by decide +kernel, fun st place m h a => absurd a (held_by_none st place m h),
    fun st place m h a => absurd a (held_by_none st place m h), by decide +kernel,
    by decide +kernel, by decide +kernel⟩

/-- The fields of a CONFIG SET: one, the first and the last number, with an undefined value and one out of range. -/
def threeFields : List (Byte × BitVec 16) := [(0x00, 0), (0x04, 2), (0x10, 2000)]

theorem witness_ConfigSetStoresWithinTheRange :
    Ready bank ∧ (1 ≤ threeFields.length ∧ threeFields.length ≤ 40) ∧ (∀ f ∈ threeFields, f.1.toNat ≤ 16) ∧
    (threeFields.map Prod.fst).Nodup ∧ (∃ f ∈ ([(0x11, 0)] : List (Byte × BitVec 16)), 16 < f.1.toNat) ∧
    ¬ (([(0x00, 60), (0x00, 61)] : List (Byte × BitVec 16)).map Prod.fst).Nodup :=
  ⟨by decide +kernel, by decide, by simp [threeFields], by simp [threeFields], by simp, by simp⟩

/-- The hold line, the hold request flag, and the arbiter as it last acted on them. -/
def held (line requested : Bool) (act : Bool) : State :=
  let s := modConfig (fun c => { c with hold := requested }) bank
  { s with lines := { s.lines with hold := line }, arbiter := { s.arbiter with holdActive := act } }

/-- A queue of operations. -/
def queued (l : List Op) : State := { bank with bus := { bank.bus with queue := l } }

/-- A full operation queue, with a RELAY in it or without. -/
def fullQueue (relay : Bool) : State :=
  queued (if relay then .poll 0 :: .relay 0 .text [3] 4 5 :: List.replicate 14 (.poll 0) else List.replicate 16 (.poll 0))

theorem witness_HoldFollowsLineAndFlag :
    (∀ l ∈ [true, false], ∀ f ∈ [true, false], ∀ a ∈ [true, false],
      Ready (held l f a) ∧ running (held l f a) = true ∧ (held l f a).lines.hold = l ∧
      (held l f a).mgmt.config.hold = f ∧ (held l f a).arbiter.holdActive = a) ∧
    (Op.broadcast .holdAll ∈ (queued [.broadcast .holdAll]).bus.queue ++ (queued [.broadcast .holdAll]).bus.overflow ∧
      (∀ relay ∈ [true, false], Op.broadcast .holdAll ∉ (fullQueue relay).bus.queue ++ (fullQueue relay).bus.overflow ∧
        16 ≤ (fullQueue relay).bus.queue.length) ∧
      (queued (List.replicate 15 (.poll 0))).bus.queue.length < 16 ∧
      (∀ op ∈ (fullQueue false).bus.queue, isRelay op = false) ∧
      (fullQueue true).bus.queue = [.poll 0] ++ .relay 0 .text [3] 4 5 :: List.replicate 14 (.poll 0) ∧
      ∀ op ∈ List.replicate 14 (Op.poll 0), isRelay op = false) := by decide +kernel

/-! ### The kiosk link -/

/-- The receiver collecting. -/
def receiving (b : List Byte) : State := { bank with link := { bank.link with phase := .collecting, buffer := b } }

/-- A frame of eight octets that a last octet completes: its class, the six octets behind it, and whether it is sound. -/
def lastOctet (cls : Byte) (six : List Byte) : Prop :=
  ∃ rest o, (receiving (0xA7 :: 8 :: rest)).link.buffer = 0xA7 :: 8 :: rest ∧ rest.length + 3 = (8 : Byte).toNat ∧
    rest ++ [o] = cls :: six.take 3 ++ six.drop 3 ∧ (six.drop 3).length = 2

/-- The check that makes a frame of a class sound. -/
def soundCheck (cls : Byte) : List Byte := oct2 (crc16 [8, cls, 1, 0x0F, 0x36])

theorem witness_OctetIsHuntedOrCollected :
    (running bank = true ∧ bank.link.phase = .hunting) ∧
    (running (receiving [0xA7]) = true ∧ (receiving [0xA7]).link.phase = .collecting ∧ (receiving [0xA7]).link.buffer = [0xA7] ∧
      (128 : Byte).toNat ≤ 128 ∧ 8 ≤ (8 : Byte).toNat ∧ (7 : Byte).toNat < 8 ∧ 128 < (129 : Byte).toNat) ∧
    ((receiving [0xA7, 128, 1]).link.buffer = 0xA7 :: 128 :: [1] ∧ [(1 : Byte)].length + 3 < (128 : Byte).toNat) ∧
    (lastOctet 0x52 [1, 0x0F, 0x36, 0, 0] ∧ ([0, 0] : List Byte) ≠ soundCheck 0x52 ∧
      (0xA7 : Byte) ∉ ([0x52, 1, 0x0F, 0x36, 0, 0] : List Byte)) ∧
    (lastOctet 0x52 [1, 0x0F, 0x36, 0, 0xA7] ∧ ([0, 0xA7] : List Byte) ≠ soundCheck 0x52 ∧
      ([0x52, 1, 0x0F, 0x36, 0, 0xA7] : List Byte) = [0x52, 1, 0x0F, 0x36, 0] ++ 0xA7 :: []) ∧
    (lastOctet 0x52 [0xA7, 0x0F, 0x36, 0, 0] ∧ ([0x52, 0xA7, 0x0F, 0x36, 0, 0] : List Byte) = [0x52] ++ 0xA7 :: 0x0F :: [0x36, 0, 0] ∧
      8 ≤ (0x0F : Byte).toNat ∧ ([0x36, 0, 0] : List Byte).length + 2 < (0x0F : Byte).toNat) ∧
    (lastOctet 0x61 ([1, 0x0F, 0x36] ++ soundCheck 0x61) ∧ (0x61 : Byte) ≠ 0x51 ∧ (0x61 : Byte) ≠ 0x52 ∧
      (0xA7 : Byte) ∉ soundCheck 0x61) := by
  refine ⟨by decide +kernel, by decide +kernel, by decide +kernel, ⟨⟨[0x52, 1, 0x0F, 0x36, 0], 0, ?_⟩, ?_⟩,
    ⟨⟨[0x52, 1, 0x0F, 0x36, 0], 0xA7, ?_⟩, ?_⟩, ⟨⟨[0x52, 0xA7, 0x0F, 0x36, 0], 0, ?_⟩, ?_⟩,
    ⟨⟨0x61 :: 1 :: 0x0F :: 0x36 :: (soundCheck 0x61).take 1, (soundCheck 0x61)[1]!, ?_⟩, ?_⟩⟩ <;> decide +kernel

theorem witness_FrameDeliversItsEntry :
    running bank = true ∧ bank.link.phase = .hunting ∧ 1 ≤ [(0x36 : Byte)].length ∧
    (List.replicate 121 (0x36 : Byte)).length ≤ 121 := by decide +kernel

/-- Runs, a state of the link and what the transmitter sends. -/
def linked (good : Fin 3) (bad : Fin 4) (st : LinkState) (tx : Transmission) : State :=
  { bank with link := { bank.link with goodRun := good, discardRun := bad, state := st, tx := tx } }

/-- A frame begun, and what the transmitter sends. -/
def begun (st : LinkState) (tx : Transmission) : State :=
  { linked 1 1 st tx with link := { (linked 1 1 st tx).link with phase := .collecting, buffer := [0xA7, 9] } }

/-- A DUE quote whose record passes its check, at a LOST link with one good frame heard. -/
def lostDue : State := { due 1 none with link := { bank.link with goodRun := 1, state := .lost } }

theorem lostDue_good (k : Slot) : parcelGood k lostDue = true :=
  (good_setParcel 0 owing bank_tables).2.1 k

theorem witness_RunsAndSilenceDecideTheLinkState :
    ((∀ (t : Term) k w l, lostDue.collection.contexts[t] = .due k w l → parcelGood k lostDue = true) ∧
      lostDue.collection.contexts[(2 : Term)] = .due 0 1 none ∧ 1 ≤ lostDue.link.goodRun.val ∧
      lostDue.link.state ≠ .up) ∧
    (1 ≤ (linked 1 0 .lost .idle).link.goodRun.val ∧ (linked 1 0 .lost .idle).link.state ≠ .up) ∧
    (linked 0 0 .up .idle).link.goodRun = 0 ∧ 2 ≤ (linked 0 2 .up .idle).link.discardRun.val ∧
    (linked 0 1 .up .idle).link.discardRun.val < 2 ∧
    (running (linked 1 1 .up (.notice [0xA7])) = true ∧ (linked 1 1 .up (.notice [0xA7])).link.silence ≠ 0 ∧
      (linked 1 1 .up (.notice [0xA7])).link.phase = .hunting ∧ (linked 1 1 .up (.notice [0xA7])).link.state = .up ∧
      (linked 1 1 .up (.notice [0xA7])).link.tx = .notice [0xA7] ∧ (linked 1 1 .down .idle).link.state ≠ .up) ∧
    ((begun .up (.notice [0xA7])).link.phase = .collecting ∧ (begun .up (.notice [0xA7])).link.buffer = 0xA7 :: [9] ∧
      (begun .up (.notice [0xA7])).link.silence ≠ 0 ∧ (0xA7 : Byte) ∉ ([9] : List Byte) ∧
      (begun .down .idle).link.state ≠ .up ∧ running (begun .down .idle) = true) ∧
    ({ bank with link := { bank.link with silence := 0 } } : State).link.silence = 0 :=
  ⟨⟨fun _ k _ _ _ => lostDue_good k, by decide +kernel⟩, by decide +kernel⟩

/-- No request has the octets of a SIGN_OFF with one more. -/
theorem no_long_sign_off (r : Request) : bodyOctets r ≠ [0x02, 0x00] := by
  intro h
  have k : kindOctet r = 0x02 := Option.some.inj (congrArg List.head? h)
  cases r <;> first | (simp [kindOctet] at k; done) | exact absurd (congrArg List.length h) (by decide)

theorem witness_LinkInterfaceRefusesWhatItCannotHandOff :
    bank.link.fifo.length < 8 ∧ 8 ≤ fullQueues.link.fifo.length ∧ 8 ≤ fullQueues.link.replies.length + fullQueues.link.reserved ∧
    (releasePlace fullQueues).link.replies.length + (releasePlace fullQueues).link.reserved < 8 ∧
    (∀ o ∈ ([0x04, 0x0E, 0x10] : List Byte), 4 ≤ o.toNat ∧ o ≠ 0x0F) ∧
    ({ entry with body := [0x02, 0x00] } : FifoEntry).body = 0x02 :: [0x00] ∧ entry.origin.toNat < 4 ∧
    (∀ k ∈ ([0x00, 0x0D] : List Byte), ¬ (0x01 ≤ k.toNat ∧ k.toNat ≤ 0x0C)) ∧
    (∀ k ∈ ([0x1F, 0x3D] : List Byte), ¬ (0x20 ≤ k.toNat ∧ k.toNat ≤ 0x3C)) ∧
    (0x01 ≤ (0x02 : Byte).toNat ∧ (0x02 : Byte).toNat ≤ 0x0C) ∧ ([0x02, 0x00] : List Byte).length ≤ 121 ∧
    ∀ r : Request, r.wellFormed = true → fitsTable .tariff r = true → classOfRequest r = .request →
      bodyOctets r ≠ [0x02, 0x00] :=
  ⟨by decide +kernel, by decide +kernel, by decide +kernel, by decide +kernel, by decide +kernel, rfl, by decide +kernel,
    by decide +kernel, by decide +kernel, by decide +kernel, by decide, fun r _ _ _ => no_long_sign_off r⟩

/-- A notice of class LINK, the lowest but one, waits; all classes above are empty. -/
def noticed : State := raise (.link .up) { linked 2 0 .up .idle with notices := Cold.notices }

/-- Its detail. -/
def linkUp : Detail := { body := .link .up, more := false, drill := false, sensor := false }

theorem witness_TransmitterChoosesAndCompletes :
    (linked 0 0 .up (.reply [0xA7])).link.tx ≠ .idle ∧
    ((linked 0 0 .up .idle).link.tx = .idle ∧ (replied 1 0 [2, 0] bank).link.replies = { tag := 1, origin := 0, body := [2, 0] } :: []) ∧
    (bank.link.tx = .idle ∧ bank.link.replies = [] ∧ bank.link.state ≠ .up) ∧
    (noticed.link.tx = .idle ∧ noticed.link.replies = [] ∧ noticed.link.state = .up ∧
      noticed.notices.classes[classIndex .link].pending = true ∧ noticed.notices.classes[classIndex .link].masked = false ∧
      noticed.notices.classes[classIndex .link].details = linkUp :: [] ∧
      ∀ i : Fin 12, i < classIndex .link → noticed.notices.classes[i].pending = false ∨ noticed.notices.classes[i].masked = true) ∧
    (running (linked 0 0 .up (.reply [0xA7])) = true ∧ (linked 0 0 .up (.reply [0xA7])).link.tx = .reply [0xA7] ∧
      (chooseTx noticed).link.tx = .notice (frame 0x62 0x00 0x0F (noticeBody linkUp)) ∧
      (chooseTx noticed).notices.onLine = some .link ∧ running (chooseTx noticed) = true) := by
  decide +kernel

theorem witness_NoticesQueueAndCountersSaturate :
    bank.notices.classes[classIndex .link].details.length < 8 ∧
    fullQueues.notices.classes[classIndex .link].details = List.replicate 7 linkUp ++ [linkUp] ∧
    8 ≤ fullQueues.notices.classes[classIndex .link].details.length ∧
    bank.counters.live[counterIndex (.wake 11)].toNat < 65535 ∧
    ({ bank with counters := { bank.counters with live := Vector.replicate 62 0xFFFF } } : State).counters.live[
      counterIndex .checkErrors].toNat = 65535 := by decide +kernel

/-! ### Starts, clock, timers -/

theorem witness_StartsFollowTheirCauses :
    bank.mgmt.retentionIntact = true ∧ bank.mgmt.resetCause.last = .cold ∧ Ready bank ∧ bank.lines.hold = false ∧
    (held true false false).lines.hold = true ∧
    ({ bank with mgmt := { bank.mgmt with retentionIntact := false } } : State).mgmt.retentionIntact = false := by decide +kernel

theorem comp_states (n : CompNo) : bank.comps[n].state ≠ .maint ∧ bank.comps[n].state ≠ .sweeping := by
  by_cases h : n = 0
  · subst h; decide +kernel
  · have e : bank.comps[n] = Cold.compartments[n] := by
      unfold bank
      simp only [setComp_at, if_neg (Ne.symm h)]
      rfl
    rw [e]
    exact (congrArg Compartment.state (table_at Cold.compartment n)).symm ▸ ⟨CompState.noConfusion, CompState.noConfusion⟩

/-- A record and its compartment in a pair of states. -/
def jobOf (st : CompState) (ps : ParcelState) : State := under st .none (holding (record ps (some 0)) bank)

/-- What the clauses on a job in flight ask of a state. -/
def InFlight (st : CompState) (ps : ParcelState) (s : State) : Prop :=
  TablesGood s ∧ TablesAgree s ∧ parcelAt 0 s = some (sealed ps) ∧ (sealed ps).comp = some 0 ∧ (sealed ps).state = ps ∧
    s.comps[(0 : CompNo)].state = st

theorem in_flight {st : CompState} {ps : ParcelState} (h : isJob st = true ∨ st = .loaded) (g : ps ≠ .advised) :
    InFlight st ps (jobOf st ps) := by
  refine ⟨job_good _ _ _, job_agrees rfl g h (fun a => absurd rfl a), ?_, rfl, rfl, ?_⟩
  · rw [show parcelAt 0 (jobOf st ps) = _ from setParcel_at 0 0 (record ps (some 0)) bank, if_pos rfl]
    rfl
  · rw [jobOf, under_comps, if_pos rfl]
    rfl

/-- The same with no re-open window. -/
theorem in_flight_without_window : InFlight .loaded .untaken (modConfig (fun c => { c with reopen := 0 }) (jobOf .loaded .untaken)) := by
  obtain ⟨⟨a, b, c⟩, ⟨d, e, f, g, h, i, j, k, l, m, n, o, q⟩, r⟩ :=
    in_flight (st := .loaded) (ps := .untaken) (.inr rfl) ParcelState.noConfusion
  exact ⟨⟨a, b, c⟩, ⟨d, e, f, g, h, i, j, k, l, m, n, o, q⟩, r⟩

/-- Compartment 0 in the maintenance loop, out of its list. -/
def looped : State :=
  { leaveFree 0 (modComp 0 (fun c => { c with state := .maint, phase := .awaitOpen }) bank) with
    maintSlot := some { comp := 0, origin := .vacant } }

theorem looped_good : TablesGood looped :=
  have h := good_modComp 0 (fun c => { c with state := .maint, phase := .awaitOpen }) bank_tables
  ⟨h.1, h.2.1, h.2.2⟩

theorem witness_KeptStartKeepsTheDomainAndResolvesJobs :
    (∀ k p, parcelAt k (setParcel 0 (record .stored none) bank) = some p → p.state = .advised ∨ p.state = .stored ∨
      p.state = .returnQueued ∨ p.state = .stranded ∨ p.state = .quarantined) ∧
    (∀ n : CompNo, (setParcel 0 (record .stored none) bank).comps[n].state ≠ .maint ∧
      (setParcel 0 (record .stored none) bank).comps[n].state ≠ .sweeping) ∧
    (bank.lines.hold || bank.mgmt.config.hold) = false ∧
    (InFlight .held .depositing (jobOf .held .depositing) ∧ InFlight .loading .depositing (jobOf .loading .depositing) ∧
      InFlight .loaded .quoting (jobOf .loaded .quoting) ∧ InFlight .loaded .due (jobOf .loaded .due) ∧
      InFlight .releasing .releasing (jobOf .releasing .releasing) ∧
      InFlight .sweeping .sweeping (jobOf .sweeping .sweeping)) ∧
    (InFlight .loaded .untaken (jobOf .loaded .untaken) ∧ 0 < (jobOf .loaded .untaken).mgmt.config.reopen) ∧
    (InFlight .loaded .untaken (modConfig (fun c => { c with reopen := 0 }) (jobOf .loaded .untaken)) ∧
      (modConfig (fun c => { c with reopen := 0 }) (jobOf .loaded .untaken)).mgmt.config.reopen = 0) ∧
    (TablesGood looped ∧ TablesAgree looped ∧ looped.comps[(0 : CompNo)].state = .maint) := by
  refine ⟨at_rest fun k => ?_, comp_states, rfl,
    ⟨in_flight (.inl rfl) ParcelState.noConfusion, in_flight (.inl rfl) ParcelState.noConfusion,
      in_flight (.inr rfl) ParcelState.noConfusion, in_flight (.inr rfl) ParcelState.noConfusion,
      in_flight (.inl rfl) ParcelState.noConfusion, in_flight (.inl rfl) ParcelState.noConfusion⟩,
    ⟨in_flight (.inr rfl) ParcelState.noConfusion, by decide +kernel⟩, ⟨in_flight_without_window, rfl⟩,
    ⟨looped_good, agree (link := none) (by decide +kernel), by decide +kernel⟩⟩
  rw [setParcel_at, bank_free]
  split <;> rfl

/-- The clock at a minute and second, the expiry scan configured or not, a scan under way or not. -/
def clockAt (m : Minute) (sec : Fin 60) (scan busy : Bool) : State :=
  let s := modConfig (fun c => { c with expiryScan := scan }) bank
  { s with time := { minute := m, seconds := sec, clockSet := true }
           returns := { s.returns with scanner := { s.returns.scanner with scanning := busy } } }

theorem clock_doors (m : Minute) (sec : Fin 60) (a b : Bool) (n : CompNo) : (clockAt m sec a b).doors.records[n].ajar = none := by
  show (Vector.replicate 240 Cold.doorRecord)[n.val].ajar = none
  simp [Cold.doorRecord]

theorem cold_terms : ∀ t : Term, Cold.credentials.terms[t].lockRemaining = 0 ∧ Cold.credentials.terms[t].mode = .idle ∧
    Cold.collection.contexts[t] = .none := by decide +kernel

/-- At every minute, so at 4,294,967,295 and at 4,294,967,294, at seconds 58 and 59. -/
theorem witness_SecondsAndMinutesAdvanceTheClock :
    (∀ (m : Minute) (sec : Fin 60) (scan busy : Bool),
      running (clockAt m sec scan busy) = true ∧
      (∀ t : Term, (clockAt m sec scan busy).creds.terms[t].lockRemaining = 0 ∧
        ∀ i, (clockAt m sec scan busy).creds.terms[t].mode ≠ .courier i) ∧
      (∀ t : Term, ∀ k w l, (clockAt m sec scan busy).collection.contexts[t] ≠ .due k w l) ∧
      (clockAt m sec scan busy).collection.reopen = [] ∧
      (∀ n : CompNo, (clockAt m sec scan busy).doors.records[n].ajar = none) ∧ (clockAt m sec scan busy).mgmt.config.idle = 0 ∧
      (clockAt m sec scan busy).time.minute = m ∧ (clockAt m sec scan busy).time.seconds = sec ∧
      (clockAt m sec scan busy).time.clockSet = true ∧ (clockAt m sec scan busy).mgmt.config.expiryScan = scan) ∧
    (running (signedOn bank) = true ∧ (signedOn bank).time.seconds = 0 ∧
      (signedOn bank).creds.terms[(1 : Term)].mode = .courier ann) ∧
    running { bank with lines := { bank.lines with reset := true } } = false := by
  refine ⟨fun m sec scan busy => ⟨rfl, fun t => ⟨(cold_terms t).1, fun i => ?_⟩, fun t k w l => ?_, rfl,
    clock_doors m sec scan busy, rfl, rfl, rfl, rfl, rfl⟩, by decide +kernel, by decide +kernel⟩
  · rw [show (clockAt m sec scan busy).creds.terms[t].mode = .idle from (cold_terms t).2.1]
    exact TermMode.noConfusion
  · rw [show (clockAt m sec scan busy).collection.contexts[t] = .none from (cold_terms t).2.2]
    exact QuoteContext.noConfusion

/-- The courier's inactivity timer at 0. -/
def timedOut : State := modTerm 1 (fun c => { c with inactivity := 0 }) (signedOn bank)

/-- An ajar timer and an idle timer of one second, on a column polled since its return or not. -/
def ajarIdling (idle : Nat) (first : Bool) : State :=
  let s := setFirstPoll 0 first (modDoor 0 (fun d => { d with ajar := some 1, openSeconds := 65535 }) bank)
  { modConfig (fun c => { c with idle := idle }) s with dormancy := { bank.dormancy with idle := 1 } }

theorem witness_TerminalTimersCountAndEnd :
    (running (signedOn bank) = true ∧ (signedOn bank).creds.terms[(1 : Term)].mode = .courier ann ∧
      (signedOn bank).creds.terms[(1 : Term)].openJob = none ∧ (signedOn bank).link.state ≠ .lost ∧
      (signedOn bank).creds.terms[(1 : Term)].inactivity ≠ 0) ∧
    (running timedOut = true ∧ timedOut.creds.terms[(1 : Term)].mode = .courier ann ∧
      timedOut.creds.terms[(1 : Term)].openJob = none ∧ timedOut.creds.terms[(1 : Term)].inactivity = 0 ∧
      timedOut.returns.sweep = none) ∧
    ((due 1 none).collection.contexts[(2 : Term)] = .due 0 1 none ∧ (due 1 none).link.state ≠ .lost) ∧
    (linked 0 3 .lost .idle).link.state = .lost ∧ courierAt 0 (signedOn bank) = none ∧
    (∀ idle ∈ [0, 1], ∀ first ∈ [true, false],
      let s := ajarIdling idle first
      s.doors.records[(0 : CompNo)].ajar = some 1 ∧ columnOf 0 s = some 0 ∧ s.bus.columns[(0 : Col)].state = .present ∧
        s.doors.firstPoll[(0 : Col)] = first ∧ s.dormancy.state = .awake ∧ isQuiet s = true ∧ s.mgmt.config.idle = idle ∧
        s.dormancy.idle = 1) := by decide +kernel

/-! ### Bus, arbiter, doors -/

/-- A state of dormancy. -/
def dozing (d : DormancyState) : State := { bank with dormancy := { bank.dormancy with state := d } }

/-- The wake round has polled every column. -/
def polledAll : State :=
  let s := dozing .waking
  { s with dormancy := { s.dormancy with wakeRound := some [] } }

theorem witness_RoundsAndMarksByDormancy :
    (∀ d ∈ [DormancyState.awake, .dormant, .waking], running (dozing d) = true ∧ (dozing d).dormancy.state = d) ∧
    (running polledAll = true ∧ polledAll.dormancy.wakeRound = some [] ∧ polledAll.charge.queue = [] ∧
      polledAll.returns.sweep.all (fun w => w.current.isSome) = true) := by decide +kernel

/-- An attempt, with its counts. -/
def attempt (op : Op) (busy silence : Nat) (woke recalled : Bool) : Exchange :=
  { op := op, busy := busy, silence := silence, woke := woke, recalled := recalled }

/-- It is on the bus. -/
def trying (x : Exchange) : State := { bank with bus := { bank.bus with use := .attempt x } }

theorem trying_good (x : Exchange) : TablesGood (trying x) := ⟨bank_tables.1, bank_tables.2.1, bank_tables.2.2⟩

/-- A PULSE on the bus, its compartment in a phase, with a request that waits or none. -/
def pulsing (ph : DoorPhase) (waits : Bool) : State :=
  let s := modComp 0 (fun c => { c with phase := ph }) (trying (attempt (.pulse 0 0 0 300) 0 0 false false))
  { s with arbiter := { s.arbiter with
      waiting := if waits then [{ comp := 0, col := 0, cls := .deposit, age := 0 }] else [] } }

/-- An enumeration under way. -/
def enumerating (todo : List Col) (reply : Option (Byte × Byte)) : State :=
  { bank with bus := { bank.bus with enumeration := some { todo := todo, reply := reply } } }

theorem witness_AcceptEndsTheExchange :
    (∀ op ∈ [Op.pulse 0 0 0 300, .relay 0 .lamp [1] 2 0x0F, .probe 0 true],
      running (trying (attempt op 0 0 false false)) = true ∧
      (trying (attempt op 0 0 false false)).bus.use = .attempt (attempt op 0 0 false false) ∧
      (attempt op 0 0 false false).op = op) ∧
    (∀ p ∈ [(DoorPhase.awaitOpen, false), (.awaitGrant, false), (.awaitGrant, true), (.opened, false), (.none, false)],
      (pulsing p.1 p.2).comps[(0 : CompNo)].phase = p.1 ∧ isWaiting 0 (pulsing p.1 p.2) = p.2 ∧
        compGood 0 (pulsing p.1 p.2) = true ∧ running (pulsing p.1 p.2) = true) ∧
    TablesGood (trying (attempt (.probe 0 true) 0 0 false false)) ∧
    (bank.bus.enumeration = none ∧
      (enumerating [0, 3] none).bus.enumeration = some { todo := [0, 3], reply := none } ∧
      (0 : Col) ∈ ([0, 3] : List Col) ∧ (1 : Col) ∉ ([0, 3] : List Col) ∧
      ([0, 3] : List Col).filter (fun d => d != 0) ≠ [] ∧ ([0] : List Col).filter (fun d => d != 0) = [] ∧
      (enumerating [0] (some (4, 5))).bus.enumeration = some { todo := [0], reply := some (4, 5) }) :=
  ⟨by decide +kernel, by decide +kernel, trying_good _, by decide +kernel⟩

/-- A TRACE_READ on the bus, its compartment in a state and phase, a step, the end of its pulse, an attempt count. -/
def tracing0 (st : CompState) (ph : DoorPhase) (step : TraceStep) (e : PulseEnd) (n : Fin 3) : State :=
  modDoor 0 (fun d => { d with traceStep := step, pulseEnd := e })
    (modComp 0 (fun c => { c with state := st, phase := ph, attempts := n })
      (trying (attempt (.traceRead 0 0) 0 0 false false)))

theorem witness_TraceReadIsClassifiedAndActedOn :
    (bank.mgmt.config.windowMin ≤ (20 : Byte).toNat ∧ (120 : Byte).toNat ≤ bank.mgmt.config.windowMax ∧
      ¬ ((121 : Byte).toNat ≤ bank.mgmt.config.windowMax) ∧ ([⟨121, .fall⟩, ⟨20, .rise⟩] : List Edge) ≠ [] ∧
      ∀ e ∈ ([⟨121, .fall⟩, ⟨20, .rise⟩] : List Edge), ¬ (e.dir = .fall ∧
        (bank.mgmt.config.windowMin ≤ e.offset.toNat ∧ e.offset.toNat ≤ bank.mgmt.config.windowMax))) ∧
    (∀ st ∈ [CompState.maint, .loading, .releasing, .sweeping], ∀ e ∈ [PulseEnd.elapsed, .cut], ∀ n ∈ ([0, 1, 2] : List (Fin 3)),
      (tracing0 st .awaitOpen .queued e n).comps[(0 : CompNo)].state = st ∧
      (isJob (tracing0 st .awaitOpen .queued e n).comps[(0 : CompNo)].state = true ↔ st ≠ .maint) ∧
      (tracing0 st .awaitOpen .queued e n).doors.records[(0 : CompNo)].pulseEnd = e ∧
      (tracing0 st .awaitOpen .queued e n).comps[(0 : CompNo)].attempts = n) ∧
    ∀ step ∈ [TraceStep.none, .atPulseEnd, .queued], ∀ ph ∈ [DoorPhase.opened, .awaitOpen],
      let s := tracing0 .loading ph step .elapsed 0
      running s = true ∧ s.bus.use = .attempt (attempt (.traceRead 0 0) 0 0 false false) ∧
        s.comps[(0 : CompNo)].place = some { col := 0, pos := 0 } ∧ s.comps[(0 : CompNo)].state ≠ .unfitted ∧
        s.doors.records[(0 : CompNo)].traceStep = step ∧
        s.comps[(0 : CompNo)].phase = ph ∧ compGood 0 s = true := by decide +kernel

/-- An operation between two attempts. -/
def between (w : RetryWait) : State :=
  { bank with bus := { bank.bus with retry := some { exchange := attempt (.poll 0) 1 0 false false, wait := w } } }

theorem witness_FailedAttemptsAreCountedAndRetried :
    (∀ op ∈ [Op.poll 0, .pulse 0 0 0 300], opColumn op = some 0 ∧
      ∀ x ∈ [attempt op 0 1 false false, attempt op 2 2 false false, attempt op 3 0 true false, attempt op 3 0 false true],
        running (trying x) = true ∧ (trying x).bus.use = .attempt x ∧ opColumn x.op = some 0) ∧
    ((attempt (.poll 0) 0 1 false false).silence < 2 ∧ 2 ≤ (attempt (.poll 0) 2 2 false false).silence ∧
      (attempt (.poll 0) 3 0 true false).woke = true ∧ (attempt (.poll 0) 2 2 false false).busy < 3 ∧
      3 ≤ (attempt (.poll 0) 3 0 true false).busy ∧ (attempt (.poll 0) 3 0 true false).recalled = false ∧
      (attempt (.poll 0) 3 0 false true).recalled = true) ∧
    ∀ w ∈ [RetryWait.afterBusy 10, .afterWake 400], running (between w) = true ∧
      (between w).bus.retry = some { exchange := attempt (.poll 0) 1 0 false false, wait := w } := by decide +kernel

/-- Column 0 in a state, with operations to it and to another queued. -/
def columnIn (st : ColumnState) : State :=
  let s := modColumn 0 (fun e => { e with state := st }) bank
  { s with bus := { s.bus with queue := [.relay 0 .text [3] 4 5, .probe 0 false, .poll 3] } }

/-- Compartment 0 committed or not, and waiting or not. -/
def granted (committed waits : Bool) : State :=
  { bank with arbiter := { bank.arbiter with
      waiting := (if waits then [{ comp := 0, col := 0, cls := .deposit, age := 7 }] else []) ++
        [{ comp := 1, col := 1, cls := .deposit, age := 3 }, { comp := 2, col := 2, cls := .sweep, age := 8 }]
      committed := if committed then [{ comp := 0, col := 0, cls := .deposit, age := 3, stage := .sent }] else [] } }

theorem witness_FailedOperationsAreDisposedOf :
    (∀ st ∈ [ColumnState.unknown, .absent, .present, .asleep], (columnIn st).bus.columns[(0 : Col)].state = st ∧
      (columnIn st).bus.overflow = []) ∧
    (∀ op ∈ [Op.poll 0, .traceRead 0 0, .relay 0 .text [3] 4 5, .pulse 0 0 0 300],
      opColumn op = some 0 ∧ isProbe op = false) ∧ opColumn (.probe 0 true) = some 0 ∧
    (∀ f ∈ [true, false],
      let s := modDoor 0 (fun d => { d with readFailed := f }) (tracing0 .loading .awaitOpen .queued .elapsed 0)
      s.comps[(0 : CompNo)].state ≠ .unfitted ∧ s.doors.records[(0 : CompNo)].readFailed = f ∧
        s.doors.records[(0 : CompNo)].traceStep = .queued ∧ s.comps[(0 : CompNo)].phase = .awaitOpen ∧
        compGood 0 s = true) ∧
    (∀ c ∈ [true, false], ∀ w ∈ [true, false], isCommitted 0 (granted c w) = c ∧ isWaiting 0 (granted c w) = w ∧
      compGood 0 (granted c w) = true) ∧
    (granted true false).arbiter.committed = [] ++ { comp := 0, col := 0, cls := .deposit, age := 3, stage := .sent } :: [] ∧
    (granted true false).arbiter.waiting =
      [{ comp := 1, col := 1, cls := .deposit, age := 3 }] ++ [{ comp := 2, col := 2, cls := .sweep, age := 8 }] := by
  decide +kernel

theorem witness_FreeBusChoosesByKind :
    ((queued [.poll 0, .broadcast .holdAll]).bus.use = .free ∧ (queued [.poll 0, .broadcast .holdAll]).bus.overflow = [] ∧
      (queued [.poll 0, .broadcast .holdAll]).bus.queue = [.poll 0] ++ .broadcast .holdAll :: []) ∧
    ((between .ready).bus.queue = [] ∧ (between .ready).bus.use = .free ∧ (between (.afterBusy 10)).bus.use = .free) ∧
    (let q := queued [.poll 0, .probe 1 false, .traceRead 0 0, .poll 0, .traceRead 0 0]
     q.bus.retry = none ∧ placeable q (.traceRead 0 0) = true ∧
      (∀ o ∈ [Op.poll 0, .probe 1 false], placeable q o = true → opRank (.traceRead 0 0) < opRank o) ∧
      ∀ o ∈ [Op.poll 0, .traceRead 0 0], placeable q o = true → opRank (.traceRead 0 0) ≤ opRank o) ∧
    ((queued [.poll 3]).bus.retry = none ∧ (queued [.poll 3]).bus.columns[(3 : Col)].state ≠ .present) := by decide +kernel

/-- A broadcast on the bus. -/
def sending (b : Broadcast) : State := { bank with bus := { bank.bus with use := .sending b } }

theorem witness_BroadcastsTakeEffectWhenSent :
    (∀ b ∈ [Broadcast.holdAll, .sleepAll, .wakeAll], running (sending b) = true ∧ (sending b).bus.use = .sending b) ∧
    (∀ o ∈ (sending .sleepAll).bus.queue ++ (sending .sleepAll).bus.overflow, isRelay o = false) ∧
    (sending .sleepAll).bus.overflow = [] ∧
    ({ dozing .waking with dormancy := { bank.dormancy with settling := some 0 } } : State).dormancy.settling.isSome = true := by
  decide +kernel

/-- Four requests wait, under a budget of two with one pulse committed on column 3. -/
def contended : State :=
  let s := modColumn 3 (fun e => { e with state := .present, count := 20 }) (modConfig (fun c => { c with pulseBudget := 2 }) bank)
  { s with arbiter := { s.arbiter with
      waiting := [⟨4, 3, .collect, 1⟩, ⟨0, 0, .sweep, 2⟩, ⟨5, 0, .collect, 3⟩, ⟨6, 0, .collect, 4⟩]
      committed := [⟨9, 3, .collect, 0, .sent⟩] } }

theorem witness_ArbiterGrantsByClassAndAge :
    (bank.arbiter.waiting = [] ∧ (held true false true).arbiter.holdActive = true) ∧
    (contended.arbiter.waiting = [⟨4, 3, .collect, 1⟩, ⟨0, 0, .sweep, 2⟩] ++ ⟨5, 0, .collect, 3⟩ :: [⟨6, 0, .collect, 4⟩] ∧
      contended.arbiter.holdActive = false ∧ contended.arbiter.guard = none ∧
      contended.arbiter.committed.length < contended.mgmt.config.pulseBudget ∧
      (∀ g ∈ contended.arbiter.committed, g.col ≠ 0) ∧ contended.bus.columns[(0 : Col)].state = .present) ∧
    ((queued (List.replicate 15 (.poll 0))).bus.queue.length < 16 ∧ (fullQueue false).bus.queue.length = 16 ∧
      (∀ o ∈ (fullQueue false).bus.queue, isRelay o = false) ∧ (fullQueue true).bus.queue.length = 16 ∧
      (fullQueue true).bus.queue = [.poll 0] ++ .relay 0 .text [3] 4 5 :: List.replicate 14 (.poll 0) ∧
      ∀ q ∈ List.replicate 14 (Op.poll 0), isRelay q = false) ∧
    (isWaiting 0 contended = true ∧ isWaiting 0 bank = false) ∧
    (running fourPulses = true ∧ (∃ g ∈ fourPulses.arbiter.committed, g.comp = 0 ∧ g.stage = .inFlight 300) ∧
      fourPulses.comps[(0 : CompNo)].state ≠ .unfitted ∧
      (∀ g ∈ fourPulses.arbiter.committed, g.comp = 1 → g.stage = .sent) ∧ fourPulses.arbiter.guard = none) ∧
    ({ bank with arbiter := { bank.arbiter with guard := some 0 } } : State).arbiter.guard.isSome = true := by
  decide +kernel

/-- A delivered pulse: AWAIT_OPEN with its timers, on a column polled since. -/
def opening (st : CompState) (e : PulseEnd) (ajar : Nat) : State :=
  setFirstPoll 0 false (modDoor 0 (fun d =>
      { d with confirm := some 1500, openLimit := some { kind := .deposit, left := 1 }, ajar := some ajar, pulseEnd := e })
    (under st .awaitOpen (holding (record .depositing (some 0)) bank)))

theorem witness_DoorTimersActAtTheirEnds :
    (∀ st ∈ [CompState.loading, .releasing, .sweeping], ∀ e ∈ [PulseEnd.none, .elapsed, .cut], ∀ a ∈ [0, 1],
      let s := opening st e a
      running s = true ∧ columnOf 0 s = some 0 ∧ s.bus.columns[(0 : Col)].state = .present ∧
      s.doors.firstPoll[(0 : Col)] = false ∧ s.doors.records[(0 : CompNo)].confirm.isSome = true ∧
      s.doors.records[(0 : CompNo)].openLimit.isSome = true ∧ s.doors.records[(0 : CompNo)].ajar = some a ∧
      s.comps[(0 : CompNo)].phase = .awaitOpen ∧ isWaiting 0 s = false ∧ isSent 0 s = false ∧
      s.doors.records[(0 : CompNo)].traceStep = .none ∧ s.comps[(0 : CompNo)].link = some 0 ∧ compGood 0 s = true ∧
      s.comps[(0 : CompNo)].state = st ∧ s.doors.records[(0 : CompNo)].pulseEnd = e) ∧
    (running bank = true ∧ columnOf 0 bank = some 0 ∧ bank.doors.firstPoll[(0 : Col)] = true) := by decide +kernel

/-- A quiet bank with an idle time, and the idle timer. -/
def idling (left : Nat) : State :=
  { modConfig (fun c => { c with idle := 1 }) bank with dormancy := { bank.dormancy with idle := left } }

theorem witness_ScrubberAndIdleTimer :
    (running bank = true ∧ bank.mgmt.config.scrubber = true ∧ TablesGood bank) ∧
    (modConfig (fun c => { c with scrubber := false }) bank).mgmt.config.scrubber = false ∧
    (∀ left ∈ [0, 1], running (idling left) = true ∧ (idling left).dormancy.state = .awake ∧ isQuiet (idling left) = true ∧
      0 < (idling left).mgmt.config.idle ∧ (idling left).dormancy.idle = left) ∧
    (isQuiet bank = true ∧ bank.dormancy.state = .awake ∧ bank.mgmt.config.idle = 0) ∧
    (isQuiet (signedOn bank) = false ∧ (dozing .dormant).dormancy.state ≠ .awake) :=
  ⟨⟨by decide +kernel, by decide +kernel, bank_tables⟩, by decide +kernel, by decide +kernel, by decide +kernel,
    by decide +kernel⟩

/-! ### Ends of jobs, poll answers, check failures -/

/-- Compartment 0 in a state with a cause. -/
def caused (st : CompState) (c : Option BarCause) : State :=
  modComp 0 (fun k => { k with state := st, cause := c }) (jobOf .loaded .stored)

/-- A door of a compartment in a state and phase. -/
def doorAt (st : CompState) (ph : DoorPhase) : State := jobOf st .depositing |> modComp 0 (fun c => { c with phase := ph })

theorem witness_JobsEndByCloseLimitFaultAndBar :
    (∀ st ∈ [CompState.unfitted, .vacant, .held, .loading, .loaded, .releasing, .sweeping, .barred, .maint],
      (caused st (some .tamper)).comps[(0 : CompNo)].state = st ∧
      (caused st (some .tamper)).comps[(0 : CompNo)].cause = some .tamper) ∧
    (parcelAt 0 (due 0 none) = some (sealParcel 0 owing) ∧ parcelAt 0 (jobOf .loaded .stored) = some (sealed .stored)) ∧
    (∀ x ∈ [(CompState.held, ParcelState.depositing), (.loading, .depositing), (.releasing, .releasing), (.sweeping, .sweeping)],
      let s := jobOf x.1 x.2
      parcelAt 0 s = some (sealed x.2) ∧ parcelGood 0 s = true ∧ (sealed x.2).comp = some 0 ∧
        s.comps[(0 : CompNo)].link = some 0 ∧ (sealed x.2).state = x.2 ∧ s.comps[(0 : CompNo)].state = x.1 ∧
        isJob s.comps[(0 : CompNo)].state = true ∧ s.mgmt.config.reopen ≠ 0) ∧
    (∀ s, s = modConfig (fun c => { c with reopen := 0 }) (jobOf .releasing .releasing) →
      parcelAt 0 s = some (sealed .releasing) ∧ parcelGood 0 s = true ∧ s.comps[(0 : CompNo)].link = some 0 ∧
        isJob s.comps[(0 : CompNo)].state = true ∧ s.mgmt.config.reopen = 0) ∧
    (∀ x ∈ [(CompState.loading, DoorPhase.awaitOpen), (.loading, .opened), (.releasing, .opened), (.sweeping, .awaitGrant)],
      (doorAt x.1 x.2).comps[(0 : CompNo)].state = x.1 ∧ (doorAt x.1 x.2).comps[(0 : CompNo)].phase = x.2) :=
  ⟨by decide +kernel, by decide +kernel, by decide +kernel, fun s h => by subst h; decide +kernel, by decide +kernel⟩

/-- A door judged: its compartment, sensed as the column reports it, as a poll meets it. -/
def judged (how : Judgement) (before door : DoorState) (latched : Bool) (occ : Occupancy) (fault : Bool) : PolledDoor :=
  { comp := 0, reading := { door := door, latched := latched, occupancy := occ, driverFault := fault }, before := before
    how := how }

/-- A POLL on the bus, at a first poll or later, of a column in a state. -/
def polling (first : Bool) (st : ColumnState) : State :=
  setFirstPoll 0 first (modColumn 0 (fun e => { e with state := st }) (trying (attempt (.poll 0) 0 0 false false)))

theorem polling_good (first : Bool) (st : ColumnState) : TablesGood (polling first st) :=
  ⟨bank_tables.1, bank_tables.2.1, bank_tables.2.2⟩

theorem witness_PollIsJudgedDoorByDoor :
    (∀ first ∈ [true, false], ∀ st ∈ [ColumnState.present, .asleep, .absent],
      running (polling first st) = true ∧ (polling first st).bus.use = .attempt (attempt (.poll 0) 0 0 false false) ∧
        (polling first st).bus.columns[(0 : Col)].state = st ∧ (polling first st).doors.firstPoll[(0 : Col)] = first) ∧
    (∀ first st, TablesGood (polling first st)) ∧
    (∀ ph ∈ [DoorPhase.awaitGrant, .awaitOpen, .opened, .none], ∀ st ∈ [CompState.loading, .loaded, .vacant],
      (doorAt st ph).comps[(0 : CompNo)].phase = ph ∧ (doorAt st ph).comps[(0 : CompNo)].state = st) ∧
    (∀ x ∈ [judged .events .closed .opened false .empty false, judged .events .closed .closed true .empty false],
      x.how = .events ∧ x.before = .closed ∧ (x.reading.door = .opened ∨ x.reading.latched = true)) ∧
    (∀ h ∈ [HeldClose.mk 1000 0, .mk 1000 2],
      (judged (.held h) .closed .opened false .empty false).how = .held h ∧
        (judged .resumption .closed .closed false .empty false).how = .resumption) := by
  refine ⟨by decide +kernel, polling_good, by decide +kernel, by decide +kernel, by decide +kernel⟩

theorem witness_ClosesAndRepollsFollowTheirTables :
    (∀ st ∈ [CompState.maint, .loading, .releasing, .sweeping, .vacant], ∀ ph ∈ [DoorPhase.opened, .none],
      (doorAt st ph).comps[(0 : CompNo)].phase = ph ∧ (doorAt st ph).comps[(0 : CompNo)].state = st ∧
        (doorAt st ph).comps[(0 : CompNo)].link = some 0) ∧
    (∀ x ∈ [judged .events .opened .closed false .uncertain false, judged .events .closed .closed true .filled true],
      x.how = .events ∧ x.reading.door = .closed ∧ (x.before = .opened ∨ x.reading.latched = true)) ∧
    (∀ o ∈ [Occupancy.empty, .filled, .uncertain], ∀ l ∈ [true, false], ∀ n ∈ [0, 1, 2],
      let x := judged (.held (.mk 1000 n)) .closed .closed l o false
      x.how = .held (.mk 1000 n) ∧ x.reading.door = .closed ∧ x.reading.latched = l ∧ x.reading.occupancy = o) ∧
    (judged .resumption .closed .closed false .empty false).how = .resumption ∧
    (judged .resumption .closed .opened false .empty true).reading.door = .opened ∧
    (∀ e ∈ [PulseEnd.none, .elapsed],
      let t := closingAtPoll 0 (judged .events .closed .closed false .empty true) (opening .loading e 0)
      t.comps[(0 : CompNo)].phase = .awaitOpen ∧ t.doors.records[(0 : CompNo)].confirm.isSome = true ∧ columnOf 0 t = some 0 ∧
        t.bus.columns[(0 : Col)].state = .present ∧ t.doors.firstPoll[(0 : Col)] = false ∧
        t.doors.records[(0 : CompNo)].pulseEnd = e) :=
  ⟨by decide +kernel, by decide +kernel, by decide +kernel, rfl, rfl, by decide +kernel⟩

/-- The scrubber's cursor at an entry. -/
def scrubbing (n : Fin 1136) (s : State) : State := { s with checker := { s.checker with cursor := n } }

/-- Slot 0's record damaged, with terminal 0's marker on it or none. -/
def badRecord (st : CompState) (ps : ParcelState) (marked : Bool) : State :=
  let s := jobOf st ps
  let s := if marked then setMarker 0 (some { slot := 0, comp := 0 }) s else s
  scrubbing 240 { s with parcels := { s.parcels with slots := s.parcels.slots.set 0 (some { sealed ps with check := 0 }) } }

/-- The same with no compartment that names the slot. -/
def strayRecord : State :=
  scrubbing 240 { bank with parcels := { bank.parcels with
    slots := bank.parcels.slots.set 0 (some { sealed .advised with check := 0 }) } }

/-- Compartment 0 damaged, in a state. -/
def badCompartment (st : CompState) (s : State) : State :=
  scrubbing 0 { s with comps := s.comps.set 0 { s.comps[(0 : CompNo)] with state := st, check := 0 } }

theorem bad_parcels (st : CompState) (s : State) (k : Slot) : parcelAt k (badCompartment st s) = parcelAt k s := rfl

/-- Way 28 damaged, its courier signed on at terminal 1 with an open job or none. -/
def badWay (kind : CredKind) (job : Option Slot) : State :=
  let s := modTerm 1 (fun c => { c with openJob := job }) (signedOn bank)
  scrubbing 652 { s with creds := { s.creds with ways := s.creds.ways.set 28 (some { kind := kind, code := 7, check := 0 }) } }

theorem bad_way_alone (kind : CredKind) (job : Option Slot) : ∀ v : Way, v ≠ 28 → (badWay kind job).creds.ways[v] = none := by
  intro v h
  show ((Vector.replicate 512 none).set 28 _)[v.val] = none
  rw [Vector.getElem_set, if_neg (fun e => h (Fin.ext e.symm))]
  simp

theorem witness_FailedEntriesAreTaken :
    (∀ x ∈ [(CompState.loaded, ParcelState.stored, false), (.loading, .depositing, true), (.held, .depositing, false)],
      let s := badRecord x.1 x.2.1 x.2.2
      running s = true ∧ s.mgmt.config.scrubber = true ∧ s.checker.cursor.val = 240 + (0 : Slot).val ∧
        parcelAt 0 s = some { sealed x.2.1 with check := 0 } ∧ parcelGood 0 s = false ∧
        s.comps[(0 : CompNo)].link = some 0 ∧ (∀ m : CompNo, m < 0 → s.comps[m].link ≠ some 0) ∧ compGood 0 s = true ∧
        s.comps[(0 : CompNo)].state = x.1 ∧ x.1 ≠ .unfitted ∧
        (∀ m : CompNo, (∃ t : Term, s.deposit.markers[t] = some { slot := 0, comp := m }) → m = 0 ∧ x.2.2 = true) ∧
        (x.2.2 = true → ∃ t : Term, s.deposit.markers[t] = some { slot := 0, comp := 0 })) ∧
    (running strayRecord = true ∧ strayRecord.mgmt.config.scrubber = true ∧ strayRecord.checker.cursor.val = 240 ∧
      parcelAt 0 strayRecord = some { sealed .advised with check := 0 } ∧ parcelGood 0 strayRecord = false ∧
      (∀ n : CompNo, strayRecord.comps[n].link ≠ some 0) ∧
      ∀ (n : CompNo) (t : Term), strayRecord.deposit.markers[t] ≠ some { slot := 0, comp := n }) ∧
    (∀ st ∈ [CompState.unfitted, .vacant, .loaded, .releasing],
      let s := badCompartment st (jobOf .loaded .stored)
      running s = true ∧ s.mgmt.config.scrubber = true ∧ s.checker.cursor.val = (0 : CompNo).val ∧ compGood 0 s = false ∧
        s.comps[(0 : CompNo)].state = st ∧ parcelAt 0 s = some (sealed .stored) ∧ (sealed .stored).comp = some 0) ∧
    (compGood 0 (badCompartment .vacant bank) = false ∧ ∀ j p, parcelAt j (badCompartment .vacant bank) = some p →
      p.comp ≠ some 0) ∧
    (∀ x ∈ [(CredKind.pickup 0, none), (.courier ann, none), (.courier ann, some (0 : Slot))],
      let s := badWay x.1 x.2
      running s = true ∧ s.mgmt.config.scrubber = true ∧ s.checker.cursor.val = 624 + (28 : Way).val ∧
        s.creds.ways[(28 : Way)] = some { kind := x.1, code := 7, check := 0 } ∧ wayGood 28 s = false ∧
        s.creds.terms[(1 : Term)].mode = .courier ann ∧ s.creds.terms[(1 : Term)].openJob = x.2 ∧ s.returns.sweep = none ∧
        ∀ u : Term, u ≠ 1 → courierAt u s = none) ∧
    ∀ kind job, ¬ ∃ v j, v ≠ (28 : Way) ∧ (badWay kind job).creds.ways[v].map Credential.kind = some (.courier j) ∧
      j.number = ann.number := by
  refine ⟨by decide +kernel, by decide +kernel, by decide +kernel, ⟨by decide +kernel, fun j p h => ?_⟩, by decide +kernel,
    fun kind job ⟨v, j, h, e, _⟩ => ?_⟩
  · rw [bad_parcels, bank_free] at h
    cases h
  · rw [bad_way_alone kind job v h] at e
    cases e
end Sys2Proof.Tests
end

/-! PROOFS. Storage charges (chapter 4): the multiplier of a minute of day, and the fee without peak pricing and day
cap. -/

namespace Sys2Proof.Machine

/-! ### The multiplier of a minute of day (R68) -/

/-- The multipliers of the windows that cover a minute of day. -/
def coveringMultipliers (peaks : Vector PeakWindow 4) (m : Nat) : List Nat :=
  (peaks.toList.filter (fun w => peakCovers w m)).map PeakWindow.multiplier

theorem mem_coveringMultipliers {peaks : Vector PeakWindow 4} {m x : Nat} :
    x ∈ coveringMultipliers peaks m ↔ ∃ i : Fin 4, peakCovers peaks[i] m = true ∧ x = peaks[i].multiplier := by
  simp only [coveringMultipliers, List.mem_map, List.mem_filter, Vector.mem_toList_iff, Vector.mem_iff_getElem]
  constructor
  · rintro ⟨_, ⟨⟨i, hi, rfl⟩, hcovers⟩, rfl⟩
    exact ⟨⟨i, hi⟩, hcovers, rfl⟩
  · rintro ⟨i, hcovers, rfl⟩
    exact ⟨peaks[i], ⟨⟨i, i.isLt, rfl⟩, hcovers⟩, rfl⟩

/-- The fold over the table takes the largest of 100 and the covering windows' multipliers. -/
theorem max?_coveringMultipliers (peaks : Vector PeakWindow 4) (m : Nat) :
    (100 :: coveringMultipliers peaks m).max? = some (multiplierAt peaks m) := by
  rw [List.max?_cons', coveringMultipliers, List.foldl_map, List.foldl_filter, multiplierAt]

theorem le_multiplierAt {peaks : Vector PeakWindow 4} {m : Nat} {i : Fin 4} (hcovers : peakCovers peaks[i] m = true) :
    peaks[i].multiplier ≤ multiplierAt peaks m :=
  (List.max?_eq_some_iff.1 (max?_coveringMultipliers peaks m)).2 _
    (List.mem_cons_of_mem _ (mem_coveringMultipliers.2 ⟨i, hcovers, rfl⟩))

theorem multiplierAt_eq (peaks : Vector PeakWindow 4) (m : Nat) :
    multiplierAt peaks m = 100 ∨
      ∃ i : Fin 4, peakCovers peaks[i] m = true ∧ multiplierAt peaks m = peaks[i].multiplier :=
  (List.mem_cons.1 (List.max?_eq_some_iff.1 (max?_coveringMultipliers peaks m)).1).imp_right
    mem_coveringMultipliers.1

/-! ### Periods of blocks (R70 to R73) -/

/-- `ceilDiv` is Mathlib's `⌈/⌉`, so it is the least number of `b`s that reach `a`. -/
theorem ceilDiv_le_iff {a b c : Nat} (hb : 0 < b) : ceilDiv a b ≤ c ↔ a ≤ c * b := by
  rw [Nat.mul_comm]
  exact ceilDiv_le_iff_le_mul hb

theorem le_ceilDiv_mul {b : Nat} (a : Nat) (hb : 0 < b) : a ≤ ceilDiv a b * b :=
  (ceilDiv_le_iff hb).1 (Nat.le_refl _)

theorem pred_ceilDiv_mul_lt {a b : Nat} (hb : 0 < b) (hpos : 0 < ceilDiv a b) : (ceilDiv a b - 1) * b < a := by
  by_contra hle
  have := (ceilDiv_le_iff hb).2 (Nat.not_lt.1 hle)
  omega

/-- The first `K` periods of `per` blocks, the last one cut short at `n`, hold the first `K * per` of the `n` blocks. -/
theorem sum_periodLengths (n per K : Nat) :
    ((List.range K).map (fun k => min per (n - k * per))).sum = min (K * per) n := by
  induction K with
  | zero => simp
  | succ K ih =>
    rw [List.range_succ, List.map_append, List.sum_append, ih, List.map_singleton, List.sum_singleton, Nat.succ_mul]
    omega

theorem blockLengths_bounds {b : Nat} (h : b ∈ blockLengths) : 0 < b ∧ b ≤ 1440 := by
  revert b
  decide

/-! ### The fee without peak pricing and day cap (R71 to R73) -/

/-- Rounding a half unit up does not change a rate at multiplier 100 (R71). -/
@[simp] theorem priceOf_hundred (rate : Nat) : priceOf rate 100 = rate := by
  unfold priceOf
  omega

theorem sumPrices_of_flat {sn : Snapshot} (hpeak : sn.plan.peak = false) (first number : Nat) :
    sumPrices sn first number = number * sn.plan.rates[classAt sn.cls] := by
  simp [sumPrices, blockPrice, hpeak]

theorem periodAmount_of_flat {sn : Snapshot} (hpeak : sn.plan.peak = false) (hcap : sn.plan.caps[classAt sn.cls] = none)
    (k : Nat) :
    periodAmount sn k =
      min (1440 / sn.plan.block) (blockCount sn - k * (1440 / sn.plan.block)) * sn.plan.rates[classAt sn.cls] := by
  rw [periodAmount, hcap]
  exact sumPrices_of_flat hpeak _ _

/-- Grouping the blocks into periods of 24 hours neither loses nor repeats one, so the sum is the rate for each. -/
theorem rawFee_of_flat {sn : Snapshot} (hblock : sn.plan.block ∈ blockLengths) (hpeak : sn.plan.peak = false)
    (hcap : sn.plan.caps[classAt sn.cls] = none) :
    rawFee sn = blockCount sn * sn.plan.rates[classAt sn.cls] := by
  obtain ⟨hpos, hday⟩ := blockLengths_bounds hblock
  have hper : 0 < 1440 / sn.plan.block := Nat.div_pos hday hpos
  rw [rawFee, funext (periodAmount_of_flat hpeak hcap), List.sum_map_mul_right, sum_periodLengths,
    Nat.min_eq_right (le_ceilDiv_mul _ hper)]

theorem blockCount_of_arrival {sn : Snapshot} {arrival : Minute} (h : sn.arrival = some arrival) :
    blockCount sn = ceilDiv (sn.quoteMinute.toNat - arrival.toNat - sn.plan.free) sn.plan.block := by
  rw [blockCount, snapDwell, h]
  rfl

theorem clampOf_iff (sn : Snapshot) : clampOf sn = true ↔ Config.maxAmount < rawFee sn := decide_eq_true_iff

/-- Settles O21. A covering window's multiplier is at least 100, so the largest of 100 and the covering multipliers is
one of the latter as soon as there is one. The fee's blocks are `blockCount`. -/
theorem peakMultiplierAndFlatFee : Obligations.PeakMultiplierAndFlatFee := by
  refine ⟨fun peaks m hrange => ⟨fun _ => le_multiplierAt, ?_⟩, fun sn arrival harrival hblock hpeak hcap => ?_⟩
  · by_cases hcovered : ∃ i : Fin 4, peakCovers peaks[i] m = true
    · obtain ⟨i, hi⟩ := hcovered
      rcases multiplierAt_eq peaks m with h100 | hlargest
      · exact .inl ⟨i, hi, Nat.le_antisymm (h100 ▸ hrange i) (le_multiplierAt hi)⟩
      · exact .inl hlargest
    · have hnone : ∀ i : Fin 4, peakCovers peaks[i] m = false := by simpa using hcovered
      refine .inr ⟨hnone, (multiplierAt_eq peaks m).resolve_right ?_⟩
      exact fun ⟨i, hi, _⟩ => hcovered ⟨i, hi⟩
  · have hpos := (blockLengths_bounds hblock).1
    have hraw := rawFee_of_flat hblock hpeak hcap
    refine ⟨blockCount sn, ?_, ?_, ?_, ?_⟩
    · rw [blockCount_of_arrival harrival]
      exact le_ceilDiv_mul _ hpos
    · rw [blockCount_of_arrival harrival]
      exact pred_ceilDiv_mul_lt hpos
    · rw [feeOf, hraw]
      rfl
    · rw [clampOf_iff, hraw]
      rfl

end Sys2Proof.Machine

/-! PROOFS. Notices and counters (chapter 10): a notice that reaches its class's queue, and a counter that is raised. -/

namespace Sys2Proof.Machine

/-! ### A notice reaches its class's queue (R184) -/

theorem markNewest_append_singleton (front : List Detail) (d : Detail) :
    markNewest (front ++ [d]) = front ++ [{ d with more := true }] := by
  induction front with
  | nil => rfl
  | cons e rest ih =>
    cases rest with
    | nil => rfl
    | cons e' rest' => exact congrArg (e :: ·) ih

theorem enqueueDetail_of_room {q : ClassQueue} (d : Detail) (hroom : q.details.length < 8) :
    enqueueDetail d q = { q with pending := true, details := q.details ++ [{ d with more := false }] } :=
  if_pos hroom

theorem enqueueDetail_of_full {q : ClassQueue} {front : List Detail} {newest : Detail} (d : Detail)
    (hdetails : q.details = front ++ [newest]) (hfull : 8 ≤ q.details.length) :
    enqueueDetail d q = { q with pending := true, details := front ++ [{ newest with more := true }] } := by
  rw [enqueueDetail, if_neg (Nat.not_lt.mpr hfull), hdetails, markNewest_append_singleton]

/-- What a raise leaves, given what the raised detail does to its class's queue. -/
theorem raiseMarked_of_enqueueDetail {b : NoticeBody} {drill sensor : Bool} {s : State} {q : ClassQueue}
    (h : enqueueDetail { body := b, more := false, drill := drill, sensor := sensor }
      s.notices.classes[classIndex (bodyClass b)] = q) :
    raiseMarked b drill sensor s = { s with notices := { s.notices with
      classes := s.notices.classes.set (classIndex (bodyClass b)).val q (classIndex (bodyClass b)).isLt } } := by
  subst h
  rfl

/-! ### A counter is raised (R188) -/

theorem satInc_toNat_of_lt {w : BitVec 16} (h : w.toNat < 65535) : (satInc w).toNat = w.toNat + 1 := by
  have hne : w ≠ 0xFFFF#16 := by bv_omega
  rw [satInc, if_neg hne]
  bv_omega

theorem satInc_of_top {w : BitVec 16} (h : w.toNat = 65535) : satInc w = w :=
  if_pos (BitVec.eq_of_toNat_eq h)

theorem count_live_at (k : Counter) (j : Fin 62) (s : State) :
    (count k s).counters.live[j] =
      if counterIndex k = j then satInc s.counters.live[counterIndex k] else s.counters.live[j] := by
  show (s.counters.live.set (counterIndex k).val _ (counterIndex k).isLt)[j.val] = _
  rw [Vector.getElem_set]
  simp only [Fin.ext_iff]; rfl

theorem count_live_self (k : Counter) (s : State) :
    (count k s).counters.live[counterIndex k] = satInc s.counters.live[counterIndex k] := by
  rw [count_live_at, if_pos rfl]

theorem count_live_of_ne {k : Counter} {j : Fin 62} (h : j ≠ counterIndex k) (s : State) :
    (count k s).counters.live[j] = s.counters.live[j] := by
  rw [count_live_at, if_neg h.symm]

/-- A counter at the top is written back as it stood, so the whole live set stays. -/
theorem count_live_of_top {k : Counter} {s : State} (h : s.counters.live[counterIndex k].toNat = 65535) :
    (count k s).counters.live = s.counters.live := by
  show s.counters.live.set (counterIndex k).val (satInc s.counters.live[counterIndex k])
    (counterIndex k).isLt = _
  rw [satInc_of_top h]
  exact Vector.set_getElem_self (counterIndex k).isLt

/-- Settles O42. A raise writes one class's queue and a count writes one live counter: with room the detail is appended,
with eight queued the newest is marked; below the top the counter rises, at the top it is written back unchanged. -/
theorem noticesQueueAndCountersSaturate : Obligations.NoticesQueueAndCountersSaturate := by
  refine ⟨fun s b drill sensor => ⟨fun hroom => ?_, fun front d hdetails hfull => ?_⟩,
    fun s k => ⟨count_counters_snap s k, fun hbelow => ?_, count_live_of_top, fun j hj => count_live_of_ne hj s⟩⟩
  · exact raiseMarked_of_enqueueDetail (enqueueDetail_of_room _ hroom)
  · exact raiseMarked_of_enqueueDetail (enqueueDetail_of_full _ hdetails hfull)
  · rw [count_live_self, satInc_toNat_of_lt hbelow]

end Sys2Proof.Machine

/-! PROOFS. What every operation of the part keeps: the bounds of its queues and pulses, the check bytes, the ranges of
the charge tables. -/

namespace Sys2Proof.Machine

/-! ### The relation -/

/-- The parts of the state that the bounds, the check bytes and the charge ranges speak of. -/
structure Watched where
  fifo : List FifoEntry
  replies : List Reply
  reserved : Nat
  classes : Vector ClassQueue 12
  queue : List Op
  committed : List Committed
  budget : Nat
  comps : Vector Compartment 240
  slots : Vector (Option Parcel) 384
  ways : Vector (Option Credential) 512
  plans : Vector Plan 8
  peaks : Vector PeakWindow 4
  running : Option Snapshot
  quotes : List QueuedCharge
  hunted : List Byte
  linkState : LinkState
  goodRun : Fin 3
  discardRun : Fin 4

/-- The watched parts of a state. -/
def watched (s : State) : Watched :=
  { fifo := s.link.fifo, replies := s.link.replies, reserved := s.link.reserved, classes := s.notices.classes
    queue := s.bus.queue, committed := s.arbiter.committed, budget := (cfg s).pulseBudget, comps := s.comps
    slots := s.parcels.slots, ways := s.creds.ways, plans := s.charge.plans, peaks := s.charge.peaks
    running := s.charge.running, quotes := s.charge.queue, hunted := s.link.again, linkState := s.link.state
    goodRun := s.link.goodRun, discardRun := s.link.discardRun }

/-- The link's runs and its state. -/
def linkRuns (s : State) : LinkState × Fin 3 × Fin 4 := (s.link.state, s.link.goodRun, s.link.discardRun)

/-- Whatever bounds, checks and ranges hold of `a` hold of `s`; while a taking is under way, no entry joins the request
FIFO and no octet is left to be hunted, and while quotes are worked off, none joins the computation queue and the link's
runs and state stand. -/
structure Keeps (taking quoting : Prop) (a s : State) : Prop where
  link : LinkBounded a → LinkBounded s
  notices : NoticesBounded a → NoticesBounded s
  operations : OperationsBounded a → OperationsBounded s
  pulses : PulsesBounded a → PulsesBounded s
  good : TablesGood a → TablesGood s
  charges : ChargeTablesInRange a → ChargeTablesInRange s
  fifo : taking → s.link.fifo.length ≤ a.link.fifo.length
  quotes : quoting → s.charge.queue.Sublist a.charge.queue
  hunted : taking → a.link.again = [] → s.link.again = []
  runs : quoting → linkRuns s = linkRuns a

variable {taking quoting : Prop} {a s t : State}

/-- The request FIFO stands. -/
theorem sameFifo (s : State) : taking → s.link.fifo.length ≤ s.link.fifo.length := fun _ => Nat.le_refl _

/-- The computation queue stands. -/
theorem sameQuotes (s : State) : quoting → s.charge.queue.Sublist s.charge.queue := fun _ => List.Sublist.refl _

/-- What is left to be hunted stands. -/
theorem sameHunted (s : State) : taking → s.link.again = [] → s.link.again = [] := fun _ => id

/-- The link's runs and its state stand. -/
theorem sameRuns (s : State) : quoting → linkRuns s = linkRuns s := fun _ => rfl

theorem Keeps.refl (s : State) : Keeps taking quoting s s := ⟨id, id, id, id, id, id, sameFifo s, sameQuotes s, sameHunted s,
    sameRuns s⟩

theorem Keeps.trans (h : Keeps taking quoting a s) (g : Keeps taking quoting s t) : Keeps taking quoting a t :=
  ⟨g.link ∘ h.link, g.notices ∘ h.notices, g.operations ∘ h.operations, g.pulses ∘ h.pulses, g.good ∘ h.good,
    g.charges ∘ h.charges, fun ht => Nat.le_trans (g.fifo ht) (h.fifo ht),
    fun hq => (g.quotes hq).trans (h.quotes hq), fun ht => g.hunted ht ∘ h.hunted ht,
    fun hq => (g.runs hq).trans (h.runs hq)⟩

/-- Only the watched parts matter. -/
theorem keeps_of_watched (h : Keeps taking quoting a s) (e : watched t = watched s) : Keeps taking quoting a t := by
  simp only [watched, Watched.mk.injEq] at e
  obtain ⟨hfifo, hreplies, hreserved, hclasses, hqueue, hcommitted, hbudget, hcomps, hslots, hways, hplans, hpeaks,
    hrunning, hquotes, hhunted, hstate, hgood, hdiscard⟩ := e
  refine h.trans ⟨?_, ?_, ?_, ?_, ?_, ?_, fun _ => Nat.le_of_eq (congrArg List.length hfifo),
    fun _ => by rw [hquotes], fun _ h => hhunted.trans h, fun _ => by rw [linkRuns, hstate, hgood, hdiscard]; rfl⟩
  · simp only [LinkBounded, placesInUse, hfifo, hreplies, hreserved]; exact id
  · simp only [NoticesBounded, hclasses]; exact id
  · simp only [OperationsBounded, hqueue]; exact id
  · simp only [PulsesBounded, hcommitted, hbudget]; exact id
  · simp only [TablesGood, compGood, parcelGood, parcelAt, wayGood, hcomps, hslots, hways]; exact id
  · simp only [ChargeTablesInRange, hplans, hpeaks, hrunning]; exact id

theorem keeps_foldl {α : Type} {f : State → α → State} (hf : ∀ {s} x, Keeps taking quoting a s → Keeps taking quoting a (f s x)) (l : List α)
    (h : Keeps taking quoting a s) : Keeps taking quoting a (l.foldl f s) := by
  induction l generalizing s with
  | nil => exact h
  | cons x l ih => exact ih (hf x h)

theorem keeps_ite {p : Prop} [Decidable p] (h : Keeps taking quoting a s) (g : Keeps taking quoting a t) : Keeps taking quoting a (if p then s else t) := by
  split <;> assumption

/-! ### The three checked tables (R190) -/

theorem compGood_setComp {n m : CompNo} {c : Compartment} (h : compGood m s = true) :
    compGood m (setComp n c s) = true := by
  rw [compGood, setComp_at]
  split
  · next e => exact e ▸ compartmentOk_seal n c
  · exact h

theorem parcelGood_setParcel {k j : Slot} {p : Parcel} (h : parcelGood j s = true) :
    parcelGood j (setParcel k p s) = true := by
  rw [parcelGood, setParcel_at]
  by_cases e : k = j
  · rw [if_pos e]
    exact e ▸ parcelOk_seal k p
  · rw [if_neg e]
    exact h

theorem wayGood_setWay {w v : Way} {c : Credential} (h : wayGood v s = true) : wayGood v (setWay w c s) = true := by
  rw [wayGood, setWay_at]
  by_cases e : w = v
  · rw [if_pos e]
    exact e ▸ credentialOk_seal w c
  · rw [if_neg e]
    exact h

theorem wayGood_freeWay {w v : Way} (h : wayGood v s = true) : wayGood v (freeWay w s) = true := by
  rw [wayGood, freeWay_at]
  by_cases e : w = v
  · rw [if_pos e]
  · rw [if_neg e]
    exact h

theorem keeps_setComp (n : CompNo) (c : Compartment) (h : Keeps taking quoting a s) : Keeps taking quoting a (setComp n c s) :=
  h.trans ⟨id, id, id, id, fun ⟨hc, hp, hw⟩ => ⟨fun m => compGood_setComp (hc m), hp, hw⟩, id, sameFifo s, sameQuotes s, sameHunted s,
    sameRuns s⟩

theorem keeps_modComp (n : CompNo) (f : Compartment → Compartment) (h : Keeps taking quoting a s) : Keeps taking quoting a (modComp n f s) :=
  keeps_setComp n _ h

theorem keeps_setParcel (k : Slot) (p : Parcel) (h : Keeps taking quoting a s) : Keeps taking quoting a (setParcel k p s) :=
  h.trans ⟨id, id, id, id, fun ⟨hc, hp, hw⟩ => ⟨hc, fun j => parcelGood_setParcel (hp j), hw⟩, id, sameFifo s, sameQuotes s, sameHunted s,
    sameRuns s⟩

theorem keeps_modParcel (k : Slot) (f : Parcel → Parcel) (h : Keeps taking quoting a s) : Keeps taking quoting a (modParcel k f s) := by
  unfold modParcel
  split
  · exact keeps_setParcel k _ h
  · exact h

/-- A slot becomes FREE. -/
theorem keeps_freeSlot (k : Slot) (l : List Slot) (h : Keeps taking quoting a s) :
    Keeps taking quoting a { s with parcels := { slots := s.parcels.slots.set k.val none k.isLt, free := l } } := by
  refine h.trans ⟨id, id, id, id, fun ⟨hc, hp, hw⟩ => ⟨hc, fun j => ?_, hw⟩, id, sameFifo s, sameQuotes s, sameHunted s,
    sameRuns s⟩
  have hat : parcelAt j { s with parcels := { slots := s.parcels.slots.set k.val none k.isLt, free := l } } =
      if k = j then none else parcelAt j s := by
    show (s.parcels.slots.set k.val none k.isLt)[j.val] = _
    rw [Vector.getElem_set]
    simp only [Fin.ext_iff]; rfl
  rw [parcelGood, hat]
  by_cases e : k = j
  · rw [if_pos e]
  · rw [if_neg e]
    exact hp j

theorem keeps_setWay (w : Way) (c : Credential) (h : Keeps taking quoting a s) : Keeps taking quoting a (setWay w c s) :=
  h.trans ⟨id, id, id, id, fun ⟨hc, hp, hw⟩ => ⟨hc, hp, fun v => wayGood_setWay (hw v)⟩, id, sameFifo s, sameQuotes s, sameHunted s,
    sameRuns s⟩

theorem keeps_freeWay (w : Way) (h : Keeps taking quoting a s) : Keeps taking quoting a (freeWay w s) :=
  h.trans ⟨id, id, id, id, fun ⟨hc, hp, hw⟩ => ⟨hc, hp, fun v => wayGood_freeWay (hw v)⟩, id, sameFifo s, sameQuotes s, sameHunted s,
    sameRuns s⟩

/-! ### The link's queues (R175, R176) -/

theorem keeps_placeReply (r : Reply) (h : Keeps taking quoting a s) : Keeps taking quoting a (placeReply r s) := by
  have hlink : LinkBounded s → LinkBounded (placeReply r s) := by
    rw [LinkBounded, LinkBounded, placeReply_places]
    rcases placeReply_cases r s with ⟨_, e⟩ | ⟨_, e⟩ <;> rw [e] <;> exact id
  rcases placeReply_cases r s with ⟨_, e⟩ | ⟨_, e⟩ <;> rw [e] at hlink ⊢ <;>
    exact h.trans ⟨hlink, id, id, id, id, id, sameFifo s, sameQuotes s, sameHunted s,
    sameRuns s⟩

theorem keeps_releasePlace (h : Keeps taking quoting a s) : Keeps taking quoting a (releasePlace s) :=
  h.trans ⟨fun ⟨hf, hp⟩ => ⟨hf, Nat.le_trans (Nat.add_le_add_left (Nat.sub_le _ _) _) hp⟩, id, id, id, id, id,
    sameFifo s, sameQuotes s, sameHunted s,
    sameRuns s⟩

theorem keeps_answer (hd : Header) (l : List Byte) (h : Keeps taking quoting a s) : Keeps taking quoting a (answer hd l s) := keeps_placeReply _ h
theorem keeps_refuse (hd : Header) (c : ReplyCode) (h : Keeps taking quoting a s) : Keeps taking quoting a (refuse hd c s) := keeps_placeReply _ h
theorem keeps_refuseNoMatch (hd : Header) (n : Nat) (h : Keeps taking quoting a s) : Keeps taking quoting a (refuseNoMatch hd n s) :=
  keeps_placeReply _ h
theorem keeps_refuseLockedOut (hd : Header) (n : Nat) (h : Keeps taking quoting a s) : Keeps taking quoting a (refuseLockedOut hd n s) :=
  keeps_placeReply _ h

/-! ### Notices and counters (R183, R184) -/

theorem keeps_modClass (c : NoticeClass) {f : ClassQueue → ClassQueue} (hf : ∀ q, ClassBounded q → ClassBounded (f q))
    (h : Keeps taking quoting a s) : Keeps taking quoting a (modClass c f s) := by
  refine h.trans ⟨id, fun hn i => ?_, id, id, id, id, sameFifo s, sameQuotes s, sameHunted s,
    sameRuns s⟩
  rw [modClass_at]
  split
  · exact hf _ (hn _)
  · exact hn i

theorem keeps_raiseMarked (b : NoticeBody) (d m : Bool) (h : Keeps taking quoting a s) : Keeps taking quoting a (raiseMarked b d m s) :=
  keeps_modClass _ (enqueueDetail_bounded _) h

theorem keeps_raise (b : NoticeBody) (h : Keeps taking quoting a s) : Keeps taking quoting a (raise b s) := keeps_raiseMarked b _ _ h
theorem keeps_count (k : Counter) (h : Keeps taking quoting a s) : Keeps taking quoting a (count k s) := keeps_of_watched h rfl

theorem keeps_raiseTamper (n : CompNo) (k : TamperKind) (h : Keeps taking quoting a s) : Keeps taking quoting a (raiseTamper n k s) :=
  keeps_count _ (keeps_raise _ h)
theorem keeps_raiseAbsent (c : Col) (h : Keeps taking quoting a s) : Keeps taking quoting a (raiseAbsent c s) := keeps_count _ (keeps_raise _ h)
theorem keeps_raiseAjar (n : CompNo) (w : BitVec 16) (h : Keeps taking quoting a s) : Keeps taking quoting a (raiseAjar n w s) :=
  keeps_count _ (keeps_raise _ h)
theorem keeps_raiseHoldOn (x : HoldSource) (h : Keeps taking quoting a s) : Keeps taking quoting a (raiseHoldOn x s) := keeps_count _ (keeps_raise _ h)

/-! ### Writes of entries that nothing here watches -/

theorem keeps_modTerm (t : Term) (f : TermContext → TermContext) (h : Keeps taking quoting a s) : Keeps taking quoting a (modTerm t f s) :=
  keeps_of_watched h rfl
theorem keeps_setMarker (t : Term) (m : Option DepositMarker) (h : Keeps taking quoting a s) : Keeps taking quoting a (setMarker t m s) :=
  keeps_of_watched h rfl
theorem keeps_setResumed (n : CompNo) (b : Bool) (h : Keeps taking quoting a s) : Keeps taking quoting a (setResumed n b s) := keeps_of_watched h rfl
theorem keeps_setContext (t : Term) (c : QuoteContext) (h : Keeps taking quoting a s) : Keeps taking quoting a (setContext t c s) :=
  keeps_of_watched h rfl
theorem keeps_setReopen (l : List ReopenEntry) (h : Keeps taking quoting a s) : Keeps taking quoting a (setReopen l s) := keeps_of_watched h rfl
theorem keeps_modColumn (c : Col) (f : ColumnEntry → ColumnEntry) (h : Keeps taking quoting a s) : Keeps taking quoting a (modColumn c f s) :=
  keeps_of_watched h rfl
theorem keeps_modDoor (n : CompNo) (f : DoorRecord → DoorRecord) (h : Keeps taking quoting a s) : Keeps taking quoting a (modDoor n f s) :=
  keeps_of_watched h rfl
theorem keeps_setFirstPoll (c : Col) (b : Bool) (h : Keeps taking quoting a s) : Keeps taking quoting a (setFirstPoll c b s) := keeps_of_watched h rfl
theorem keeps_setLastTrace (c : Col) (l : LastTrace) (h : Keeps taking quoting a s) : Keeps taking quoting a (setLastTrace c l s) :=
  keeps_of_watched h rfl
theorem keeps_setSweep (w : Option Sweep) (h : Keeps taking quoting a s) : Keeps taking quoting a (setSweep w s) := keeps_of_watched h rfl
theorem keeps_setScanner (w : Scanner) (h : Keeps taking quoting a s) : Keeps taking quoting a (setScanner w s) := keeps_of_watched h rfl
theorem keeps_setUse (u : BusUse) (h : Keeps taking quoting a s) : Keeps taking quoting a (setUse u s) := keeps_of_watched h rfl
theorem keeps_setRetry (r : Option Retry) (h : Keeps taking quoting a s) : Keeps taking quoting a (setRetry r s) := keeps_of_watched h rfl
theorem keeps_setTx (x : Transmission) (h : Keeps taking quoting a s) : Keeps taking quoting a (setTx x s) := keeps_of_watched h rfl
theorem keeps_setOnLine (c : Option NoticeClass) (h : Keeps taking quoting a s) : Keeps taking quoting a (setOnLine c s) := keeps_of_watched h rfl
theorem keeps_maintSlot (m : Option MaintSlot) (h : Keeps taking quoting a s) : Keeps taking quoting a { s with maintSlot := m } :=
  keeps_of_watched h rfl
theorem keeps_leaveFree (n : CompNo) (h : Keeps taking quoting a s) : Keeps taking quoting a (leaveFree n s) := keeps_of_watched h rfl

/-! ### The charge tables (R65, R67, R69) -/

/-- The computation in progress stays or is gone. -/
theorem keeps_setCharge {q : List QueuedCharge} {r : Option Snapshot} (hr : r = none ∨ r = s.charge.running)
    (hq : quoting → q.Sublist s.charge.queue)
    (h : Keeps taking quoting a s) : Keeps taking quoting a (setCharge q r s) := by
  refine h.trans ⟨id, id, id, id, id, fun ⟨ht, hs⟩ => ⟨ht, fun sn e => ?_⟩, sameFifo s, hq, sameHunted s, sameRuns s⟩
  rcases hr with rfl | rfl
  · cases e
  · exact hs sn e

/-- A snapshot is in range when the tables are. -/
theorem keeps_setCharge_snapshot (k : Slot) (p : Parcel) (h : Keeps taking quoting a s) :
    Keeps taking quoting a (setCharge s.charge.queue (some (snapshotOf k p s)) s) := by
  refine h.trans ⟨id, id, id, id, id, fun ⟨ht, _⟩ => ⟨ht, fun sn e => ?_⟩, sameFifo s, sameQuotes s, sameHunted s,
    sameRuns s⟩
  cases e
  exact ht p.plan

/-! ### The operation queue (R131) -/

/-- The bus changes, its queue within the bound. -/
theorem keeps_bus {b : ColumnBus} (hb : OperationsBounded s → b.queue.length ≤ 16) (h : Keeps taking quoting a s) :
    Keeps taking quoting a { s with bus := b } := h.trans ⟨id, id, hb, id, id, id, sameFifo s, sameQuotes s, sameHunted s,
    sameRuns s⟩

theorem keeps_answerRelay (c : ReplyCode) (op : Op) (h : Keeps taking quoting a s) : Keeps taking quoting a (answerRelay c op s) := by
  unfold answerRelay
  split
  · exact keeps_placeReply _ h
  · exact h

theorem refill_length (b : ColumnBus) (h : b.queue.length ≤ 16) : (refill b).queue.length ≤ 16 := by
  simp only [refill, List.length_append, List.length_take]
  omega

theorem takeNewestRelay_length {l rest : List Op} {r : Op} (h : takeNewestRelay l = some (r, rest)) :
    l.length = rest.length + 1 := by
  induction l generalizing r rest with
  | nil => cases h
  | cons o os ih =>
    simp only [takeNewestRelay] at h
    split at h
    · next r' rest' e =>
      cases h
      simp only [List.length_cons, ih e]
    · split at h <;> cases h
      rfl

theorem keeps_enqueueOp (op : Op) (h : Keeps taking quoting a s) : Keeps taking quoting a (enqueueOp op s) := by
  unfold enqueueOp
  split
  · next hroom => exact keeps_bus (fun _ => by simp only [List.length_append, List.length_singleton]; omega) h
  · split
    · next r rest e =>
      refine keeps_answerRelay _ _ (keeps_bus (fun hq => ?_) h)
      have := takeNewestRelay_length e
      simp only [List.length_append, List.length_singleton]
      exact this ▸ hq
    · exact keeps_bus id h

theorem keeps_dropOps (p : Op → Bool) (h : Keeps taking quoting a s) : Keeps taking quoting a (dropOps p s) :=
  keeps_bus (fun hq => refill_length _ (Nat.le_trans (List.length_filter_le _ _) hq)) h

theorem keeps_enqueueBroadcast (b : Broadcast) (h : Keeps taking quoting a s) : Keeps taking quoting a (enqueueBroadcast b s) := by
  have hdrop : Keeps taking quoting a (if b = .wakeAll then dropOps (fun o => o == .broadcast .sleepAll) s else s) :=
    keeps_ite (keeps_dropOps _ h) h
  exact keeps_ite hdrop (keeps_enqueueOp _ hdrop)

theorem keeps_takeOp (op : Op) (h : Keeps taking quoting a s) : Keeps taking quoting a (takeOp op s) :=
  keeps_ite (keeps_bus (fun hq => refill_length _ (Nat.le_trans (List.length_erase_le ..) hq)) h) (keeps_bus id h)

theorem keeps_queueTrace (n : CompNo) (h : Keeps taking quoting a s) : Keeps taking quoting a (queueTrace n s) := by
  unfold queueTrace
  split
  · exact keeps_enqueueOp _ (keeps_modDoor _ _ h)
  · exact h

theorem keeps_stopJobTimers (n : CompNo) (h : Keeps taking quoting a s) : Keeps taking quoting a (stopJobTimers n s) :=
  keeps_setResumed _ _ (keeps_modDoor _ _ h)

/-! ### The committed set (R139 to R141) -/

/-- The arbiter changes, and its committed set keeps its bound and its distinct columns and compartments. -/
theorem keeps_arbiter {b : Arbiter} (hb : PulsesBounded s → b.committed.length ≤ 4 ∧
    b.committed.Pairwise (fun g g' => g.col ≠ g'.col ∧ g.comp ≠ g'.comp)) (h : Keeps taking quoting a s) :
    Keeps taking quoting a { s with arbiter := b } := h.trans ⟨id, id, id, fun hs => ⟨hs.1, hb hs⟩, id, id, sameFifo s, sameQuotes s, sameHunted s,
    sameRuns s⟩

/-- Entries leave the committed set. -/
theorem keeps_arbiter_filter {b : Arbiter} {p : Committed → Bool} (hb : b.committed = s.arbiter.committed.filter p)
    (h : Keeps taking quoting a s) : Keeps taking quoting a { s with arbiter := b } := by
  refine keeps_arbiter (fun ⟨_, hlen, hdistinct⟩ => ?_) h
  rw [hb]
  exact ⟨Nat.le_trans (List.length_filter_le _ _) hlen, hdistinct.filter p⟩

/-- A request is eligible only beside others on other columns and compartments, and below the budget. -/
theorem keeps_grant {r : GrantRequest} (hr : isEligible s r = true) (h : Keeps taking quoting a s) : Keeps taking quoting a (grant r s) := by
  obtain ⟨_, _, hroom, hother, _⟩ := (isEligible_iff s r).mp hr
  refine keeps_enqueueOp _ (keeps_arbiter (fun ⟨hbudget, _, hdistinct⟩ => ⟨?_, ?_⟩) h)
  · rw [List.length_append, List.length_singleton]
    exact Nat.le_trans hroom hbudget
  · exact List.pairwise_append.mpr ⟨hdistinct, List.pairwise_singleton _ _, fun g hg g' hg' =>
      List.mem_singleton.mp hg' ▸ hother g hg⟩

theorem oldestEligible_isEligible {c : GrantClass} {r : GrantRequest} (h : oldestEligible c s = some r) :
    isEligible s r = true := by
  unfold oldestEligible at h
  have hr := List.find?_some h
  exact (Bool.and_eq_true_iff.mp hr).2

theorem nextGrant_isEligible {r : GrantRequest} (h : nextGrant s = some r) : isEligible s r = true := by
  simp only [nextGrant, Option.orElse_eq_or, Option.or_eq_some_iff] at h
  rcases h with h | ⟨_, h | ⟨_, h | ⟨_, h⟩⟩⟩ <;> exact oldestEligible_isEligible h

theorem keeps_lookOverUpTo (fuel : Nat) (h : Keeps taking quoting a s) : Keeps taking quoting a (lookOverUpTo fuel s) := by
  induction fuel generalizing s with
  | zero => exact h
  | succ fuel ih =>
    rw [lookOverUpTo]
    split
    · next r e => exact ih (keeps_grant (nextGrant_isEligible e) h)
    · exact h

theorem keeps_lookOver (h : Keeps taking quoting a s) : Keeps taking quoting a (lookOver s) := keeps_lookOverUpTo _ h

theorem keeps_requestGrant (n : CompNo) (c : GrantClass) (h : Keeps taking quoting a s) : Keeps taking quoting a (requestGrant n c s) := by
  unfold requestGrant
  split
  · exact h
  · split
    · exact keeps_lookOver (keeps_of_watched h rfl)
    · exact h

theorem keeps_withdraw (n : CompNo) (h : Keeps taking quoting a s) : Keeps taking quoting a (withdraw n s) := keeps_of_watched h rfl

theorem keeps_takeBack (n : CompNo) (h : Keeps taking quoting a s) : Keeps taking quoting a (takeBack n s) := by
  unfold takeBack
  split
  · exact h
  · exact keeps_ite (keeps_arbiter_filter rfl h) (keeps_arbiter_filter rfl h)

theorem keeps_notePulseEnd (n : CompNo) (e : PulseEnd) (h : Keeps taking quoting a s) : Keeps taking quoting a (notePulseEnd n e s) :=
  keeps_ite (keeps_queueTrace _ (keeps_modDoor _ _ h)) (keeps_modDoor _ _ h)

theorem keeps_leaveCommitted (n : CompNo) (h : Keeps taking quoting a s) : Keeps taking quoting a (leaveCommitted n s) := keeps_arbiter_filter rfl h

theorem keeps_goInFlight (n : CompNo) (l : Nat) (h : Keeps taking quoting a s) : Keeps taking quoting a (goInFlight n l s) := by
  have hcol : ∀ c : Committed, (if c.comp = n then { c with stage := PulseStage.inFlight l } else c).col = c.col :=
    fun c => by split <;> rfl
  have hcomp : ∀ c : Committed, (if c.comp = n then { c with stage := PulseStage.inFlight l } else c).comp = c.comp :=
    fun c => by split <;> rfl
  refine keeps_arbiter (fun ⟨_, hlen, hdistinct⟩ => ⟨(List.length_map _).trans_le hlen, ?_⟩) h
  simpa only [List.pairwise_map, hcol, hcomp] using hdistinct

end Sys2Proof.Machine

/-! PROOFS. What the compartment manager, the record checker, the terminals, the engines and the charges keep. -/

namespace Sys2Proof.Machine

variable {taking quoting : Prop} {a s t : State}

/-! ### Compartments (chapter 1) -/

theorem keeps_joinFree (n : CompNo) (h : Keeps taking quoting a s) : Keeps taking quoting a (joinFree n s) := keeps_ite (keeps_of_watched h rfl) h

theorem keeps_unlink (n : CompNo) (h : Keeps taking quoting a s) : Keeps taking quoting a (unlink n s) := by
  unfold unlink
  refine keeps_modComp _ _ ?_
  split
  · exact keeps_modParcel _ _ h
  · exact h

theorem keeps_fill (n : CompNo) (b : Bool) (h : Keeps taking quoting a s) : Keeps taking quoting a (fill n b s) := by
  unfold fill
  split
  all_goals first
    | exact h
    | exact keeps_stopJobTimers _ (keeps_modComp _ _ h)

theorem keeps_free (n : CompNo) (h : Keeps taking quoting a s) : Keeps taking quoting a (free n s) := by
  have hreleased : Keeps taking quoting a (withdraw n (unlink n s)) := keeps_withdraw _ (keeps_unlink _ h)
  unfold free
  split
  all_goals first
    | exact h
    | exact hreleased
    | exact keeps_joinFree _ (keeps_modComp _ _ (keeps_stopJobTimers _ hreleased))

theorem keeps_barWithoutReport (n : CompNo) (c : BarCause) (h : Keeps taking quoting a s) : Keeps taking quoting a (barWithoutReport n c s) := by
  have hbarred : ∀ f, Keeps taking quoting a (modComp n f (stopJobTimers n (withdraw n (leaveFree n s)))) := fun f =>
    keeps_modComp _ _ (keeps_stopJobTimers _ (keeps_withdraw _ (keeps_leaveFree _ h)))
  exact keeps_ite h (keeps_ite (keeps_maintSlot _ (hbarred _)) (hbarred _))

theorem keeps_release (n : CompNo) (k : Slot) (st : CompState) (h : Keeps taking quoting a s) : Keeps taking quoting a (release n k st s) :=
  keeps_ite (keeps_modComp _ _ h) h

theorem keeps_expectedOpening (n : CompNo) (h : Keeps taking quoting a s) : Keeps taking quoting a (expectedOpening n s) :=
  keeps_withdraw _ (keeps_modDoor _ _ (keeps_modComp _ _ h))

theorem keeps_takeCompartment (n : CompNo) (k : Slot) (h : Keeps taking quoting a s) : Keeps taking quoting a (takeCompartment n k s) :=
  keeps_modParcel _ _ (keeps_modComp _ _ (keeps_leaveFree _ h))

/-! ### Check failures (10.5) -/

theorem keeps_restartInactivity (t : Term) (h : Keeps taking quoting a s) : Keeps taking quoting a (restartInactivity t s) := by
  unfold restartInactivity
  split
  · exact keeps_modTerm _ _ h
  · exact h

theorem keeps_leaveReturnQueue (k : Slot) (h : Keeps taking quoting a s) : Keeps taking quoting a (leaveReturnQueue k s) :=
  keeps_ite (keeps_of_watched h rfl) h

theorem keeps_setContextsOn (k : Slot) (f : QuoteContext → QuoteContext) (h : Keeps taking quoting a s) :
    Keeps taking quoting a (setContextsOn k f s) :=
  keeps_foldl (fun _ h => keeps_ite (keeps_setContext _ _ h) h) _ h

theorem keeps_sweepResolved (k : Slot) (c : SweepCount) (h : Keeps taking quoting a s) : Keeps taking quoting a (sweepResolved k c s) := by
  unfold sweepResolved
  split
  · exact keeps_ite (keeps_restartInactivity _ (keeps_setSweep _ h)) h
  · exact h

theorem keeps_clearMarkers (k : Slot) (h : Keeps taking quoting a s) : Keeps taking quoting a (clearMarkers k s) := by
  refine keeps_foldl (fun {s} t h => ?_) _ h
  split
  · exact keeps_ite (keeps_setMarker _ _ h) h
  · exact h

theorem keeps_reportFailure (t : CheckedTable) (i : Nat) (h : Keeps taking quoting a s) : Keeps taking quoting a (reportFailure t i s) :=
  keeps_of_watched (s := count .integrity (raise (.integrity t (BitVec.ofNat 16 i)) s))
    (keeps_count _ (keeps_raise _ h)) rfl

theorem keeps_dropCharge (k : Slot) (h : Keeps taking quoting a s) : Keeps taking quoting a (dropCharge k s) := by
  refine keeps_setCharge ?_ (fun _ => List.filter_sublist) h
  split
  · split
    · exact .inl rfl
    · exact .inr rfl
  · exact .inr rfl

theorem keeps_failedEntry (n : CompNo) (h : Keeps taking quoting a s) : Keeps taking quoting a (failedEntry n s) :=
  keeps_reportFailure _ _ (keeps_ite (keeps_modDoor _ _ (keeps_modComp _ _ (keeps_leaveFree _ h)))
    (keeps_barWithoutReport _ _ (keeps_modComp _ _ (keeps_leaveFree _ h))))

theorem keeps_barFound (n : CompNo) (h : Keeps taking quoting a s) : Keeps taking quoting a (barFound n s) :=
  keeps_ite (keeps_barWithoutReport _ _ h) (keeps_failedEntry _ h)

/-- A damaged record up to its computations: rewritten, its compartment barred, its deposit told (R192). -/
def failedUncharged (deposit : Option CompNo) (k : Slot) (p : Parcel) (s : State) : State :=
  let found := compartmentNaming k s
  let s := setParcel k { p with state := .quarantined, comp := found } s
  let s := match found with
    | some n => barFound n s
    | none => s
  let s := leaveReturnQueue k s
  match deposit with
  | some n => clearMarkers k (raise (.deposit p.ref (compByte n) .integrity none) s)
  | none => s

/-- A damaged record behind its computations: their COLLECTs refused, collection and return engine told (R192). -/
def failedCharged (k : Slot) (entries : List QueuedCharge) (s : State) : State :=
  let s := entries.foldl (fun s e => refuse (collectHeader e) .integrity s) s
  let s := setContextsOn k (fun _ => .void k) s
  let s := setReopen (s.collection.reopen.filter (fun e => e.slot != k)) s
  reportFailure .parcel k.val (sweepResolved k .failed s)

theorem failedRecord_eq (d : Option CompNo) (k : Slot) (p : Parcel) (s : State) : failedRecord d k p s =
    failedCharged k (s.charge.queue.filter (fun e => e.slot == k)) (dropCharge k (failedUncharged d k p s)) := rfl

theorem keeps_failedCharged (k : Slot) (l : List QueuedCharge) (h : Keeps taking quoting a s) :
    Keeps taking quoting a (failedCharged k l s) :=
  keeps_reportFailure _ _ (keeps_sweepResolved _ _ (keeps_setReopen _ (keeps_setContextsOn _ _
    (keeps_foldl (fun _ h => keeps_refuse _ _ h) _ h))))

theorem keeps_failedUncharged (d : Option CompNo) (k : Slot) (p : Parcel) (h : Keeps taking quoting a s) :
    Keeps taking quoting a (failedUncharged d k p s) := by
  unfold failedUncharged
  have hbarred : Keeps taking quoting a (leaveReturnQueue k (match compartmentNaming k s with
      | some n => barFound n (setParcel k { p with state := .quarantined, comp := compartmentNaming k s } s)
      | none => setParcel k { p with state := .quarantined, comp := compartmentNaming k s } s)) := by
    refine keeps_leaveReturnQueue _ ?_
    split
    · exact keeps_barFound _ (keeps_setParcel _ _ h)
    · exact keeps_setParcel _ _ h
  cases d with
  | none => exact hbarred
  | some n => exact keeps_clearMarkers _ (keeps_raise _ hbarred)

theorem keeps_failedRecord (d : Option CompNo) (k : Slot) (p : Parcel) (h : Keeps taking quoting a s) :
    Keeps taking quoting a (failedRecord d k p s) := by
  rw [failedRecord_eq]
  exact keeps_failedCharged _ _ (keeps_dropCharge _ (keeps_failedUncharged _ _ _ h))

/-- The computations of a damaged record leave the queue (R77). -/
theorem failedRecord_quotes (d : Option CompNo) (k : Slot) (p : Parcel) (s : State) :
    (failedRecord d k p s).charge.queue.Sublist (s.charge.queue.filter (fun e => e.slot != k)) := by
  rw [failedRecord_eq]
  have hcharged := keeps_failedCharged (taking := True) (quoting := True) k
    (s.charge.queue.filter (fun e => e.slot == k)) (Keeps.refl (dropCharge k (failedUncharged d k p s)))
  have huncharged := keeps_failedUncharged (taking := True) (quoting := True) d k p (Keeps.refl s)
  exact (hcharged.quotes trivial).trans ((huncharged.quotes trivial).filter _)

/-! ### Terminals and the ends of jobs (2.5, 6.2, 6.5) -/

theorem keeps_joinReturnQueue (k : Slot) (b : Bool) (h : Keeps taking quoting a s) : Keeps taking quoting a (joinReturnQueue k b s) := by
  have hjoined : Keeps taking quoting a (if k ∈ s.returns.queue then s
      else { s with returns := { s.returns with queue := s.returns.queue ++ [k] } }) :=
    keeps_ite h (keeps_of_watched h rfl)
  unfold joinReturnQueue
  dsimp only
  split
  · exact keeps_raiseMarked _ _ _ hjoined
  · exact hjoined

theorem keeps_endSweep (c : SweepEnd) (h : Keeps taking quoting a s) : Keeps taking quoting a (endSweep c s) := by
  unfold endSweep
  split
  · exact keeps_setSweep _ (keeps_raise _ h)
  · exact h

theorem keeps_putBackCurrent (n : CompNo) (k : Slot) (p : Parcel) (h : Keeps taking quoting a s) :
    Keeps taking quoting a (putBackCurrent n k p s) := by
  have hback : ∀ {x : State}, Keeps taking quoting a x → Keeps taking quoting a
      (if p.state = .sweeping then modParcel k (fun p => { p with state := .returnQueued }) x else x) := fun h =>
    keeps_ite (keeps_modParcel _ _ h) h
  exact keeps_ite (keeps_failedRecord _ _ _ h)
    (keeps_ite (hback (keeps_fill _ _ h)) (keeps_sweepResolved _ _ (hback (keeps_failedEntry _ h))))

theorem keeps_stopSweep (c : SweepEnd) (h : Keeps taking quoting a s) : Keeps taking quoting a (stopSweep c s) := by
  unfold stopSweep
  repeat' split
  all_goals first
    | exact h
    | exact keeps_endSweep _ h
    | exact keeps_setSweep _ h
    | exact keeps_endSweep _ (keeps_putBackCurrent _ _ _ (keeps_withdraw _ h))

theorem keeps_signOff (t : Term) (h : Keeps taking quoting a s) : Keeps taking quoting a (signOff t s) := by
  unfold signOff
  dsimp only
  split
  · exact keeps_ite (keeps_stopSweep _ (keeps_modTerm _ _ h)) (keeps_modTerm _ _ h)
  · exact keeps_modTerm _ _ h

theorem keeps_courierRemoved (t : Term) (h : Keeps taking quoting a s) : Keeps taking quoting a (courierRemoved t s) := by
  unfold courierRemoved
  split
  · exact keeps_signOff _ h
  · exact keeps_modTerm _ _ h

theorem keeps_endOpenJob (t : Term) (k : Slot) (b : Bool) (h : Keeps taking quoting a s) : Keeps taking quoting a (endOpenJob t k b s) := by
  refine keeps_ite ?_ h
  split
  · exact keeps_ite (keeps_signOff _ (keeps_modTerm _ _ h)) (keeps_restartInactivity _ (keeps_modTerm _ _ h))
  · exact keeps_modTerm _ _ (keeps_modTerm _ _ h)

theorem keeps_endJobsOn (k : Slot) (h : Keeps taking quoting a s) : Keeps taking quoting a (endJobsOn k s) :=
  keeps_foldl (fun _ h => keeps_endOpenJob _ _ _ h) _ h

theorem keeps_setOpenJob (t : Term) (k : Slot) (h : Keeps taking quoting a s) : Keeps taking quoting a (setOpenJob t k s) := keeps_modTerm _ _ h

theorem keeps_depositOver (k : Slot) (h : Keeps taking quoting a s) : Keeps taking quoting a (depositOver k s) :=
  keeps_endJobsOn _ (keeps_clearMarkers _ h)

theorem keeps_quarantineIn (r : Option CompNo) (k : Slot) (h : Keeps taking quoting a s) : Keeps taking quoting a (quarantineIn r k s) := by
  unfold quarantineIn
  split
  · exact h
  · exact keeps_endJobsOn _ (keeps_failedRecord _ _ _ h)

theorem keeps_quarantine (k : Slot) (h : Keeps taking quoting a s) : Keeps taking quoting a (quarantine k s) := keeps_quarantineIn _ _ h

theorem keeps_onRecordElse {bad : State → State} (k : Slot) (l : List ParcelState) {f : Parcel → State → State}
    (hbad : Keeps taking quoting a s → Keeps taking quoting a (bad s)) (hf : ∀ p, Keeps taking quoting a s → Keeps taking quoting a (f p s)) (h : Keeps taking quoting a s) :
    Keeps taking quoting a (onRecordElse bad k l f s) := by
  unfold onRecordElse
  split
  · exact h
  · exact keeps_ite (keeps_ite (hf _ h) h) (hbad h)

theorem keeps_onRecord (k : Slot) (l : List ParcelState) {f : Parcel → State → State}
    (hf : ∀ p, Keeps taking quoting a s → Keeps taking quoting a (f p s)) (h : Keeps taking quoting a s) : Keeps taking quoting a (onRecord k l f s) :=
  keeps_onRecordElse _ _ (keeps_quarantine _) hf h

theorem keeps_returnToStored (k : Slot) (c : Amount) (h : Keeps taking quoting a s) : Keeps taking quoting a (returnToStored k c s) := by
  unfold returnToStored
  split
  · exact h
  · exact keeps_ite (keeps_joinReturnQueue _ _ (keeps_setParcel _ _ h)) (keeps_setParcel _ _ h)

theorem keeps_removeCredentialOf (k : Slot) (h : Keeps taking quoting a s) : Keeps taking quoting a (removeCredentialOf k s) := by
  unfold removeCredentialOf
  split
  · exact keeps_freeWay _ h
  · exact h

theorem keeps_retireRecord (k : Slot) (h : Keeps taking quoting a s) : Keeps taking quoting a (retireRecord k s) := by
  have hleft : Keeps taking quoting a (leaveReturnQueue k (removeCredentialOf k s)) :=
    keeps_leaveReturnQueue _ (keeps_removeCredentialOf _ h)
  unfold retireRecord
  refine keeps_endJobsOn _ (keeps_freeSlot _ _ ?_)
  split
  · exact keeps_free _ hleft
  · exact hleft

/-! ### How the engines end their jobs (chapters 3, 5 and 6) -/

theorem keeps_depositBack (n : CompNo) (k : Slot) (o : DepositOutcome) (h : Keeps taking quoting a s) :
    Keeps taking quoting a (depositBack n k o s) :=
  keeps_onRecord _ _ (fun _ h => keeps_depositOver _ (keeps_raise _ (keeps_modParcel _ _ (keeps_free _ h)))) h

theorem keeps_depositFilled (n : CompNo) (k : Slot) (b : Bool) (m : Minute) (h : Keeps taking quoting a s) :
    Keeps taking quoting a (depositFilled n k b m s) := by
  refine keeps_onRecord _ _ (fun p h => keeps_depositOver _ ?_) h
  split
  · exact keeps_raiseMarked _ _ _ (keeps_modParcel _ _ (keeps_fill _ _ h))
  · exact keeps_joinReturnQueue _ _ (keeps_modParcel _ _ (keeps_fill _ _ h))

theorem keeps_depositClose (n : CompNo) (k : Slot) (o : Occupancy) (m : Minute) (h : Keeps taking quoting a s) :
    Keeps taking quoting a (depositClose n k o m s) := by
  cases o with
  | empty => exact keeps_depositBack _ _ _ h
  | filled => exact keeps_depositFilled _ _ _ _ h
  | uncertain => exact keeps_depositFilled _ _ _ _ h

theorem keeps_depositLockFault (n : CompNo) (k : Slot) (c : TraceClass) (h : Keeps taking quoting a s) :
    Keeps taking quoting a (depositLockFault n k c s) :=
  keeps_onRecord _ _ (fun _ h => keeps_depositOver _ (keeps_raise _ (keeps_raise _ (keeps_modParcel _ _
    (keeps_free _ (keeps_barWithoutReport _ _ h)))))) h

theorem keeps_depositBarred (n : CompNo) (k : Slot) (b : DoorPhase) (h : Keeps taking quoting a s) :
    Keeps taking quoting a (depositBarred n k b s) := by
  refine keeps_onRecordElse _ _ (keeps_quarantineIn _ _) (fun p h => keeps_depositOver _ (keeps_ite ?_ ?_)) h
  · dsimp only
    split
    · exact keeps_raise _ (keeps_modParcel _ _ h)
    · exact keeps_joinReturnQueue _ _ (keeps_raise _ (keeps_modParcel _ _ h))
  · exact keeps_raise _ (keeps_modParcel _ _ (keeps_free _ h))

theorem keeps_collectionOver (k : Slot) (h : Keeps taking quoting a s) : Keeps taking quoting a (collectionOver k s) :=
  keeps_endJobsOn _ (keeps_setContextsOn _ _ h)

theorem keeps_endReopen (k : Slot) (h : Keeps taking quoting a s) : Keeps taking quoting a (endReopen k s) :=
  keeps_onRecord _ _ (fun _ h => keeps_returnToStored _ _ h) (keeps_setReopen _ h)

theorem keeps_joinReopen (k : Slot) (h : Keeps taking quoting a s) : Keeps taking quoting a (joinReopen k s) :=
  keeps_ite (keeps_endReopen _ (keeps_setReopen _ h)) (keeps_setReopen _ h)

theorem keeps_collectionUntaken (n : CompNo) (k : Slot) (o : CollectOutcome) (h : Keeps taking quoting a s) :
    Keeps taking quoting a (collectionUntaken n k o s) :=
  keeps_onRecord _ _ (fun _ h => keeps_joinReopen _ (keeps_collectionOver _ (keeps_raise _
    (keeps_fill _ _ (keeps_modParcel _ _ h))))) h

theorem keeps_collectionClose (n : CompNo) (k : Slot) (o : Occupancy) (h : Keeps taking quoting a s) :
    Keeps taking quoting a (collectionClose n k o s) := by
  cases o with
  | filled => exact keeps_collectionUntaken _ _ _ h
  | empty => exact keeps_onRecord _ _ (fun _ h => keeps_retireRecord _ (keeps_collectionOver _ (keeps_raise _ h))) h
  | uncertain =>
    exact keeps_onRecord _ _ (fun _ h => keeps_retireRecord _ (keeps_collectionOver _
      (keeps_barWithoutReport _ _ (keeps_raiseMarked _ _ _ h)))) h

theorem keeps_collectionLockFault (n : CompNo) (k : Slot) (c : TraceClass) (h : Keeps taking quoting a s) :
    Keeps taking quoting a (collectionLockFault n k c s) :=
  keeps_onRecord _ _ (fun _ h => keeps_collectionOver _ (keeps_raise _ (keeps_raise _ (keeps_modParcel _ _
    (keeps_barWithoutReport _ _ h))))) h

theorem keeps_collectionBarred (n : CompNo) (k : Slot) (h : Keeps taking quoting a s) : Keeps taking quoting a (collectionBarred n k s) :=
  keeps_onRecord _ _ (fun _ h => keeps_collectionOver _ (keeps_raise _ (keeps_returnToStored _ _ h))) h

theorem keeps_sweepKept (n : CompNo) (k : Slot) (h : Keeps taking quoting a s) : Keeps taking quoting a (sweepKept n k s) :=
  keeps_onRecord _ _ (fun _ h => keeps_sweepResolved _ _ (keeps_fill _ _ (keeps_modParcel _ _ h))) h

theorem keeps_sweepClose (n : CompNo) (k : Slot) (o : Occupancy) (h : Keeps taking quoting a s) : Keeps taking quoting a (sweepClose n k o s) := by
  cases o with
  | filled => exact keeps_sweepKept _ _ h
  | empty => exact keeps_onRecord _ _ (fun _ h => keeps_sweepResolved _ _ (keeps_retireRecord _ (keeps_raise _ h))) h
  | uncertain =>
    exact keeps_onRecord _ _ (fun _ h => keeps_sweepResolved _ _ (keeps_retireRecord _
      (keeps_barWithoutReport _ _ (keeps_raiseMarked _ _ _ h)))) h

theorem keeps_sweepLockFault (n : CompNo) (k : Slot) (c : TraceClass) (h : Keeps taking quoting a s) :
    Keeps taking quoting a (sweepLockFault n k c s) :=
  keeps_onRecord _ _ (fun _ h => keeps_sweepResolved _ _ (keeps_raise _ (keeps_modParcel _ _
    (keeps_barWithoutReport _ _ h)))) h

theorem keeps_sweepBarred (k : Slot) (h : Keeps taking quoting a s) : Keeps taking quoting a (sweepBarred k s) :=
  keeps_onRecord _ _ (fun _ h => keeps_sweepResolved _ _ (keeps_modParcel _ _ h)) h

theorem keeps_tellEngine (n : CompNo) (b : Compartment) (h : Keeps taking quoting a s) : Keeps taking quoting a (tellEngine n b s) := by
  unfold tellEngine
  split
  · exact h
  · split
    · exact keeps_depositBarred _ _ _ h
    · exact keeps_depositBarred _ _ _ h
    · exact keeps_collectionBarred _ _ h
    · exact keeps_sweepBarred _ h
    · exact h

theorem keeps_causeBar (n : CompNo) (c : BarCause) (h : Keeps taking quoting a s) : Keeps taking quoting a (causeBar n c s) :=
  keeps_tellEngine _ _ (keeps_barWithoutReport _ _ h)

/-! ### The record checker (10.5), and the sweep's walk (6.4) -/

theorem keeps_compartmentFailure (n : CompNo) (h : Keeps taking quoting a s) : Keeps taking quoting a (compartmentFailure n s) :=
  keeps_tellEngine _ _ (keeps_failedEntry _ h)

theorem keeps_onComp (n : CompNo) {f : State → State} (hf : Keeps taking quoting a s → Keeps taking quoting a (f s)) (h : Keeps taking quoting a s) :
    Keeps taking quoting a (onComp n f s) := keeps_ite (hf h) (keeps_compartmentFailure _ h)

theorem keeps_verifyComp (n : CompNo) (h : Keeps taking quoting a s) : Keeps taking quoting a (verifyComp n s) := keeps_onComp _ id h

theorem keeps_credentialFailure (w : Way) (h : Keeps taking quoting a s) : Keeps taking quoting a (credentialFailure w s) := by
  unfold credentialFailure
  refine keeps_reportFailure _ _ ?_
  split
  · exact h
  · dsimp only
    split
    · refine keeps_foldl (fun {s} t h => ?_) _ (keeps_freeWay _ h)
      split
      · exact keeps_ite h (keeps_courierRemoved _ h)
      · exact h
    · exact keeps_freeWay _ h

theorem keeps_sweepTake (n : CompNo) (k : Slot) (h : Keeps taking quoting a s) : Keeps taking quoting a (sweepTake n k s) :=
  keeps_requestGrant _ _ (keeps_modParcel _ _ (keeps_release _ _ _ h))

theorem keeps_examine (fuel : Nat) (h : Keeps taking quoting a s) : Keeps taking quoting a (examine fuel s) := by
  induction fuel generalizing s with
  | zero => exact h
  | succ fuel ih =>
    rw [examine]
    repeat' split
    all_goals first
      | exact h
      | exact keeps_endSweep _ h
      | exact ih (keeps_quarantine _ h)
      | exact ih (keeps_compartmentFailure _ h)
      | exact keeps_sweepTake _ _ (keeps_setSweep _ h)
      | exact ih (keeps_setSweep _ h)

theorem keeps_walkOn (h : Keeps taking quoting a s) : Keeps taking quoting a (walkOn s) := by
  unfold walkOn
  repeat' split
  all_goals first
    | exact h
    | exact keeps_examine _ h
    | exact keeps_endSweep _ h

/-! ### Storage charges and quotes (chapters 4 and 5) -/

theorem keeps_releaseAndAsk (n : CompNo) (k : Slot) (st : CompState) (c : GrantClass) (h : Keeps taking quoting a s) :
    Keeps taking quoting a (releaseAndAsk n k st c s) := keeps_ite (keeps_requestGrant _ _ (keeps_release _ _ _ h)) h

theorem keeps_settlement (t : Term) (k : Slot) (n : CompNo) (o : Amount) (l : Option LastTender) (h : Keeps taking quoting a s) :
    Keeps taking quoting a (settlement t k n o l s) :=
  keeps_releaseAndAsk _ _ _ _ (keeps_setContext _ _ (keeps_modParcel _ _ h))

theorem keeps_endQuoting (e : QueuedCharge) (c : ReplyCode) (h : Keeps taking quoting a s) : Keeps taking quoting a (endQuoting e c s) :=
  keeps_refuse _ _ (keeps_endOpenJob _ _ _ (keeps_setContext _ _ h))

theorem keeps_expiredAtQuote (e : QueuedCharge) (h : Keeps taking quoting a s) : Keeps taking quoting a (expiredAtQuote e s) :=
  keeps_endQuoting _ _ (keeps_joinReturnQueue _ _ (keeps_modParcel _ _ h))

theorem keeps_quoteDamaged (e : QueuedCharge) (h : Keeps taking quoting a s) : Keeps taking quoting a (quoteDamaged e s) :=
  keeps_refuse _ _ (keeps_endOpenJob _ _ _ (keeps_setContext _ _ (keeps_quarantine _ h)))

theorem keeps_quoteQuarantined (e : QueuedCharge) (h : Keeps taking quoting a s) : Keeps taking quoting a (quoteQuarantined e s) :=
  keeps_refuse _ _ (keeps_endOpenJob _ _ _ (keeps_setContext _ _ h))

theorem keeps_quoteWritten (e : QueuedCharge) (sn : Snapshot) (n : CompNo) (h : Keeps taking quoting a s) :
    Keeps taking quoting a (quoteWritten e sn n s) :=
  keeps_ite (keeps_answer _ _ (keeps_settlement _ _ _ _ _ (keeps_modParcel _ _ h)))
    (keeps_answer _ _ (keeps_setContext _ _ (keeps_modParcel _ _ h)))

theorem keeps_judgeQuote (e : QueuedCharge) (sn : Snapshot) (h : Keeps taking quoting a s) : Keeps taking quoting a (judgeQuote e sn s) := by
  refine keeps_ite ?_ (keeps_quoteDamaged _ h)
  split
  · exact keeps_releasePlace h
  · refine keeps_ite (keeps_quoteQuarantined _ h) (keeps_ite (keeps_releasePlace h) ?_)
    split
    · exact keeps_releasePlace h
    · exact keeps_ite (keeps_endQuoting _ _ (keeps_returnToStored _ _ (keeps_verifyComp _ h)))
        (keeps_quoteWritten _ _ _ (keeps_verifyComp _ h))

theorem keeps_startComputations (fuel : Nat) (h : Keeps taking quoting a s) : Keeps taking quoting a (startComputations fuel s) := by
  induction fuel generalizing s with
  | zero => exact h
  | succ fuel ih =>
    rw [startComputations]
    split
    · next e rest hrunning hqueue =>
      have hdrop : Keeps taking quoting a (setCharge rest none s) :=
        keeps_setCharge (.inl rfl) (fun _ => by rw [hqueue]; exact List.sublist_cons_self _ _) h
      refine keeps_ite ?_ (ih (keeps_quarantine _ h))
      split
      · exact ih (keeps_releasePlace hdrop)
      · exact keeps_ite (ih (keeps_expiredAtQuote _ hdrop)) (keeps_ite (ih (keeps_judgeQuote _ _ hdrop))
          (keeps_setCharge_snapshot _ _ h))
    · exact h

theorem keeps_chargeStarts (h : Keeps taking quoting a s) : Keeps taking quoting a (chargeStarts s) := keeps_startComputations _ h

theorem keeps_completeComputation (h : Keeps taking quoting a s) : Keeps taking quoting a (completeComputation s) := by
  unfold completeComputation
  split
  · next sn e rest hrunning hqueue =>
    exact keeps_judgeQuote _ _ (keeps_setCharge (.inl rfl) (fun _ => by rw [hqueue]; exact List.sublist_cons_self _ _) h)
  · exact h

end Sys2Proof.Machine

/-! PROOFS. What the door supervisor, the column bus, dormancy and the hold keep. -/

namespace Sys2Proof.Machine

variable {taking quoting : Prop} {a s t : State}

/-! ### The door supervisor (chapter 8) -/

theorem keeps_startTimers (n : CompNo) (h : Keeps taking quoting a s) : Keeps taking quoting a (startTimers n s) := by
  unfold startTimers
  exact keeps_modDoor _ _ h

theorem keeps_deliver (n : CompNo) (l : Nat) (h : Keeps taking quoting a s) : Keeps taking quoting a (deliver n l s) := by
  have hsent : Keeps taking quoting a (count .pulses (goInFlight n l s)) := keeps_count _ (keeps_goInFlight _ _ h)
  exact keeps_ite hsent (keeps_onComp _
    (fun h => keeps_ite (keeps_startTimers _ (keeps_modComp _ _ h)) (keeps_modComp _ _ h)) hsent)

theorem keeps_confirmExpired (n : CompNo) (h : Keeps taking quoting a s) : Keeps taking quoting a (confirmExpired n s) := by
  have hstopped : Keeps taking quoting a (modDoor n (fun d => { d with confirm := none }) s) := keeps_modDoor _ _ h
  unfold confirmExpired
  refine keeps_ite ?_ hstopped
  split
  · exact keeps_modDoor _ _ hstopped
  · exact keeps_queueTrace _ hstopped

theorem keeps_openLimitExpired (n : CompNo) (h : Keeps taking quoting a s) : Keeps taking quoting a (openLimitExpired n s) := by
  refine keeps_onComp _ (fun h => ?_) (keeps_modDoor _ _ h)
  split
  · exact h
  · split
    · exact keeps_depositBack _ _ _ h
    · exact keeps_depositBack _ _ _ h
    · exact keeps_collectionUntaken _ _ _ h
    · exact keeps_sweepKept _ _ h
    · exact h

theorem keeps_lockFault (n : CompNo) (c : TraceClass) (h : Keeps taking quoting a s) : Keeps taking quoting a (lockFault n c s) := by
  unfold lockFault
  dsimp only
  split
  · exact keeps_count _ h
  · split
    · exact keeps_depositLockFault _ _ _ (keeps_count _ h)
    · exact keeps_depositLockFault _ _ _ (keeps_count _ h)
    · exact keeps_collectionLockFault _ _ _ (keeps_count _ h)
    · exact keeps_sweepLockFault _ _ _ (keeps_count _ h)
    · exact keeps_count _ h

theorem keeps_retry (n : CompNo) (b : Bool) (h : Keeps taking quoting a s) : Keeps taking quoting a (retry n b s) :=
  keeps_requestGrant _ _ (keeps_ite (keeps_modComp _ _ h) h)

theorem keeps_traceAction (n : CompNo) (c : TraceClass) (h : Keeps taking quoting a s) : Keeps taking quoting a (traceAction n c s) := by
  have hunmoved : Keeps taking quoting a (if s.doors.records[n].pulseEnd = .cut then retry n false s
      else if s.comps[n].attempts = 2 then lockFault n c s else retry n true s) :=
    keeps_ite (keeps_retry _ _ h) (keeps_ite (keeps_lockFault _ _ h) (keeps_retry _ _ h))
  refine keeps_ite (keeps_stopJobTimers _ (keeps_modComp _ _ h)) ?_
  cases c with
  | boltMoved => exact h
  | coilFault => exact keeps_lockFault _ _ h
  | boltStuck => exact hunmoved
  | boltSlow => exact hunmoved

theorem keeps_actOnTrace (n : CompNo) (c : TraceClass) (h : Keeps taking quoting a s) : Keeps taking quoting a (actOnTrace n c s) :=
  keeps_ite (keeps_ite (keeps_onComp _ (keeps_traceAction _ _) (keeps_modDoor _ _ h)) (keeps_modDoor _ _ h)) h

theorem keeps_traceAnswer (n : CompNo) (c : Col) (l : List PositionTrace) (h : Keeps taking quoting a s) :
    Keeps taking quoting a (traceAnswer n c l s) := by
  unfold traceAnswer
  split
  · exact h
  · exact keeps_actOnTrace _ _ (keeps_setLastTrace _ _ h)

theorem keeps_traceBusy (n : CompNo) (c : Col) (h : Keeps taking quoting a s) : Keeps taking quoting a (traceBusy n c s) :=
  keeps_ite h (keeps_ite (keeps_actOnTrace _ _ h) (keeps_enqueueOp _ (keeps_modDoor _ _ h)))

theorem keeps_traceOwed (n : CompNo) (h : Keeps taking quoting a s) : Keeps taking quoting a (traceOwed n s) := keeps_ite (keeps_modDoor _ _ h) h

theorem keeps_handClose (n : CompNo) (o : Occupancy) (m : Minute) (h : Keeps taking quoting a s) : Keeps taking quoting a (handClose n o m s) := by
  unfold handClose
  dsimp only
  split
  · exact keeps_modDoor _ _ h
  · split
    · exact keeps_depositClose _ _ _ _ (keeps_modDoor _ _ h)
    · exact keeps_depositClose _ _ _ _ (keeps_modDoor _ _ h)
    · exact keeps_collectionClose _ _ _ (keeps_modDoor _ _ h)
    · exact keeps_sweepClose _ _ _ (keeps_modDoor _ _ h)
    · exact keeps_modDoor _ _ h

theorem keeps_close (n : CompNo) (o : Occupancy) (m : Minute) (h : Keeps taking quoting a s) : Keeps taking quoting a (close n o m s) := by
  refine keeps_ite (keeps_stopJobTimers _ (keeps_modComp _ _ h)) ?_
  cases o with
  | empty => exact keeps_handClose _ _ _ h
  | filled => exact keeps_handClose _ _ _ h
  | uncertain => exact keeps_modDoor _ _ h

theorem keeps_senseDoor (n : CompNo) (r : PositionReading) (h : Keeps taking quoting a s) : Keeps taking quoting a (senseDoor n r s) := by
  unfold senseDoor ajarAtPoll
  split <;> exact keeps_modDoor _ _ (keeps_modComp _ _ h)

theorem keeps_openedEvent (n : CompNo) (h : Keeps taking quoting a s) : Keeps taking quoting a (openedEvent n s) := by
  unfold openedEvent
  split
  · exact keeps_expectedOpening _ h
  · exact keeps_expectedOpening _ h
  · exact h
  · split
    · exact keeps_raiseTamper _ _ (keeps_causeBar _ _ h)
    · exact keeps_raiseTamper _ _ (keeps_leaveFree _ h)
    · exact h

theorem keeps_lateOpening (n : CompNo) (h : Keeps taking quoting a s) : Keeps taking quoting a (lateOpening n s) := by
  unfold lateOpening
  split
  · exact keeps_expectedOpening _ h
  · exact keeps_expectedOpening _ h
  · exact h
  · exact h

theorem keeps_openingOf (n : CompNo) (d : DoorState) (r : PositionReading) (h : Keeps taking quoting a s) :
    Keeps taking quoting a (openingOf n d r s) := by
  unfold openingOf
  split
  · exact keeps_openedEvent _ h
  · exact keeps_lateOpening _ h
  · exact keeps_ite (keeps_openedEvent _ h) h
  · exact h

theorem keeps_openingAtPoll (x : PolledDoor) (h : Keeps taking quoting a s) : Keeps taking quoting a (openingAtPoll x s) := by
  unfold openingAtPoll
  split
  · exact keeps_modComp _ _ (keeps_setResumed _ _ h)
  · exact h
  · exact keeps_modDoor _ _ h
  · exact h
  · exact keeps_openingOf _ _ _ h

theorem keeps_takeOpening (x : PolledDoor) (h : Keeps taking quoting a s) : Keeps taking quoting a (takeOpening s x) :=
  keeps_openingAtPoll _ (keeps_senseDoor _ _ h)

theorem keeps_repoll (n : CompNo) (c : HeldClose) (r : PositionReading) (m : Minute) (h : Keeps taking quoting a s) :
    Keeps taking quoting a (repoll n c r m s) := by
  refine keeps_ite (keeps_close _ _ _ (keeps_modDoor _ _ h)) ?_
  split
  · exact keeps_ite (keeps_modDoor _ _ h) (keeps_ite (keeps_modDoor _ _ h) (keeps_handClose _ _ _ h))
  · exact keeps_handClose _ _ _ h

theorem keeps_closedEvent (n : CompNo) (o : Occupancy) (m : Minute) (h : Keeps taking quoting a s) :
    Keeps taking quoting a (closedEvent n o m s) := by
  unfold closedEvent
  split
  · exact keeps_close _ _ _ h
  · exact h
  · exact h
  · exact keeps_joinFree _ h

theorem keeps_closingOf (n : CompNo) (d : DoorState) (r : PositionReading) (m : Minute) (h : Keeps taking quoting a s) :
    Keeps taking quoting a (closingOf n d r m s) := by
  unfold closingOf
  split
  · exact keeps_closedEvent _ _ _ h
  · exact keeps_ite (keeps_closedEvent _ _ _ h) h
  · exact h

theorem keeps_resumedPoll (n : CompNo) (d : DoorState) (r : PositionReading) (m : Minute) (h : Keeps taking quoting a s) :
    Keeps taking quoting a (resumedPoll n d r m s) := by
  have hresumed : Keeps taking quoting a (setResumed n false s) := keeps_setResumed _ _ h
  unfold resumedPoll
  refine keeps_ite (keeps_close _ _ _ (keeps_modComp _ _ hresumed)) ?_
  split
  · exact keeps_requestGrant _ _ (keeps_modComp _ _ hresumed)
  · split
    · exact keeps_sweepKept _ _ hresumed
    · exact hresumed
  · exact hresumed

theorem keeps_driverFault (n : CompNo) (h : Keeps taking quoting a s) : Keeps taking quoting a (driverFault n s) :=
  keeps_ite (keeps_confirmExpired _ h) h

theorem keeps_closingAtPoll (m : Minute) (x : PolledDoor) (h : Keeps taking quoting a s) : Keeps taking quoting a (closingAtPoll m x s) := by
  unfold closingAtPoll
  split
  · exact keeps_resumedPoll _ _ _ _ h
  · exact keeps_repoll _ _ _ _ h
  · exact keeps_closingOf _ _ _ _ h
  · exact h

theorem keeps_takeClosing (m : Minute) (x : PolledDoor) (h : Keeps taking quoting a s) : Keeps taking quoting a (takeClosing m s x) :=
  keeps_ite (keeps_driverFault _ (keeps_closingAtPoll _ _ h)) (keeps_closingAtPoll _ _ h)

theorem keeps_takeReadings (c : Col) (l : List PositionReading) (h : Keeps taking quoting a s) : Keeps taking quoting a (takeReadings c l s) :=
  keeps_foldl (fun _ h => keeps_takeClosing _ _ h) _ (keeps_foldl (fun _ h => keeps_takeOpening _ h) _
    (keeps_foldl (fun _ h => keeps_verifyComp _ h) _ h))

theorem keeps_pollAnswer (c : Col) (l : List PositionReading) (h : Keeps taking quoting a s) : Keeps taking quoting a (pollAnswer c l s) := by
  have htaken : Keeps taking quoting a (takeReadings c l (setFirstPoll c false s)) := keeps_takeReadings _ _ (keeps_setFirstPoll _ _ h)
  have howed : ∀ {s} n, Keeps taking quoting a s → Keeps taking quoting a (if columnOf n s = some c then requeueOwed n s else s) := fun _ h =>
    keeps_ite (keeps_ite (keeps_queueTrace _ h) h) h
  exact keeps_ite (keeps_foldl howed _ htaken) htaken

theorem keeps_columnAway (c : Col) (h : Keeps taking quoting a s) : Keeps taking quoting a (columnAway c s) := keeps_setFirstPoll _ _ h

/-! ### The column bus (chapter 7) -/

theorem keeps_modColumns (f : Col → ColumnEntry → ColumnEntry) (h : Keeps taking quoting a s) : Keeps taking quoting a (modColumns f s) :=
  keeps_foldl (fun _ h => keeps_modColumn _ _ h) _ h

theorem keeps_returnGrant (n : CompNo) (b : Bool) (h : Keeps taking quoting a s) : Keeps taking quoting a (returnGrant n b s) :=
  keeps_lookOver (keeps_ite (keeps_onComp _ (keeps_modComp _ _) (keeps_takeBack _ h)) (keeps_takeBack _ h))

theorem keeps_disposeOp (op : Op) (h : Keeps taking quoting a s) : Keeps taking quoting a (disposeOp op s) := by
  unfold disposeOp
  split
  · exact keeps_answerRelay _ _ h
  · exact keeps_traceOwed _ h
  · exact keeps_takeBack _ h
  · exact h

theorem keeps_pollOver (c : Col) (h : Keeps taking quoting a s) : Keeps taking quoting a (pollOver c s) :=
  keeps_of_watched (s := modColumn c (fun e => { e with pollDue := false }) s) (keeps_modColumn _ _ h) rfl

theorem keeps_columnAbsent (c : Col) (o : Option Op) (h : Keeps taking quoting a s) : Keeps taking quoting a (columnAbsent c o s) :=
  keeps_lookOver (keeps_pollOver _ (keeps_bus id (keeps_foldl (fun _ h => keeps_disposeOp _ h) _
    (keeps_dropOps _ (keeps_columnAway _ (keeps_raiseAbsent _ (keeps_modColumn _ _ h)))))))

theorem keeps_probeOver (c : Col) (b : Bool) (h : Keeps taking quoting a s) : Keeps taking quoting a (probeOver c b s) := by
  have hprobed : Keeps taking quoting a (modColumn c (fun e => { e with probeDue := false }) s) := keeps_modColumn _ _ h
  unfold probeOver
  split
  · exact hprobed
  · refine keeps_ite (keeps_ite ?_ (keeps_bus id hprobed)) (keeps_ite h hprobed)
    split
    · exact keeps_placeReply _ (keeps_bus id hprobed)
    · exact keeps_bus id hprobed

theorem keeps_mapCheck (c : Col) (h : Keeps taking quoting a s) : Keeps taking quoting a (mapCheck c s) := by
  have hbarred : Keeps taking quoting a (((List.finRange 240).filter (fun n => mismatched n c s)).foldl
      (fun s n => onComp n (causeBar n .mapMismatch) s) s) :=
    keeps_foldl (fun _ h => keeps_onComp _ (keeps_causeBar _ _) h) _ h
  exact keeps_ite (keeps_raise _ hbarred) hbarred

theorem keeps_probeAnswer (c : Col) (b : Byte) (h : Keeps taking quoting a s) : Keeps taking quoting a (probeAnswer c b s) := by
  have hmap := keeps_mapCheck c (keeps_modColumn c
    (fun e => { e with state := .present, count := clampCount b, pollDue := true }) h)
  exact keeps_lookOver (keeps_bus id (keeps_ite (keeps_raise _ hmap) hmap))

theorem keeps_probeNoAnswer (c : Col) (h : Keeps taking quoting a s) : Keeps taking quoting a (probeNoAnswer c s) := by
  unfold probeNoAnswer
  split
  · exact h
  · exact keeps_ite (keeps_raiseAbsent _ (keeps_modColumn _ _ h)) (keeps_modColumn _ _ h)
  · exact keeps_columnAbsent _ _ h
  · exact keeps_columnAbsent _ _ h

theorem keeps_noAnswerFailure (x : Exchange) (h : Keeps taking quoting a s) : Keeps taking quoting a (noAnswerFailure x s) := by
  unfold noAnswerFailure
  split
  · exact h
  · exact keeps_probeOver _ _ (keeps_probeNoAnswer _ h)
  · split
    · exact h
    · split
      · exact keeps_columnAbsent _ _ h
      · exact keeps_columnAbsent _ _ h
      · exact keeps_lookOver (keeps_disposeOp _ h)
      · exact keeps_lookOver (keeps_disposeOp _ h)

theorem keeps_busyFailure (x : Exchange) (h : Keeps taking quoting a s) : Keeps taking quoting a (busyFailure x s) := by
  unfold busyFailure
  split
  · exact h
  · exact keeps_returnGrant _ _ h
  · exact keeps_pollOver _ h
  · exact keeps_traceBusy _ _ h
  · exact keeps_answerRelay _ _ h
  · exact keeps_probeOver _ _ h

theorem keeps_attemptAgain (x : Exchange) (w : RetryWait) (h : Keeps taking quoting a s) : Keeps taking quoting a (attemptAgain x w s) := by
  have hfree : Keeps taking quoting a (setUse .free s) := keeps_setUse _ h
  unfold attemptAgain
  dsimp only
  split
  · exact keeps_returnGrant _ _ hfree
  · exact keeps_setRetry _ hfree

theorem keeps_silent (x : Exchange) (h : Keeps taking quoting a s) : Keeps taking quoting a (silent x s) :=
  keeps_ite (keeps_attemptAgain _ _ h) (keeps_noAnswerFailure _ (keeps_setUse _ h))

theorem keeps_heardNothing (x : Exchange) (h : Keeps taking quoting a s) : Keeps taking quoting a (heardNothing x s) := by
  unfold heardNothing
  split
  · exact keeps_silent _ (keeps_count _ h)
  · exact h

theorem keeps_stalled (x : Exchange) (h : Keeps taking quoting a s) : Keeps taking quoting a (stalled x s) := by
  unfold stalled
  split
  · exact keeps_silent _ (keeps_count _ h)
  · exact h

theorem keeps_busyHeard (x : Exchange) (h : Keeps taking quoting a s) : Keeps taking quoting a (busyHeard x s) := by
  unfold busyHeard
  split
  · exact h
  · exact keeps_ite (keeps_attemptAgain _ _ (keeps_count _ h))
      (keeps_busyFailure _ (keeps_setUse _ (keeps_count _ h)))

theorem keeps_wakeHeard (x : Exchange) (h : Keeps taking quoting a s) : Keeps taking quoting a (wakeHeard x s) := by
  unfold wakeHeard
  split
  · exact h
  · exact keeps_ite (keeps_silent _ (keeps_count _ h)) (keeps_attemptAgain _ _ (keeps_count _ h))

theorem keeps_answered (b : Byte) {f : Exchange → Col → State → State} (hf : ∀ x c, Keeps taking quoting a s → Keeps taking quoting a (f x c s))
    (h : Keeps taking quoting a s) : Keeps taking quoting a (answered b f s) := by
  unfold answered
  split
  · exact h
  · exact keeps_ite (hf _ _ h) (keeps_heardNothing _ h)

theorem keeps_acceptPoll (l : List PositionReading) (x : Exchange) (c : Col) (h : Keeps taking quoting a s) :
    Keeps taking quoting a (acceptPoll l x c s) := by
  unfold acceptPoll
  split
  · exact keeps_pollOver _ (keeps_ite (keeps_pollAnswer _ _ (keeps_setUse _ h)) (keeps_setUse _ h))
  · exact h

theorem keeps_acceptProbe (b : Byte) (x : Exchange) (c : Col) (h : Keeps taking quoting a s) : Keeps taking quoting a (acceptProbe b x c s) := by
  unfold acceptProbe
  split
  · exact keeps_probeOver _ _ (keeps_probeAnswer _ _ (keeps_setUse _ h))
  · exact h

theorem keeps_acceptPulse (x : Exchange) (c : Col) (h : Keeps taking quoting a s) : Keeps taking quoting a (acceptPulse x c s) := by
  unfold acceptPulse
  split
  · exact keeps_deliver _ _ (keeps_setUse _ h)
  · exact h

theorem keeps_acceptTrace (l : List PositionTrace) (x : Exchange) (c : Col) (h : Keeps taking quoting a s) :
    Keeps taking quoting a (acceptTrace l x c s) := by
  unfold acceptTrace
  split
  · exact keeps_traceAnswer _ _ _ (keeps_setUse _ h)
  · exact h

theorem keeps_acceptRelay (x : Exchange) (c : Col) (h : Keeps taking quoting a s) : Keeps taking quoting a (acceptRelay x c s) := by
  unfold acceptRelay
  split
  · exact keeps_answerRelay _ _ (keeps_setUse _ h)
  · exact h

theorem keeps_markPolls (h : Keeps taking quoting a s) : Keeps taking quoting a (markPolls s) := keeps_modColumns _ h
theorem keeps_startRound (h : Keeps taking quoting a s) : Keeps taking quoting a (startRound s) := keeps_bus id (keeps_markPolls h)
theorem keeps_markProbes (h : Keeps taking quoting a s) : Keeps taking quoting a (markProbes s) := keeps_bus id (keeps_modColumns _ h)

theorem keeps_queuePoll (h : Keeps taking quoting a s) : Keeps taking quoting a (queuePoll s) := by
  refine keeps_ite h ?_
  split
  · exact h
  · exact keeps_enqueueOp _ (keeps_bus id h)

theorem keeps_queueProbe (h : Keeps taking quoting a s) : Keeps taking quoting a (queueProbe s) := by
  refine keeps_ite h ?_
  split
  · exact h
  · exact keeps_enqueueOp _ h

theorem keeps_startEnumeration (r : Option (Byte × Byte)) (h : Keeps taking quoting a s) : Keeps taking quoting a (startEnumeration r s) :=
  keeps_bus id (keeps_modColumns _ h)

theorem keeps_chooseBus (h : Keeps taking quoting a s) : Keeps taking quoting a (chooseBus s) := by
  unfold chooseBus
  split
  · exact h
  · exact h
  · split
    · exact keeps_setUse _ (keeps_takeOp _ h)
    · split
      · exact keeps_ite (keeps_setUse _ (keeps_setRetry _ h)) h
      · split
        · exact keeps_setUse _ (keeps_takeOp _ h)
        · exact h

theorem keeps_cutPulses (h : Keeps taking quoting a s) : Keeps taking quoting a (cutPulses s) :=
  keeps_lookOver (keeps_foldl (fun _ h => keeps_notePulseEnd _ _ (keeps_leaveCommitted _ h)) _ h)

theorem keeps_sleepColumns (h : Keeps taking quoting a s) : Keeps taking quoting a (sleepColumns s) :=
  keeps_foldl (fun _ h => keeps_columnAway _ h) _ (keeps_modColumns _ (keeps_bus id
    (keeps_foldl (fun _ h => keeps_answerRelay _ _ h) _ (keeps_dropOps _ h))))

/-! ### Dormancy and the hold (11.5, 7.8) -/

/-- The dormancy state is not watched. -/
theorem keeps_dormancy (d : Dormancy) (h : Keeps taking quoting a s) : Keeps taking quoting a { s with dormancy := d } := keeps_of_watched h rfl

theorem keeps_restartIdle (h : Keeps taking quoting a s) : Keeps taking quoting a (restartIdle s) := keeps_dormancy _ h

theorem keeps_wakeCause (h : Keeps taking quoting a s) : Keeps taking quoting a (wakeCause s) :=
  keeps_ite (keeps_enqueueBroadcast _ (keeps_dormancy _ h)) h

theorem keeps_wakeSettled (h : Keeps taking quoting a s) : Keeps taking quoting a (wakeSettled s) :=
  keeps_lookOver (keeps_dormancy _ (keeps_markPolls (keeps_modColumns _ h)))

theorem keeps_endWakeRound (h : Keeps taking quoting a s) : Keeps taking quoting a (endWakeRound s) := by
  unfold endWakeRound
  split
  · exact keeps_restartIdle (keeps_of_watched h rfl)
  · exact h

theorem keeps_recallPulses (h : Keeps taking quoting a s) : Keeps taking quoting a (recallPulses s) := by
  unfold recallPulses
  refine keeps_foldl (fun _ h => keeps_takeBack _ h) _ ?_
  have hdropped : Keeps taking quoting a (if (s.bus.retry.bind (fun r => pulseComp r.exchange.op)).toList = [] then
      dropOps isPulse s else setRetry none (dropOps isPulse s)) :=
    keeps_ite (keeps_dropOps _ h) (keeps_setRetry _ (keeps_dropOps _ h))
  split
  · exact keeps_ite (keeps_setUse _ hdropped) hdropped
  · exact hdropped

theorem keeps_holdActive (b : Bool) (h : Keeps taking quoting a s) :
    Keeps taking quoting a { s with arbiter := { s.arbiter with holdActive := b } } := keeps_of_watched h rfl

theorem keeps_holdOnset (x : HoldSource) (h : Keeps taking quoting a s) : Keeps taking quoting a (holdOnset x s) :=
  keeps_stopSweep _ (keeps_raiseHoldOn _ (keeps_enqueueBroadcast _ (keeps_recallPulses (keeps_holdActive _ h))))

theorem keeps_holdRelease (x : HoldSource) (h : Keeps taking quoting a s) : Keeps taking quoting a (holdRelease x s) :=
  keeps_lookOver (keeps_raise _ (keeps_holdActive _ h))

theorem keeps_judgeHold (x : HoldSource) (h : Keeps taking quoting a s) : Keeps taking quoting a (judgeHold x s) := by
  unfold judgeHold
  split
  · exact keeps_holdOnset _ h
  · exact keeps_holdRelease _ h
  · exact h

theorem keeps_senseHold (b : Bool) (h : Keeps taking quoting a s) : Keeps taking quoting a (senseHold b s) :=
  keeps_ite h (keeps_judgeHold _ (keeps_wakeCause (keeps_of_watched h rfl)))

theorem keeps_requestHold (b : Bool) (h : Keeps taking quoting a s) : Keeps taking quoting a (requestHold b s) :=
  keeps_ite h (keeps_judgeHold _ (keeps_wakeCause (keeps_of_watched h rfl)))

end Sys2Proof.Machine

/-! PROOFS. What the requests of the credential unit, the parcel store, the engines, the compartments and the columns
keep. -/

namespace Sys2Proof.Machine

variable {taking quoting : Prop} {a s t : State}

/-! ### The forms of the requests (chapter 2, R213, R218) -/

/-- Whatever holds of a state holds of what the function makes of it. -/
abbrev Keeping (taking quoting : Prop) (a : State) (f : State → State) : Prop := ∀ {s : State}, Keeps taking quoting a s → Keeps taking quoting a (f s)

theorem keeps_fromOffice (hd : Header) {f : State → State} (hf : Keeping taking quoting a f) (h : Keeps taking quoting a s) :
    Keeps taking quoting a (fromOffice hd f s) := by
  unfold fromOffice
  split
  · exact hf h
  · exact keeps_refuse _ _ h

theorem keeps_fromTerminal (hd : Header) {f : Term → State → State} (hf : ∀ t, Keeping taking quoting a (f t)) (h : Keeps taking quoting a s) :
    Keeps taking quoting a (fromTerminal hd f s) := by
  unfold fromTerminal
  split
  · exact hf _ h
  · exact keeps_refuse _ _ h

theorem keeps_namingComp (hd : Header) (b : Byte) {f : CompNo → State → State} (hf : ∀ n, Keeping taking quoting a (f n))
    (h : Keeps taking quoting a s) : Keeps taking quoting a (namingComp hd b f s) := by
  unfold namingComp
  split
  · exact hf _ h
  · exact keeps_refuse _ _ h

theorem keeps_readingComp (hd : Header) (n : CompNo) {f : State → State} (hf : Keeping taking quoting a f) (h : Keeps taking quoting a s) :
    Keeps taking quoting a (readingComp hd n f s) := keeps_ite (hf h) (keeps_refuse _ _ (keeps_compartmentFailure _ h))

theorem keeps_readingRecord (hd : Header) (k : Slot) {f : State → State} (hf : Keeping taking quoting a f) (h : Keeps taking quoting a s) :
    Keeps taking quoting a (readingRecord hd k f s) := keeps_ite (hf h) (keeps_refuse _ _ (keeps_quarantine _ h))

theorem keeps_namingRecord (hd : Header) (r : Reference) {f : Slot → Parcel → State → State}
    (hf : ∀ k p, Keeping taking quoting a (f k p)) (h : Keeps taking quoting a s) : Keeps taking quoting a (namingRecord hd r f s) := by
  unfold namingRecord
  split
  · exact keeps_refuse _ _ h
  · refine keeps_readingRecord _ _ (fun h => ?_) h
    split
    · exact hf _ _ h
    · exact keeps_refuse _ _ h

theorem keeps_verifyWays (l : List Way) (h : Keeps taking quoting a s) : Keeps taking quoting a (verifyWays l s) :=
  keeps_foldl (fun _ h => keeps_ite h (keeps_credentialFailure _ h)) _ h

theorem keeps_resetFailures (t : Term) (h : Keeps taking quoting a s) : Keeps taking quoting a (resetFailures t s) := keeps_modTerm _ _ h

theorem keeps_beginLockout (hd : Header) (t : Term) (h : Keeps taking quoting a s) : Keeps taking quoting a (beginLockout hd t s) :=
  keeps_refuseLockedOut _ _ (keeps_count _ (keeps_modTerm _ _ h))

theorem keeps_failedLookup (hd : Header) (t : Term) (h : Keeps taking quoting a s) : Keeps taking quoting a (failedLookup hd t s) :=
  keeps_ite (keeps_refuseNoMatch _ _ (keeps_modTerm _ _ (keeps_count _ h))) (keeps_beginLockout _ _ (keeps_count _ h))

theorem keeps_unlessLockedOut (hd : Header) (t : Term) {f : State → State} (hf : Keeping taking quoting a f) (h : Keeps taking quoting a s) :
    Keeps taking quoting a (unlessLockedOut hd t f s) := keeps_ite (keeps_refuseLockedOut _ _ h) (hf h)

theorem keeps_presenting (hd : Header) (t : Term) (c : CodeValue) (needs : CredKind → Bool)
    {f : CredKind → State → State} (hf : ∀ k, Keeping taking quoting a (f k)) (h : Keeps taking quoting a s) :
    Keeps taking quoting a (presenting hd t c needs f s) := by
  refine keeps_ite ?_ (keeps_refuse _ _ h)
  unfold lookingUp
  dsimp only
  split
  · exact hf _ (keeps_verifyWays _ h)
  · exact keeps_failedLookup _ _ (keeps_verifyWays _ h)
  · exact keeps_refuse _ _ (keeps_verifyWays _ h)

/-! ### The credential unit's requests (chapter 2) -/

theorem keeps_signOnFitting (hd : Header) (t : Term) (k : CredKind) (h : Keeps taking quoting a s) :
    Keeps taking quoting a (signOnFitting hd t k s) := by
  have hreset : Keeps taking quoting a (resetFailures t s) := keeps_resetFailures _ h
  cases k with
  | courier i => exact keeps_ite (keeps_refuse _ _ hreset) (keeps_answer _ _ (keeps_modTerm _ _ hreset))
  | pickup k => exact hreset
  | returnAuth k => exact hreset

theorem keeps_takeSignOn (hd : Header) (c : CodeValue) (h : Keeps taking quoting a s) : Keeps taking quoting a (takeSignOn hd c s) :=
  keeps_fromTerminal _ (fun _ _ h => keeps_ite (keeps_unlessLockedOut _ _ (keeps_presenting _ _ _ _
    (fun _ _ h => keeps_signOnFitting _ _ _ h)) h) (keeps_refuse _ _ h)) h

theorem keeps_takeSignOff (hd : Header) (h : Keeps taking quoting a s) : Keeps taking quoting a (takeSignOff hd s) := by
  refine keeps_fromTerminal _ (fun t s h => ?_) h
  split
  · exact keeps_refuse _ _ h
  · exact keeps_ite (keeps_refuse _ _ h) (keeps_answer _ _ (keeps_signOff _ h))

theorem keeps_insertCourier (hd : Header) (c : CodeValue) (r : Route) (d w : Bool) (h : Keeps taking quoting a s) :
    Keeps taking quoting a (insertCourier hd c r d w s) := by
  unfold insertCourier
  split
  · exact keeps_refuse _ _ h
  · exact keeps_refuse _ _ h
  · exact keeps_refuse _ _ h
  · exact keeps_answer _ _ (keeps_setWay _ _ h)

theorem keeps_takeEnrol (hd : Header) (c : CodeValue) (r d w : Byte) (h : Keeps taking quoting a s) :
    Keeps taking quoting a (takeEnrol hd c r d w s) := by
  refine keeps_fromOffice _ (fun {s} h => ?_) h
  split
  · exact keeps_insertCourier _ _ _ _ _ (keeps_verifyWays _ h)
  · exact keeps_refuse _ _ h

theorem keeps_removeCourierFrom (i : CourierNo) (h : Keeps taking quoting a s) : Keeps taking quoting a (removeCourierFrom i s) := by
  refine keeps_foldl (fun t h => ?_) _ h
  split
  · exact keeps_ite (keeps_courierRemoved _ h) h
  · exact h

theorem keeps_takeRevoke (hd : Header) (c : Byte) (h : Keeps taking quoting a s) : Keeps taking quoting a (takeRevoke hd c s) := by
  refine keeps_fromOffice _ (fun {s} h => ?_) h
  split
  · exact keeps_refuse _ _ h
  · split
    · exact keeps_refuse _ _ h
    · exact keeps_answer _ _ (keeps_removeCourierFrom _ (keeps_freeWay _ h))

/-! ### The parcel store's requests (3.2) -/

theorem keeps_verifyRecords (h : Keeps taking quoting a s) : Keeps taking quoting a (verifyRecords s) :=
  keeps_foldl (fun _ h => keeps_ite h (keeps_quarantine _ h)) _ h

theorem keeps_freeSlots (l : List Slot) (h : Keeps taking quoting a s) : Keeps taking quoting a { s with parcels := { s.parcels with free := l } } :=
  keeps_of_watched h rfl

theorem keeps_writeAdvice (v : Advice) (k : Slot) (l : List Slot) (w : Way) (h : Keeps taking quoting a s) :
    Keeps taking quoting a (writeAdvice v k l w s) := keeps_setParcel _ _ (keeps_freeSlots _ (keeps_setWay _ _ h))

theorem keeps_insertAdvice (hd : Header) (v : Advice) (h : Keeps taking quoting a s) : Keeps taking quoting a (insertAdvice hd v s) := by
  unfold insertAdvice
  split
  · exact keeps_refuse _ _ h
  · have hverified := keeps_verifyWays (bucketWays v.code) h
    dsimp only
    split
    · exact keeps_refuse _ _ hverified
    · exact keeps_refuse _ _ hverified
    · exact keeps_answer _ _ (keeps_writeAdvice _ _ _ _ hverified)

theorem keeps_takeAdvise (hd : Header) (f : AdviceFields) (h : Keeps taking quoting a s) : Keeps taking quoting a (takeAdvise hd f s) := by
  refine keeps_fromOffice _ (fun {s} h => ?_) h
  split
  · exact keeps_refuse _ _ h
  · exact keeps_ite (keeps_refuse _ _ (keeps_verifyRecords h)) (keeps_insertAdvice _ _ (keeps_verifyRecords h))

theorem keeps_takeWithdraw (hd : Header) (r : Reference) (h : Keeps taking quoting a s) : Keeps taking quoting a (takeWithdraw hd r s) :=
  keeps_fromOffice _ (keeps_namingRecord _ _ (fun _ _ _ h =>
    keeps_ite (keeps_answer _ _ (keeps_retireRecord _ h)) (keeps_refuse _ _ h))) h

theorem keeps_replaceCode (hd : Header) (k : Slot) (p : Parcel) (c : CodeValue) (h : Keeps taking quoting a s) :
    Keeps taking quoting a (replaceCode hd k p c s) := by
  have hverified := keeps_verifyWays (bucketWays c) h
  unfold replaceCode
  dsimp only
  split
  · exact keeps_refuse _ _ hverified
  · exact keeps_refuse _ _ hverified
  · exact keeps_answer _ _ (keeps_setWay _ _ (keeps_removeCredentialOf _ hverified))

theorem keeps_takeReissue (hd : Header) (r : Reference) (c : CodeValue) (h : Keeps taking quoting a s) :
    Keeps taking quoting a (takeReissue hd r c s) :=
  keeps_fromOffice _ (fun h => keeps_ite (keeps_namingRecord _ _ (fun _ _ _ h =>
    keeps_ite (keeps_refuse _ _ h) (keeps_replaceCode _ _ _ _ h)) h) (keeps_refuse _ _ h)) h

theorem keeps_takeStatusCompartment (hd : Header) (b : Byte) (h : Keeps taking quoting a s) : Keeps taking quoting a (takeStatusCompartment hd b s) :=
  keeps_namingComp _ _ (fun _ _ h => keeps_readingComp _ _ (fun h => keeps_answer _ _ h) h) h

theorem keeps_statusOffice (hd : Header) (k : Slot) (p : Parcel) (h : Keeps taking quoting a s) : Keeps taking quoting a (statusOffice hd k p s) := by
  have hbad := keeps_quarantine k h
  refine keeps_ite (keeps_answer _ _ h) (keeps_ite ?_ (keeps_refuse _ _ hbad))
  split
  · exact keeps_answer _ _ hbad
  · exact keeps_refuse _ _ hbad

theorem keeps_statusTerminal (hd : Header) (t : Term) (k : Slot) (h : Keeps taking quoting a s) :
    Keeps taking quoting a (statusTerminal hd t k s) := by
  refine keeps_ite (keeps_readingRecord _ _ (fun {s} h => ?_) h) (keeps_refuse _ _ h)
  split
  · exact keeps_ite (keeps_refuse _ _ h) (keeps_answer _ _ h)
  · exact keeps_refuse _ _ h

theorem keeps_takeStatusParcel (hd : Header) (r : Reference) (h : Keeps taking quoting a s) : Keeps taking quoting a (takeStatusParcel hd r s) := by
  unfold takeStatusParcel
  split
  · exact keeps_refuse _ _ h
  · split
    · exact keeps_statusTerminal _ _ _ h
    · split
      · exact keeps_statusOffice _ _ _ h
      · exact keeps_refuse _ _ h

/-- The clock is not watched. -/
theorem keeps_time (b : TimeBase) (h : Keeps taking quoting a s) : Keeps taking quoting a { s with time := b } := keeps_of_watched h rfl

theorem keeps_takeTimeSet (hd : Header) (m : Minute) (b : Byte) (h : Keeps taking quoting a s) : Keeps taking quoting a (takeTimeSet hd m b s) := by
  refine keeps_fromOffice _ (fun {s} h => ?_) h
  split
  · exact keeps_refuse _ _ h
  · exact keeps_answer _ _ (keeps_time _ h)

/-! ### The deposit engine's requests (3.3) -/

theorem keeps_unlessClockOrHold (hd : Header) {f : State → State} (hf : Keeping taking quoting a f) (h : Keeps taking quoting a s) :
    Keeps taking quoting a (unlessClockOrHold hd f s) := keeps_ite (keeps_refuse _ _ h) (keeps_ite (keeps_refuse _ _ h) (hf h))

theorem keeps_openDeposit (t : Term) (k : Slot) (n : CompNo) (h : Keeps taking quoting a s) : Keeps taking quoting a (openDeposit t k n s) :=
  keeps_requestGrant _ _ (keeps_setMarker _ _ (keeps_setOpenJob _ _ (keeps_takeCompartment _ _ h)))

theorem keeps_allocate (hd : Header) (t : Term) (k : Slot) (p : Parcel) (h : Keeps taking quoting a s) :
    Keeps taking quoting a (allocate hd t k p s) := by
  unfold allocate
  split
  · exact keeps_refuse _ _ h
  · exact keeps_readingComp _ _ (fun h => keeps_answer _ _ (keeps_openDeposit _ _ _ h)) h

theorem keeps_depositOn (hd : Header) (t : Term) (k : Slot) (p : Parcel) (h : Keeps taking quoting a s) :
    Keeps taking quoting a (depositOn hd t k p s) := by
  refine keeps_ite (keeps_refuse _ _ h) ?_
  split
  · exact keeps_allocate _ _ _ _ h
  · exact keeps_refuse _ _ h
  · exact keeps_refuse _ _ h

theorem keeps_takeDeposit (hd : Header) (r : Reference) (h : Keeps taking quoting a s) : Keeps taking quoting a (takeDeposit hd r s) := by
  refine keeps_fromTerminal _ (fun t s h => ?_) h
  dsimp only
  split
  · exact keeps_ite (keeps_refuse _ _ h) (keeps_ite (keeps_refuse _ _ h) (keeps_ite (keeps_refuse _ _ h)
      (keeps_unlessClockOrHold _ (keeps_namingRecord _ _ (fun _ _ _ h => keeps_depositOn _ _ _ _ h)) h)))
  · exact keeps_refuse _ _ h

theorem keeps_returnOn (hd : Header) (t : Term) (k : Slot) (h : Keeps taking quoting a s) : Keeps taking quoting a (returnOn hd t k s) := by
  refine keeps_readingRecord _ _ (fun {s} h => ?_) h
  split
  · exact keeps_refuse _ _ h
  · split
    · exact keeps_allocate _ _ _ _ h
    · exact keeps_refuse _ _ h
    · exact keeps_refuse _ _ h

theorem keeps_customerAt (hd : Header) (t : Term) {f : State → State} (hf : Keeping taking quoting a f) (h : Keeps taking quoting a s) :
    Keeps taking quoting a (customerAt hd t f s) := by
  unfold customerAt
  split
  · exact keeps_refuse _ _ h
  · exact keeps_ite (keeps_refuse _ _ h) (hf h)

theorem keeps_takeReturnDrop (hd : Header) (c : CodeValue) (h : Keeps taking quoting a s) : Keeps taking quoting a (takeReturnDrop hd c s) := by
  refine keeps_fromTerminal _ (fun t s h => keeps_customerAt _ _ (keeps_unlessLockedOut _ _
    (keeps_unlessClockOrHold _ (keeps_presenting _ _ _ _ (fun k s h => ?_)))) h) h
  split
  · exact keeps_returnOn _ _ _ (keeps_resetFailures _ h)
  · exact h

theorem keeps_abandonOn (hd : Header) (m : DepositMarker) (h : Keeps taking quoting a s) : Keeps taking quoting a (abandonOn hd m s) :=
  keeps_ite (keeps_answer _ _ (keeps_depositBack _ _ _ (keeps_withdraw _ h))) (keeps_refuse _ _ h)

theorem keeps_takeAbandon (hd : Header) (h : Keeps taking quoting a s) : Keeps taking quoting a (takeAbandon hd s) := by
  refine keeps_fromTerminal _ (fun t s h => ?_) h
  split
  · exact keeps_refuse _ _ h
  · exact keeps_readingComp _ _ (fun h => keeps_ite
      (keeps_readingRecord _ _ (fun h => keeps_abandonOn _ _ h) h) (keeps_refuse _ _ h)) h

/-! ### The collection engine's requests (chapter 5) -/

theorem keeps_startQuoting (hd : Header) (t : Term) (k : Slot) (h : Keeps taking False a s) : Keeps taking False a (startQuoting hd t k s) :=
  keeps_setCharge (.inr rfl) False.elim (keeps_setContext _ _ (keeps_setOpenJob _ _ (keeps_modParcel _ _ h)))

theorem keeps_collectStored (hd : Header) (t : Term) (k : Slot) (p : Parcel) (h : Keeps taking False a s) :
    Keeps taking False a (collectStored hd t k p s) :=
  keeps_ite (keeps_refuse _ _ (keeps_joinReturnQueue _ _ (keeps_modParcel _ _ h))) (keeps_startQuoting _ _ _ h)

theorem keeps_reopenRelease (hd : Header) (t : Term) (k : Slot) (n : CompNo) (p : Parcel) (h : Keeps taking quoting a s) :
    Keeps taking quoting a (reopenRelease hd t k n p s) :=
  keeps_answer _ _ (keeps_releaseAndAsk _ _ _ _ (keeps_setContext _ _ (keeps_setOpenJob _ _
    (keeps_setReopen _ (keeps_modParcel _ _ h)))))

theorem keeps_collectableComp (hd : Header) (t : Term) (p : Parcel) {f : CompNo → State → State}
    (hf : ∀ n, Keeping taking quoting a (f n)) (h : Keeps taking quoting a s) : Keeps taking quoting a (collectableComp hd t p f s) := by
  have hreset := keeps_resetFailures t h
  unfold collectableComp
  split
  · exact keeps_refuse _ _ h
  · exact keeps_ite (keeps_ite (keeps_refuse _ _ h) (keeps_ite (keeps_refuse _ _ hreset) (hf _ hreset)))
      (keeps_refuse _ _ (keeps_compartmentFailure _ hreset))

theorem keeps_collectOn (hd : Header) (t : Term) (k : Slot) (p : Parcel) (h : Keeps taking False a s) :
    Keeps taking False a (collectOn hd t k p s) := by
  have hrefused : ∀ c, Keeps taking False a (refuse hd c (resetFailures t s)) := fun c => keeps_refuse _ _ (keeps_resetFailures _ h)
  unfold collectOn
  split
  · exact keeps_collectableComp _ _ _ (fun _ _ h => keeps_collectStored _ _ _ _ h) h
  · exact keeps_collectableComp _ _ _ (fun _ _ h => keeps_reopenRelease _ _ _ _ _ h) h
  all_goals exact hrefused _

theorem keeps_collectRecord (hd : Header) (t : Term) (k : Slot) (h : Keeps taking False a s) : Keeps taking False a (collectRecord hd t k s) := by
  have hreset := keeps_resetFailures t h
  refine keeps_ite ?_ (keeps_refuse _ _ (keeps_quarantine _ hreset))
  split
  · exact keeps_collectOn _ _ _ _ h
  · exact keeps_refuse _ _ hreset

theorem keeps_clearVoid (t : Term) (h : Keeps taking quoting a s) : Keeps taking quoting a (clearVoid t s) := by
  unfold clearVoid
  split
  · exact keeps_setContext _ _ h
  · exact h

theorem keeps_unlessClockUnset (hd : Header) {f : State → State} (hf : Keeping taking quoting a f) (h : Keeps taking quoting a s) :
    Keeps taking quoting a (unlessClockUnset hd f s) := keeps_ite (hf h) (keeps_refuse _ _ h)

theorem keeps_takeCollect (hd : Header) (c : CodeValue) (h : Keeps taking False a s) : Keeps taking False a (takeCollect hd c s) := by
  refine keeps_fromTerminal _ (fun t s h => keeps_customerAt _ _ (fun h => keeps_unlessLockedOut _ _
    (keeps_unlessClockUnset _ (keeps_presenting _ _ _ _ (fun k s h => ?_))) (keeps_clearVoid _ h)) h) h
  split
  · exact keeps_collectRecord _ _ _ h
  · exact h

theorem keeps_addTender (hd : Header) (t : Term) (k : Slot) (n : CompNo) (w : Nat) (o v : Amount) (r : BitVec 32)
    (h : Keeps taking quoting a s) : Keeps taking quoting a (addTender hd t k n w o v r s) :=
  keeps_ite (keeps_answer _ _ (keeps_setContext _ _ (keeps_modParcel _ _ h)))
    (keeps_answer _ _ (keeps_settlement _ _ _ _ _ (keeps_modParcel _ _ h)))

theorem keeps_tenderOn (hd : Header) (t : Term) (k : Slot) (p : Parcel) (w v : Nat) (r : BitVec 32) (h : Keeps taking quoting a s) :
    Keeps taking quoting a (tenderOn hd t k p w v r s) := by
  unfold tenderOn
  split
  · exact keeps_readingComp _ _ (fun h => keeps_ite (keeps_refuse _ _ h) (keeps_ite (keeps_refuse _ _ h)
      (keeps_ite (keeps_refuse _ _ h) (keeps_addTender _ _ _ _ _ _ _ _ h)))) h
  · exact keeps_refuse _ _ h

theorem keeps_tenderAt (hd : Header) (t : Term) (v : Nat) (r : BitVec 32) (h : Keeps taking quoting a s) :
    Keeps taking quoting a (tenderAt hd t v r s) := by
  unfold tenderAt
  split
  · exact keeps_refuse _ _ (keeps_setContext _ _ h)
  · exact keeps_refuse _ _ h
  · exact keeps_refuse _ _ h
  · split
    · exact keeps_answer _ _ h
    · exact keeps_refuse _ _ h
  · split
    · exact keeps_answer _ _ h
    · refine keeps_readingRecord _ _ (fun {s} h => ?_) h
      split
      · exact keeps_tenderOn _ _ _ _ _ _ _ h
      · exact keeps_refuse _ _ h

theorem keeps_takeTender (hd : Header) (v : BitVec 24) (r : BitVec 32) (h : Keeps taking quoting a s) : Keeps taking quoting a (takeTender hd v r s) :=
  keeps_fromTerminal _ (fun _ _ h => keeps_ite (keeps_tenderAt _ _ _ _ h) (keeps_refuse _ _ h)) h

theorem keeps_giveUp (t : Term) (k : Slot) (b : Bool) (p : Parcel) (h : Keeps taking quoting a s) : Keeps taking quoting a (giveUp t k b p s) :=
  keeps_setContext _ _ (keeps_endOpenJob _ _ _ (keeps_returnToStored _ _ h))

theorem keeps_discardCharge (k : Slot) (h : Keeps taking quoting a s) : Keeps taking quoting a (discardCharge k s) :=
  keeps_ite (keeps_releasePlace (keeps_dropCharge _ h)) h

theorem keeps_cancelOn (hd : Header) (t : Term) (k : Slot) (e : ParcelState) {f : State → State} (hf : Keeping taking quoting a f)
    (h : Keeps taking quoting a s) : Keeps taking quoting a (cancelOn hd t k e f s) := by
  refine keeps_readingRecord _ _ (fun {s} h => ?_) h
  split
  · exact keeps_ite (keeps_answer _ _ (keeps_giveUp _ _ _ _ (hf h))) (keeps_refuse _ _ h)
  · exact keeps_refuse _ _ h

theorem keeps_takeCancel (hd : Header) (h : Keeps taking quoting a s) : Keeps taking quoting a (takeCancel hd s) := by
  refine keeps_fromTerminal _ (fun t s h => ?_) h
  split
  · exact keeps_refuse _ _ (keeps_setContext _ _ h)
  · exact keeps_cancelOn _ _ _ _ (keeps_discardCharge _) h
  · exact keeps_cancelOn _ _ _ _ id h
  · exact keeps_refuse _ _ h
  · exact keeps_refuse _ _ h

theorem keeps_lapse (t : Term) (h : Keeps taking quoting a s) : Keeps taking quoting a (lapse t s) := by
  unfold lapse
  split
  · exact keeps_onRecord _ _ (fun _ h => keeps_giveUp _ _ _ _ h) h
  · exact h

/-! ### The return engine's requests and visits (chapter 6) -/

theorem keeps_startSweep (hd : Header) (t : Term) (i : CourierInfo) (h : Keeps taking quoting a s) : Keeps taking quoting a (startSweep hd t i s) :=
  keeps_answer _ _ (keeps_walkOn (keeps_setSweep _ h))

theorem keeps_takeSweepStart (hd : Header) (h : Keeps taking quoting a s) : Keeps taking quoting a (takeSweepStart hd s) := by
  refine keeps_fromTerminal _ (fun t s h => ?_) h
  have hrefused : ∀ c, Keeps taking quoting a (refuse hd c s) := fun c => keeps_refuse _ _ h
  dsimp only
  split
  · exact keeps_ite (hrefused _) (keeps_ite (hrefused _) (keeps_ite (hrefused _) (keeps_ite (hrefused _)
      (keeps_ite (hrefused _) (keeps_startSweep _ _ _ h)))))
  · exact hrefused _

theorem keeps_takeSweepStop (hd : Header) (h : Keeps taking quoting a s) : Keeps taking quoting a (takeSweepStop hd s) := by
  refine keeps_fromTerminal _ (fun t s h => ?_) h
  split
  · exact keeps_refuse _ _ h
  · split
    · exact keeps_refuse _ _ h
    · exact keeps_ite (keeps_answer _ _ (keeps_stopSweep _ h)) (keeps_refuse _ _ h)

theorem keeps_barUnlessEmpty (n : CompNo) (h : Keeps taking quoting a s) : Keeps taking quoting a (barUnlessEmpty n s) :=
  keeps_ite (keeps_modComp _ _ h) h

theorem keeps_takeRetire (hd : Header) (r : Reference) (h : Keeps taking quoting a s) : Keeps taking quoting a (takeRetire hd r s) := by
  refine keeps_fromOffice _ (keeps_namingRecord _ _ (fun k p s h =>
    keeps_ite (keeps_answer _ _ (keeps_retireRecord _ ?_)) (keeps_refuse _ _ h))) h
  split
  · exact keeps_barUnlessEmpty _ (keeps_verifyComp _ h)
  · exact h

theorem keeps_boundary (m : Minute) (h : Keeps taking quoting a s) : Keeps taking quoting a (boundary m s) :=
  keeps_ite h (keeps_ite (keeps_setScanner _ h) (keeps_setScanner _ h))

theorem keeps_judgeExpiry (k : Slot) (m : Minute) (h : Keeps taking quoting a s) : Keeps taking quoting a (judgeExpiry k m s) := by
  unfold judgeExpiry
  split
  · exact h
  · exact keeps_ite (keeps_quarantine _ h) (keeps_ite (keeps_joinReturnQueue _ _ (keeps_modParcel _ _ h)) h)

theorem keeps_scanOn (k : Slot) (h : Keeps taking quoting a s) : Keeps taking quoting a (scanOn k s) := by
  unfold scanOn
  dsimp only
  split
  · exact keeps_setScanner _ h
  · exact keeps_ite (keeps_setScanner _ h) (keeps_setScanner _ h)

theorem keeps_scanVisit (h : Keeps taking quoting a s) : Keeps taking quoting a (scanVisit s) :=
  keeps_ite (keeps_scanOn _ (keeps_judgeExpiry _ _ h)) h

/-! ### The compartment manager's requests (1.3, 1.6, 1.7) -/

theorem keeps_barOn (hd : Header) (n : CompNo) (h : Keeps taking quoting a s) : Keeps taking quoting a (barOn hd n s) := by
  unfold barOn
  split
  · exact keeps_refuse _ _ h
  · exact keeps_answer _ _ h
  · exact keeps_answer _ _ (keeps_modComp _ _ (keeps_leaveFree _ h))
  · exact keeps_answer _ _ (keeps_modComp _ _ h)

theorem keeps_takeBar (hd : Header) (b : Byte) (h : Keeps taking quoting a s) : Keeps taking quoting a (takeBar hd b s) :=
  keeps_fromOffice _ (keeps_namingComp _ _ (fun _ _ h => keeps_readingComp _ _ (fun h => keeps_barOn _ _ h) h)) h

theorem keeps_unbarTo (n : CompNo) (x : CompState) (h : Keeps taking quoting a s) : Keeps taking quoting a (unbarTo n x s) :=
  keeps_joinFree _ (keeps_modComp _ _ h)

theorem keeps_unbarOn (hd : Header) (n : CompNo) (h : Keeps taking quoting a s) : Keeps taking quoting a (unbarOn hd n s) := by
  refine keeps_ite (keeps_ite (keeps_refuse _ _ h) ?_)
    (keeps_ite (keeps_answer _ _ (keeps_modComp _ _ h)) (keeps_refuse _ _ h))
  split
  · exact keeps_answer _ _ (keeps_unbarTo _ _ h)
  · exact keeps_ite (keeps_refuse _ _ h) (keeps_answer _ _ (keeps_unbarTo _ _ h))

theorem keeps_takeUnbar (hd : Header) (b : Byte) (h : Keeps taking quoting a s) : Keeps taking quoting a (takeUnbar hd b s) :=
  keeps_fromOffice _ (keeps_namingComp _ _ (fun _ _ h => keeps_readingComp _ _ (fun h => keeps_unbarOn _ _ h) h)) h

theorem keeps_enterLoop (n : CompNo) (o : MaintFrom) (h : Keeps taking quoting a s) : Keeps taking quoting a (enterLoop n o s) :=
  keeps_maintSlot _ (keeps_modComp _ _ (keeps_leaveFree _ h))

theorem keeps_takeMaintEnter (hd : Header) (b : Byte) (h : Keeps taking quoting a s) : Keeps taking quoting a (takeMaintEnter hd b s) := by
  refine keeps_fromOffice _ (keeps_namingComp _ _ (fun n s h => keeps_ite (keeps_refuse _ _ h)
    (keeps_readingComp _ _ (fun {s} h => ?_) h))) h
  split
  · exact keeps_answer _ _ (keeps_enterLoop _ _ h)
  · exact keeps_answer _ _ (keeps_enterLoop _ _ h)
  · exact keeps_refuse _ _ h

theorem keeps_testPulseOn (hd : Header) (n : CompNo) (h : Keeps taking quoting a s) : Keeps taking quoting a (testPulseOn hd n s) :=
  keeps_ite (keeps_refuse _ _ h) (keeps_ite (keeps_refuse _ _ h) (keeps_ite (keeps_refuse _ _ h)
    (keeps_ite (keeps_refuse _ _ h) (keeps_answer _ _ (keeps_requestGrant _ _ (keeps_modComp _ _ h))))))

theorem keeps_takeTestPulse (hd : Header) (b : Byte) (h : Keeps taking quoting a s) : Keeps taking quoting a (takeTestPulse hd b s) :=
  keeps_fromOffice _ (keeps_namingComp _ _ (fun _ _ h => keeps_ite
    (keeps_readingComp _ _ (fun h => keeps_testPulseOn _ _ h) h) (keeps_refuse _ _ h))) h

theorem keeps_leaveLoop (n : CompNo) (o : MaintFrom) (h : Keeps taking quoting a s) : Keeps taking quoting a (leaveLoop n o s) :=
  keeps_joinFree _ (keeps_maintSlot _ (keeps_stopJobTimers _ (keeps_modComp _ _ h)))

theorem keeps_exitOn (hd : Header) (n : CompNo) (o : MaintFrom) (h : Keeps taking quoting a s) : Keeps taking quoting a (exitOn hd n o s) := by
  unfold exitOn
  split
  · exact keeps_answer _ _ (keeps_leaveLoop _ _ h)
  · exact keeps_ite (keeps_answer _ _ (keeps_leaveLoop _ _ (keeps_withdraw _ h))) (keeps_refuse _ _ h)
  · exact keeps_refuse _ _ h
  · exact keeps_refuse _ _ h

theorem keeps_takeMaintExit (hd : Header) (b : Byte) (h : Keeps taking quoting a s) : Keeps taking quoting a (takeMaintExit hd b s) := by
  refine keeps_fromOffice _ (keeps_namingComp _ _ (fun n s h => ?_)) h
  split
  · exact keeps_ite (keeps_readingComp _ _ (fun h => keeps_exitOn _ _ _ h) h) (keeps_refuse _ _ h)
  · exact keeps_refuse _ _ h

theorem keeps_unfit (n : CompNo) (c : SizeClass) (h : Keeps taking quoting a s) : Keeps taking quoting a (unfit n c s) := by
  unfold unfit
  exact keeps_modDoor _ _ (keeps_modComp _ _ (keeps_leaveFree _ h))

theorem keeps_reclass (n : CompNo) (c : SizeClass) (h : Keeps taking quoting a s) : Keeps taking quoting a (reclass n c s) :=
  keeps_ite (keeps_modComp _ _ h) (keeps_ite (keeps_joinFree _ (keeps_modComp _ _ (keeps_leaveFree _ h)))
    (keeps_modComp _ _ h))

theorem keeps_stopDoor (n : CompNo) (h : Keeps taking quoting a s) : Keeps taking quoting a (stopDoor n s) := keeps_modDoor _ _ h

theorem keeps_refit (n : CompNo) (p : MapPlace) (c : SizeClass) (h : Keeps taking quoting a s) : Keeps taking quoting a (refit n p c s) := by
  have hmoved : ∀ f, Keeps taking quoting a (stopDoor n (modComp n f (leaveFree n s))) := fun f =>
    keeps_stopDoor _ (keeps_modComp _ _ (keeps_leaveFree _ h))
  exact keeps_ite (keeps_ite (keeps_raise _ (keeps_causeBar _ _ (hmoved _))) (keeps_causeBar _ _ (hmoved _))) (hmoved _)

theorem keeps_writePlace (n : CompNo) (p : Option MapPlace) (c : SizeClass) (h : Keeps taking quoting a s) :
    Keeps taking quoting a (writePlace n p c s) := by
  cases p with
  | none => exact keeps_unfit _ _ h
  | some p => exact keeps_ite (keeps_reclass _ _ h) (keeps_refit _ _ _ h)

/-! ### The other requests of the columns, the notices, the counters and the checker -/

theorem keeps_takeRelay (hd : Header) (c k : Byte) (m : List Byte) (h : Keeps taking quoting a s) : Keeps taking quoting a (takeRelay hd c k m s) := by
  unfold takeRelay
  split
  · refine keeps_ite (keeps_refuse _ _ h) (keeps_ite (keeps_refuse _ _ h) ?_)
    split
    · exact keeps_refuse _ _ h
    · next hroom => exact keeps_bus (fun _ => by simp only [List.length_append, List.length_singleton]; omega) h
  · exact keeps_refuse _ _ h

theorem keeps_takeEnumerate (hd : Header) (h : Keeps taking quoting a s) : Keeps taking quoting a (takeEnumerate hd s) :=
  keeps_fromOffice _ (fun h => keeps_ite (keeps_refuse _ _ h) (keeps_ite (keeps_refuse _ _ h)
    (keeps_startEnumeration _ h))) h

theorem keeps_takeMaintTrace (hd : Header) (c : Byte) (h : Keeps taking quoting a s) : Keeps taking quoting a (takeMaintTrace hd c s) := by
  refine keeps_fromOffice _ (fun {s} h => ?_) h
  split
  · exact keeps_refuse _ _ h
  · split
    · exact keeps_refuse _ _ h
    · exact keeps_answer _ _ h

theorem keeps_setMasks (l : List Bool) (h : Keeps taking quoting a s) : Keeps taking quoting a (setMasks l s) := by
  refine keeps_foldl (fun c h => keeps_modClass c ?_ h) _ h
  exact fun _ hq => hq

theorem keeps_takeMask (hd : Header) (m : Vector Byte 12) (h : Keeps taking quoting a s) : Keeps taking quoting a (takeMask hd m s) := by
  refine keeps_fromOffice _ (fun {s} h => ?_) h
  split
  · exact keeps_refuse _ _ h
  · exact keeps_answer _ _ (keeps_setMasks _ h)

theorem undrilled_length_le (b : Bool) (l : List Detail) : (undrilled b l).length ≤ l.length := by
  unfold undrilled
  split
  · exact Nat.succ_le_succ (List.length_filter_le _ _)
  · exact List.length_filter_le _ _

theorem discardClass_bounded (b : Bool) (q : ClassQueue) (hq : ClassBounded q) : ClassBounded (discardClass b q) := by
  refine ⟨Nat.le_trans (undrilled_length_le b q.details) hq.1, ?_⟩
  simp [discardClass]

theorem keeps_discardDrill (h : Keeps taking quoting a s) : Keeps taking quoting a (discardDrill s) :=
  keeps_foldl (fun _ h => keeps_modClass _ (discardClass_bounded _) h) _ h

theorem keeps_drillNotice (d : Fin 8) (h : Keeps taking quoting a s) : Keeps taking quoting a (drillNotice d s) := by
  unfold drillNotice
  split
  · exact keeps_discardDrill h
  all_goals first
    | exact keeps_count _ (keeps_raiseMarked _ _ _ h)
    | exact keeps_raiseMarked _ _ _ h

theorem keeps_takeDrillStep (hd : Header) (h : Keeps taking quoting a s) : Keeps taking quoting a (takeDrillStep hd s) :=
  keeps_fromOffice _ (fun {s} h => keeps_answer _ _ (keeps_drillNotice _ (keeps_of_watched (s := s) h rfl))) h

theorem keeps_takeSnapshot (hd : Header) (h : Keeps taking quoting a s) : Keeps taking quoting a (takeSnapshot hd s) :=
  keeps_fromOffice _ (fun {s} h => keeps_answer _ _ (keeps_of_watched (s := s) h rfl)) h

/-- The checker's flag, cursor and timer are not watched. -/
theorem keeps_checker (c : RecordChecker) (h : Keeps taking quoting a s) : Keeps taking quoting a { s with checker := c } := keeps_of_watched h rfl

theorem keeps_takeClearIntegrity (hd : Header) (h : Keeps taking quoting a s) : Keeps taking quoting a (takeClearIntegrity hd s) :=
  keeps_fromOffice _ (fun h => keeps_answer _ _ (keeps_checker _ h)) h

theorem keeps_scrubEntry (c : Nat) (h : Keeps taking quoting a s) : Keeps taking quoting a (scrubEntry c s) := by
  unfold scrubEntry
  split
  · exact keeps_verifyComp _ h
  · split
    · exact keeps_ite h (keeps_quarantine _ h)
    · split
      · exact keeps_ite h (keeps_credentialFailure _ h)
      · exact h

theorem keeps_scrubVisit (h : Keeps taking quoting a s) : Keeps taking quoting a (scrubVisit s) :=
  keeps_ite (keeps_checker _ (keeps_scrubEntry _ h)) h

end Sys2Proof.Machine

/-! PROOFS. What the management unit's requests and the starts keep, and so every request at its owner. -/

namespace Sys2Proof.Machine

variable {taking quoting : Prop} {a s t : State}

/-! ### The management unit's requests (chapter 11) -/

/-- The management unit's cursor is not watched. -/
theorem keeps_setCursor (c : TableCursor) (h : Keeps taking quoting a s) : Keeps taking quoting a (setCursor c s) := keeps_of_watched h rfl

theorem keeps_takeCursor (hd : Header) (t : Byte) (i : BitVec 16) (m : Byte) (h : Keeps taking quoting a s) :
    Keeps taking quoting a (takeCursor hd t i m s) := by
  refine keeps_fromOffice _ (fun {s} h => ?_) h
  split
  · exact keeps_answer _ _ (keeps_setCursor _ h)
  · exact keeps_refuse _ _ h

theorem keeps_advance (h : Keeps taking quoting a s) : Keeps taking quoting a (advance s) := keeps_ite h (keeps_setCursor _ h)

theorem keeps_answerRead (hd : Header) (b : Bool) (l : List Byte) (h : Keeps taking quoting a s) : Keeps taking quoting a (answerRead hd b l s) :=
  keeps_answer _ _ (keeps_ite (keeps_advance h) h)

theorem keeps_readQueue (hd : Header) (h : Keeps taking quoting a s) : Keeps taking quoting a (readQueue hd s) := by
  unfold readQueue
  dsimp only
  split
  · exact keeps_refuse _ _ h
  · split
    · exact keeps_answerRead _ _ _ (keeps_setCursor _ h)
    · exact keeps_refuse _ _ h

theorem keeps_readAt (hd : Header) (t : TableId) (i : Nat) (h : Keeps taking quoting a s) : Keeps taking quoting a (readAt hd t i s) := by
  have hread : ∀ l, Keeps taking quoting a (answerRead hd false l s) := fun l => keeps_answerRead _ _ _ h
  have hrefused : ∀ c, Keeps taking quoting a (refuse hd c s) := fun c => keeps_refuse _ _ h
  cases t with
  | map =>
    dsimp only [readAt]
    split
    · exact keeps_readingComp _ _ (fun h => keeps_answerRead _ _ _ h) h
    · exact hrefused _
  | parcel =>
    dsimp only [readAt]
    split
    · exact keeps_readingRecord _ _ (fun h => keeps_answerRead _ _ _ h) h
    · exact hrefused _
  | credential =>
    dsimp only [readAt]
    split
    · exact keeps_ite (hread _) (keeps_refuse _ _ (keeps_credentialFailure _ h))
    · exact hrefused _
  | returnQueue => exact keeps_readQueue _ h
  | _ =>
    dsimp only [readAt]
    split
    · exact hread _
    · exact hrefused _

theorem keeps_takeRead (hd : Header) (h : Keeps taking quoting a s) : Keeps taking quoting a (takeRead hd s) :=
  keeps_fromOffice _ (fun h => keeps_readAt _ _ _ h) h

theorem keeps_answerWrite (hd : Header) (h : Keeps taking quoting a s) : Keeps taking quoting a (answerWrite hd s) :=
  keeps_answer _ _ (keeps_ite (keeps_advance h) h)

/-- A write taken or refused: what the owner's judgement leaves is kept. -/
theorem keeps_judgedWrite (hd : Header) {r : Except ReplyCode State} (hr : ∀ t, r = .ok t → Keeps taking quoting a t)
    (h : Keeps taking quoting a s) : Keeps taking quoting a (judgedWrite hd r s) := by
  cases r with
  | ok t => exact keeps_answerWrite _ (hr t rfl)
  | error c => exact keeps_refuse _ _ h

theorem plan2?_block {f : PlanFields} {p : Plan} (h : plan2? f = some p) : p.block ∈ blockLengths := by
  unfold plan2? at h
  split at h
  · cases h
  · split at h
    · next hin =>
      cases h
      exact hin.2.1
    · cases h

theorem keeps_judgePlanWrite (i : Nat) (f : PlanFields) (h : Keeps taking quoting a s) :
    ∀ t, judgePlanWrite i f s = .ok t → Keeps taking quoting a t := by
  intro t ht
  unfold judgePlanWrite at ht
  split at ht
  · next p j hp _ =>
    cases ht
    refine h.trans ⟨id, id, id, id, id, fun ⟨htables, hrunning⟩ => ⟨fun q => ⟨?_, (htables q).2⟩, hrunning⟩,
      sameFifo s, sameQuotes s, sameHunted s, sameRuns s⟩
    show (s.charge.plans.set j.val p j.isLt)[q.val].block ∈ blockLengths
    rw [Vector.getElem_set]
    split
    · exact plan2?_block hp
    · exact (htables q).1
  · cases ht

theorem keeps_judgePeakWrite (i : Nat) (f l m : BitVec 16) (h : Keeps taking quoting a s) :
    ∀ t, judgePeakWrite i f l m s = .ok t → Keeps taking quoting a t := by
  intro t ht
  unfold judgePeakWrite at ht
  split at ht
  · next j _ =>
    split at ht
    · next hin =>
      cases ht
      obtain ⟨_, _, hlow, hhigh⟩ := hin
      refine h.trans ⟨id, id, id, id, id, fun ⟨htables, hrunning⟩ =>
        ⟨fun q => ⟨(htables q).1, fun w => ?_⟩, hrunning⟩, sameFifo s, sameQuotes s, sameHunted s, sameRuns s⟩
      show 100 ≤ (s.charge.peaks.set j.val _ j.isLt)[w.val].multiplier ∧
        (s.charge.peaks.set j.val _ j.isLt)[w.val].multiplier ≤ 300
      rw [Vector.getElem_set]
      split
      · exact ⟨hlow, hhigh⟩
      · exact (htables q).2 w
    · cases ht
  · cases ht

/-- The configuration record changes, its pulse budget within the bound. -/
theorem keeps_modConfig {f : ConfigRecord → ConfigRecord}
    (hf : (cfg s).pulseBudget ≤ 4 → (f (cfg s)).pulseBudget ≤ 4) (h : Keeps taking quoting a s) : Keeps taking quoting a (modConfig f s) :=
  h.trans ⟨id, id, id, fun ⟨hb, hc⟩ => ⟨hf hb, hc⟩, id, id, sameFifo s, sameQuotes s, sameHunted s, sameRuns s⟩

theorem keeps_judgePermissionWrite (i : Nat) (l x m : Byte) (h : Keeps taking quoting a s) :
    ∀ t, judgePermissionWrite i l x m s = .ok t → Keeps taking quoting a t := by
  intro t ht
  unfold judgePermissionWrite at ht
  split at ht
  · cases ht
    exact keeps_modConfig id h
  · cases ht

theorem keeps_judgeMapWrite (n : CompNo) (p : Option (Byte × Byte)) (c : Byte) (h : Keeps taking quoting a s) :
    ∀ t, judgeMapWrite n p c s = .ok t → Keeps taking quoting a t := by
  intro t ht
  unfold judgeMapWrite at ht
  repeat' split at ht
  all_goals cases ht
  all_goals exact keeps_writePlace _ _ _ h

theorem keeps_takeWriteTariff (hd : Header) (f : PlanFields) (h : Keeps taking quoting a s) : Keeps taking quoting a (takeWriteTariff hd f s) :=
  keeps_fromOffice _ (fun h => keeps_judgedWrite _ (keeps_judgePlanWrite _ _ h) h) h

theorem keeps_takeWritePeak (hd : Header) (f l m : BitVec 16) (h : Keeps taking quoting a s) : Keeps taking quoting a (takeWritePeak hd f l m s) :=
  keeps_fromOffice _ (fun h => keeps_judgedWrite _ (keeps_judgePeakWrite _ _ _ _ h) h) h

theorem keeps_takeWriteMap (hd : Header) (p : Option (Byte × Byte)) (c : Byte) (h : Keeps taking quoting a s) :
    Keeps taking quoting a (takeWriteMap hd p c s) := by
  refine keeps_fromOffice _ (fun {s} h => ?_) h
  split
  · exact keeps_readingComp _ _ (fun h => keeps_judgedWrite _ (keeps_judgeMapWrite _ _ _ h) h) h
  · exact keeps_refuse _ _ h

theorem keeps_takeWriteColumn (hd : Header) (l x m : Byte) (h : Keeps taking quoting a s) : Keeps taking quoting a (takeWriteColumn hd l x m s) :=
  keeps_fromOffice _ (fun h => keeps_judgedWrite _ (keeps_judgePermissionWrite _ _ _ _ h) h) h

theorem keeps_takeWrite (hd : Header) (h : Keeps taking quoting a s) : Keeps taking quoting a (takeWrite hd s) := keeps_refuse _ _ h

theorem writeField_budget {i v : Nat} {c d : ConfigRecord} (h : writeField i v c = some d) (hc : c.pulseBudget ≤ 4) :
    d.pulseBudget ≤ 4 := by
  unfold writeField at h
  split at h
  case h_8 =>
    cases h
    exact Nat.max_le.mpr ⟨by decide, Nat.min_le_left _ _⟩
  all_goals
    repeat' split at h
    all_goals cases h
    all_goals exact hc

theorem writeFields_budget (l : List (Byte × BitVec 16)) {c : ConfigRecord} (hc : c.pulseBudget ≤ 4) :
    (writeFields l c).1.pulseBudget ≤ 4 := by
  refine List.foldlRecOn l _ (motive := fun r : ConfigRecord × List Nat => r.1.pulseBudget ≤ 4) hc (fun r hr p _ => ?_)
  split
  · exact hr
  · split
    · next d hd => exact writeField_budget hd hr
    · exact hr

theorem keeps_configChanged (c : ConfigRecord) (h : Keeps taking quoting a s) : Keeps taking quoting a (configChanged c s) := by
  unfold configChanged
  have hscan : Keeps taking quoting a (if c.expiryScan && !(cfg s).expiryScan then setScanner { s.returns.scanner with due := false } s
      else s) := keeps_ite (keeps_setScanner _ h) h
  exact keeps_ite (keeps_lookOver (keeps_ite (keeps_restartIdle hscan) hscan)) (keeps_ite (keeps_restartIdle hscan) hscan)

theorem keeps_takeConfigSet (hd : Header) (l : List (Byte × BitVec 16)) (h : Keeps taking quoting a s) :
    Keeps taking quoting a (takeConfigSet hd l s) := by
  refine keeps_fromOffice _ (fun {s} h => keeps_ite (keeps_answer _ _ ?_) (keeps_refuse _ _ h)) h
  have hchanged : Keeps taking quoting a (configChanged (cfg s) (modConfig (fun _ => (writeFields l (cfg s)).1) s)) :=
    keeps_configChanged _ (keeps_modConfig (writeFields_budget l) h)
  split
  · exact keeps_checker _ hchanged
  · exact hchanged

theorem keeps_takeConfigGet (hd : Header) (h : Keeps taking quoting a s) : Keeps taking quoting a (takeConfigGet hd s) :=
  keeps_fromOffice _ (fun h => keeps_answer _ _ h) h

theorem keeps_takeHold (hd : Header) (h : Keeps taking quoting a s) : Keeps taking quoting a (takeHold hd s) :=
  keeps_fromOffice _ (fun h => keeps_answer _ _ (keeps_requestHold _ h)) h

theorem keeps_takeUnhold (hd : Header) (h : Keeps taking quoting a s) : Keeps taking quoting a (takeUnhold hd s) :=
  keeps_fromOffice _ (fun h => keeps_answer _ _ (keeps_requestHold _ h)) h

theorem keeps_clearRecord (hd : Header) (k : Slot) (p : Parcel) (h : Keeps taking quoting a s) : Keeps taking quoting a (clearRecord hd k p s) := by
  refine keeps_answer _ _ (keeps_retireRecord _ ?_)
  split
  · exact keeps_verifyComp _ h
  · exact h

theorem keeps_namingSlot (hd : Header) (w : BitVec 16) {f : Slot → Parcel → State → State}
    (hf : ∀ k p, Keeping taking quoting a (f k p)) (h : Keeps taking quoting a s) : Keeps taking quoting a (namingSlot hd w f s) := by
  unfold namingSlot
  split
  · exact keeps_refuse _ _ h
  · split
    · exact keeps_refuse _ _ h
    · exact hf _ _ h

theorem keeps_takeClearStranded (hd : Header) (w : BitVec 16) (h : Keeps taking quoting a s) : Keeps taking quoting a (takeClearStranded hd w s) :=
  keeps_fromOffice _ (keeps_namingSlot _ _ (fun _ _ _ h => keeps_readingRecord _ _
    (fun h => keeps_ite (keeps_clearRecord _ _ _ h) (keeps_refuse _ _ h)) h)) h

theorem keeps_takeClearQuarantine (hd : Header) (w : BitVec 16) (h : Keeps taking quoting a s) :
    Keeps taking quoting a (takeClearQuarantine hd w s) :=
  keeps_fromOffice _ (keeps_namingSlot _ _ (fun _ _ _ h =>
    keeps_ite (keeps_clearRecord _ _ _ h) (keeps_refuse _ _ h))) h

/-! ### The starts (11.4) -/

theorem keeps_startEffects (k : StartKind) (h : Keeps taking quoting a s) : Keeps taking quoting a (startEffects k s) := by
  have hbegun : Keeps taking quoting a (startEnumeration none (raise (.link (.start k)) s)) := keeps_startEnumeration _ (keeps_raise _ h)
  exact keeps_ite (keeps_enqueueBroadcast _ (keeps_raiseHoldOn _ hbegun)) hbegun

theorem linkBounded_cold (n : Nat) : (Cold.link n).fifo.length ≤ 8 ∧
    (Cold.link n).replies.length + (Cold.link n).reserved ≤ 8 := ⟨Nat.zero_le _, Nat.zero_le _⟩

theorem classBounded_cold (i : Fin 12) : ClassBounded Cold.notices.classes[i] := by
  have hat : Cold.notices.classes[i] = Cold.classQueue := Vector.getElem_replicate _
  rw [hat]
  decide

theorem comps_cold (n : CompNo) : Cold.compartments[n] = Cold.compartment n := by
  show (table 240 Cold.compartment)[n.val] = _
  simp [table]

theorem slots_cold (k : Slot) : Cold.parcels.slots[k] = none := Vector.getElem_replicate _

theorem ways_cold (w : Way) : Cold.credentials.ways[w] = none := Vector.getElem_replicate _

/-- A state with the cold-start tables passes every check. -/
theorem tablesGood_of_cold (hc : s.comps = Cold.compartments) (hp : s.parcels.slots = Cold.parcels.slots)
    (hw : s.creds.ways = Cold.credentials.ways) : TablesGood s := by
  refine ⟨fun n => ?_, fun k => ?_, fun w => ?_⟩
  · rw [compGood, hc, comps_cold]
    exact compartmentOk_seal n _
  · rw [parcelGood, parcelAt, hp, slots_cold]
  · rw [wayGood, hw, ways_cold]

theorem chargesInRange_cold (p : PlanNo) : ChargesInRange Cold.charge.plans[p] Cold.charge.peaks := by
  have hplan : Cold.charge.plans[p] = Cold.plan := Vector.getElem_replicate _
  have hpeak : ∀ i : Fin 4, Cold.charge.peaks[i] = Cold.peak := fun i => Vector.getElem_replicate _
  rw [hplan]
  exact ⟨by decide, fun i => by rw [hpeak]; decide⟩

/-- The cold-start values are within every bound and range, whatever stood before. -/
theorem keeps_coldValues : Keeps taking False a (coldValues s) :=
  ⟨fun _ => linkBounded_cold _, fun _ => classBounded_cold, fun _ => Nat.zero_le _,
    fun _ => ⟨by show Cold.config.pulseBudget ≤ 4; decide, Nat.zero_le _, List.Pairwise.nil⟩,
    fun _ => tablesGood_of_cold rfl rfl rfl, fun _ => ⟨chargesInRange_cold, fun _ h => by cases h⟩,
    fun _ => Nat.zero_le _, fun _ => List.nil_sublist _, fun _ _ => rfl, False.elim⟩

theorem keeps_coldStart : Keeps taking False a (coldStart s) := keeps_startEffects _ keeps_coldValues

/-- A start clears the queues and keeps the tables and the configuration record. -/
theorem keeps_keptValues (k : StartKind) (h : Keeps taking False a s) : Keeps taking False a (keptValues k s) :=
  h.trans ⟨fun _ => linkBounded_cold _, fun _ => classBounded_cold, fun _ => Nat.zero_le _,
    fun hs => ⟨hs.1, Nat.zero_le _, List.Pairwise.nil⟩, id, fun hs => ⟨hs.1, fun _ h => by cases h⟩,
    fun _ => Nat.zero_le _, fun _ => List.nil_sublist _, fun _ _ => rfl, False.elim⟩

theorem keeps_resumeRelease (x : CompState) (n : CompNo) (h : Keeps taking quoting a s) : Keeps taking quoting a (resumeRelease x s n) :=
  keeps_ite (keeps_onComp _ (fun h => keeps_setResumed _ _ (keeps_modComp _ _ h)) h) h

theorem keeps_resolveMaint (n : CompNo) (h : Keeps taking quoting a s) : Keeps taking quoting a (resolveMaint s n) :=
  keeps_ite (keeps_onComp _ (keeps_modComp _ _) h) h

theorem keeps_resumeDeposit (n : CompNo) (k : Slot) (h : Keeps taking quoting a s) : Keeps taking quoting a (resumeDeposit n k s) := by
  unfold resumeDeposit
  split
  · exact keeps_modParcel _ _ (keeps_free _ h)
  · exact keeps_setResumed _ _ h
  · exact h

theorem keeps_resolveDeposit (k : Slot) (h : Keeps taking quoting a s) : Keeps taking quoting a (resolveDeposit s k) := by
  refine keeps_ite (keeps_onRecord _ _ (fun p h => ?_) h) h
  split
  · exact keeps_onComp _ (keeps_resumeDeposit _ _) h
  · exact h

theorem keeps_resumeCollection (k : Slot) (p : Parcel) (h : Keeps taking quoting a s) : Keeps taking quoting a (resumeCollection k p s) := by
  unfold resumeCollection
  split
  · exact keeps_returnToStored _ _ h
  · exact keeps_returnToStored _ _ h
  · exact keeps_joinReopen _ h
  · split
    · exact keeps_resumeRelease _ _ h
    · exact h

theorem keeps_resolveCollection (k : Slot) (h : Keeps taking quoting a s) : Keeps taking quoting a (resolveCollection s k) :=
  keeps_ite (keeps_onRecord _ _ (fun _ h => keeps_resumeCollection _ _ h) h) h

theorem keeps_rebuildFreeLists (h : Keeps taking quoting a s) : Keeps taking quoting a (rebuildFreeLists s) := keeps_of_watched h rfl

theorem keeps_resolveJobs (h : Keeps taking quoting a s) : Keeps taking quoting a (resolveJobs s) :=
  keeps_rebuildFreeLists (keeps_foldl (fun _ h => keeps_resumeRelease _ _ h) _
    (keeps_foldl (fun _ h => keeps_resolveCollection _ h) _ (keeps_foldl (fun _ h => keeps_resolveDeposit _ h) _
      (keeps_foldl (fun _ h => keeps_resolveMaint _ h) _ h))))

theorem keeps_keptStart (k : StartKind) (h : Keeps taking False a s) : Keeps taking False a (keptStart k s) :=
  keeps_startEffects _ (keeps_resolveJobs (keeps_keptValues _ h))

/-! ### Every request at its owner -/

theorem keeps_takeRequest (hd : Header) (r : Request) (h : Keeps taking False a s) : Keeps taking False a (takeRequest hd r s) := by
  cases r with
  | signOn _ => exact keeps_takeSignOn _ _ h
  | signOff => exact keeps_takeSignOff _ h
  | deposit _ => exact keeps_takeDeposit _ _ h
  | returnDrop _ => exact keeps_takeReturnDrop _ _ h
  | abandon => exact keeps_takeAbandon _ h
  | collect _ => exact keeps_takeCollect _ _ h
  | tender _ _ => exact keeps_takeTender _ _ _ h
  | cancel => exact keeps_takeCancel _ h
  | sweepStart => exact keeps_takeSweepStart _ h
  | sweepStop => exact keeps_takeSweepStop _ h
  | statusCompartment _ => exact keeps_takeStatusCompartment _ _ h
  | statusParcel _ => exact keeps_takeStatusParcel _ _ h
  | relay _ _ _ => exact keeps_takeRelay _ _ _ _ h
  | advise _ => exact keeps_takeAdvise _ _ h
  | withdraw _ => exact keeps_takeWithdraw _ _ h
  | reissue _ _ => exact keeps_takeReissue _ _ _ h
  | enrolCourier _ _ _ _ => exact keeps_takeEnrol _ _ _ _ _ h
  | revokeCourier _ => exact keeps_takeRevoke _ _ h
  | timeSet _ _ => exact keeps_takeTimeSet _ _ _ h
  | retire _ => exact keeps_takeRetire _ _ h
  | bar _ => exact keeps_takeBar _ _ h
  | unbar _ => exact keeps_takeUnbar _ _ h
  | maintEnter _ => exact keeps_takeMaintEnter _ _ h
  | maintExit _ => exact keeps_takeMaintExit _ _ h
  | maintTestPulse _ => exact keeps_takeTestPulse _ _ h
  | maintTrace _ => exact keeps_takeMaintTrace _ _ h
  | enumerate => exact keeps_takeEnumerate _ h
  | clearIntegrity => exact keeps_takeClearIntegrity _ h
  | snapshot => exact keeps_takeSnapshot _ h
  | mask _ => exact keeps_takeMask _ _ h
  | drillStep => exact keeps_takeDrillStep _ h
  | cursor _ _ _ => exact keeps_takeCursor _ _ _ _ h
  | read => exact keeps_takeRead _ h
  | writeTariff _ => exact keeps_takeWriteTariff _ _ h
  | writePeak _ _ _ => exact keeps_takeWritePeak _ _ _ _ h
  | writeMap _ _ => exact keeps_takeWriteMap _ _ _ h
  | writeColumn _ _ _ => exact keeps_takeWriteColumn _ _ _ _ h
  | write _ => exact keeps_takeWrite _ h
  | configSet _ => exact keeps_takeConfigSet _ _ h
  | configGet => exact keeps_takeConfigGet _ h
  | hold => exact keeps_takeHold _ h
  | unhold => exact keeps_takeUnhold _ h
  | clearStranded _ => exact keeps_takeClearStranded _ _ h
  | clearQuarantine _ => exact keeps_takeClearQuarantine _ _ h
  | restartEngines => exact keeps_fromOffice _ (fun h => keeps_keptStart _ h) h
  | resetAll => exact keeps_fromOffice _ (fun _ => keeps_coldStart) h

end Sys2Proof.Machine

/-! PROOFS. What the link and every command keep, and the bounds, check bytes and charge ranges as invariants of the
step. -/

namespace Sys2Proof.Machine

variable {taking quoting : Prop} {a s t : State}

/-! ### What follows a taking, and the hand-offs (chapter 9) -/

theorem keeps_chooseTx (h : Keeps taking quoting a s) : Keeps taking quoting a (chooseTx s) := by
  unfold chooseTx
  split
  · exact h
  · exact h
  · split
    · exact keeps_setTx _ h
    · refine keeps_ite ?_ h
      split
      · exact keeps_setTx _ (keeps_setOnLine _ h)
      · exact h

theorem keeps_cutNotice (h : Keeps taking quoting a s) : Keeps taking quoting a (cutNotice s) := by
  unfold cutNotice
  split
  · exact keeps_setTx _ (keeps_setOnLine _ h)
  · exact h

theorem keeps_replySent (h : Keeps taking quoting a s) : Keeps taking quoting a (replySent s) := by
  unfold replySent
  split
  · refine h.trans ⟨fun ⟨hf, hp⟩ => ⟨hf, Nat.le_trans (Nat.add_le_add_right ?_ _) hp⟩, id, id, id, id, id,
      sameFifo s, sameQuotes s, sameHunted s, sameRuns s⟩
    exact (List.length_tail ..).trans_le (Nat.sub_le _ _)
  · exact h

theorem dropHead_bounded (q : ClassQueue) (hq : ClassBounded q) : ClassBounded (dropHead q) := by
  refine ⟨Nat.le_trans ((List.length_tail ..).trans_le (Nat.sub_le _ _)) hq.1, ?_⟩
  simp [dropHead]

theorem keeps_noticeSent (h : Keeps taking quoting a s) : Keeps taking quoting a (noticeSent s) := by
  unfold noticeSent
  split
  · refine keeps_setTx _ (keeps_setOnLine _ ?_)
    split
    · exact keeps_modClass _ dropHead_bounded h
    · exact h
  · exact h

theorem keeps_settle (h : Keeps taking quoting a s) : Keeps taking quoting a (settle s) := by
  have hended : Keeps taking quoting a (endWakeRound (walkOn (chargeStarts s))) :=
    keeps_endWakeRound (keeps_walkOn (keeps_chargeStarts h))
  have hchosen : Keeps taking quoting a (chooseTx (chooseBus (queueProbe (queuePoll
      { endWakeRound (walkOn (chargeStarts s)) with bus := refill (endWakeRound (walkOn (chargeStarts s))).bus })))) :=
    keeps_chooseTx (keeps_chooseBus (keeps_queueProbe (keeps_queuePoll (keeps_bus (refill_length _) hended))))
  exact keeps_ite hchosen (keeps_restartIdle hchosen)

theorem keeps_offer (e : FifoEntry) (h : Keeps False False a s) : Keeps False False a (offer e s) := by
  unfold offer
  split
  · next hroom =>
    refine h.trans ⟨fun ⟨_, hp⟩ => ⟨?_, hp⟩, id, id, id, id, id, False.elim, False.elim, False.elim, False.elim⟩
    simp only [List.length_append, List.length_singleton]
    omega
  · split
    · next hplace =>
      refine h.trans ⟨fun ⟨hf, _⟩ => ⟨hf, ?_⟩, id, id, id, id, id, sameFifo s, sameQuotes s, sameHunted s, sameRuns s⟩
      simp only [placesInUse, List.length_append, List.length_singleton] at hplace ⊢
      omega
    · exact keeps_count _ h

theorem keeps_requestTakenFrom (o : Origin) (h : Keeps taking quoting a s) : Keeps taking quoting a (requestTakenFrom o s) := by
  cases o with
  | terminal t => exact keeps_restartInactivity _ h
  | office => exact h

theorem keeps_takeEntry (e : FifoEntry) (h : Keeps taking False a s) : Keeps taking False a (takeEntry e s) := by
  unfold takeEntry
  split
  · exact keeps_placeReply _ h
  · split
    · exact keeps_placeReply _ h
    · exact keeps_placeReply _ h
    · exact keeps_requestTakenFrom _ (keeps_takeRequest _ _ h)

theorem handOffReady_iff (s : State) : handOffReady s = true ↔ s.link.fifo ≠ [] ∧ placesInUse s ≤ 6 := by
  simp [handOffReady]

/-- A hand-off finds two free places, so the place it reserves is within the bound (R177). -/
theorem keeps_handOff (hready : handOffReady s = true) (h : Keeps taking False a s) : Keeps taking False a (handOff s) := by
  obtain ⟨-, hplaces⟩ := (handOffReady_iff s).mp hready
  unfold handOff
  split
  · exact h
  · next e rest hfifo =>
    refine keeps_takeEntry e (h.trans ⟨fun ⟨hf, _⟩ => ⟨?_, ?_⟩, id, id, id, id, id, fun _ => ?_,
      False.elim, sameHunted s, False.elim⟩)
    · rw [hfifo] at hf
      exact Nat.le_of_succ_le hf
    · simp only [placesInUse] at hplaces ⊢
      omega
    · rw [hfifo]
      exact Nat.le_succ _

theorem keeps_handOffs (fuel : Nat) (h : Keeps taking False a s) : Keeps taking False a (handOffs fuel s) := by
  induction fuel generalizing s with
  | zero => exact h
  | succ fuel ih =>
    rw [handOffs]
    split
    · next hready => exact ih (keeps_settle (keeps_handOff hready h))
    · exact h

theorem keeps_conclude (h : Keeps taking False a s) : Keeps taking False a (conclude s) := keeps_ite (keeps_handOffs _ h) (keeps_settle h)

/-! ### The link state and the receiver -/

/-- The link changes, its queues as they stood. -/
theorem keeps_link {l : LinkInterface} (hl : l.fifo = s.link.fifo ∧ l.replies = s.link.replies ∧
    l.reserved = s.link.reserved) (hagain : taking → s.link.again = [] → l.again = [])
    (hruns : quoting → (l.state, l.goodRun, l.discardRun) = linkRuns s) (h : Keeps taking quoting a s) :
    Keeps taking quoting a { s with link := l } := by
  obtain ⟨hfifo, hreplies, hreserved⟩ := hl
  refine h.trans ⟨?_, id, id, id, id, id, fun _ => Nat.le_of_eq (congrArg List.length hfifo), sameQuotes s, hagain, hruns⟩
  simp only [LinkBounded, placesInUse, hfifo, hreplies, hreserved]
  exact id

theorem keeps_rewriteWindowEnds (h : Keeps taking quoting a s) : Keeps taking quoting a (rewriteWindowEnds s) := by
  refine keeps_foldl (fun t h => ?_) _ h
  split
  · exact keeps_onRecord _ _ (fun _ h => keeps_modParcel _ _ h) h
  · exact h

theorem keeps_moveLink (d : LinkState) (h : Keeps taking False a s) : Keeps taking False a (moveLink d s) := by
  unfold moveLink
  dsimp only
  refine keeps_ite h ?_
  have hmoved : Keeps taking False a { s with link := { s.link with state := d } } := keeps_link ⟨rfl, rfl, rfl⟩ (sameHunted _) False.elim h
  have hcut := keeps_ite (p := s.link.state = .up) (keeps_cutNotice hmoved) hmoved
  have hrewritten := keeps_ite (p := s.link.state = .lost) (keeps_rewriteWindowEnds hcut) hcut
  exact keeps_ite (keeps_raise _ hrewritten) hrewritten

theorem keeps_goodRun (h : Keeps taking False a s) : Keeps taking False a (goodRun s) := by
  unfold goodRun
  dsimp only
  exact keeps_ite (keeps_moveLink _ (keeps_link ⟨rfl, rfl, rfl⟩ (sameHunted _) False.elim h)) (keeps_link ⟨rfl, rfl, rfl⟩ (sameHunted _) False.elim h)

theorem keeps_discardRun (h : Keeps taking False a s) : Keeps taking False a (discardRun s) := by
  unfold discardRun
  dsimp only
  exact keeps_ite (keeps_moveLink _ (keeps_link ⟨rfl, rfl, rfl⟩ (sameHunted _) False.elim h)) (keeps_link ⟨rfl, rfl, rfl⟩ (sameHunted _) False.elim h)

theorem keeps_setRx (p : RxPhase) (b : List Byte) (h : Keeps taking quoting a s) : Keeps taking quoting a (setRx p b s) :=
  keeps_link ⟨rfl, rfl, rfl⟩ (sameHunted s) (sameRuns s) h

theorem keeps_setAgain (l : List Byte) (h : Keeps False quoting a s) : Keeps False quoting a (setAgain l s) :=
  keeps_link ⟨rfl, rfl, rfl⟩ False.elim (sameRuns s) h

theorem keeps_restartSilence (h : Keeps taking quoting a s) : Keeps taking quoting a (restartSilence s) :=
  keeps_link ⟨rfl, rfl, rfl⟩ (sameHunted s) (sameRuns s) h

theorem keeps_discardFrame (k : Option Counter) (h : Keeps taking False a s) : Keeps taking False a (discardFrame k s) := by
  cases k with
  | none => exact keeps_discardRun (keeps_setRx _ _ (keeps_count _ h))
  | some k => exact keeps_discardRun (keeps_setRx _ _ (keeps_count _ (keeps_count _ h)))

theorem keeps_goodFrame (e : FifoEntry) (h : Keeps False False a s) : Keeps False False a (goodFrame e s) :=
  keeps_conclude (keeps_restartIdle (keeps_wakeCause (keeps_offer _ (keeps_goodRun (keeps_setRx _ _ h)))))

theorem keeps_hearOctets (fuel : Nat) (h : Keeps False False a s) : Keeps False False a (hearOctets fuel s) := by
  induction fuel generalizing s with
  | zero => exact h
  | succ fuel ih =>
    rw [hearOctets]
    split
    · exact h
    · next o rest _ =>
      have htaken : Keeps False False a (setAgain rest s) := keeps_setAgain _ h
      dsimp only
      split
      · exact ih htaken
      · exact ih (keeps_setRx _ _ htaken)
      · exact ih (keeps_setRx _ _ htaken)
      · exact ih (keeps_setAgain _ (keeps_discardFrame _ htaken))
      · exact ih (keeps_goodFrame _ htaken)

theorem keeps_hear (l : List Byte) (h : Keeps False False a s) : Keeps False False a (hear l s) := keeps_hearOctets _ (keeps_setAgain _ h)

theorem keeps_receiveOctet (o : Byte) (h : Keeps False False a s) : Keeps False False a (receiveOctet s o) := keeps_hear _ (keeps_restartSilence h)

theorem keeps_receiveOctets (l : List Byte) (h : Keeps False False a s) : Keeps False False a (receiveOctets l s) :=
  keeps_foldl (fun _ h => keeps_receiveOctet _ h) _ h

theorem keeps_silenceExpires (h : Keeps False False a s) : Keeps False False a (silenceExpires s) := by
  have hlost : ∀ {x : State}, Keeps False False a x →
      Keeps False False a (moveLink .lost { x with link := { x.link with goodRun := 0, silence := 0 } }) := fun h =>
    keeps_moveLink _ (keeps_link ⟨rfl, rfl, rfl⟩ (sameHunted _) False.elim h)
  unfold silenceExpires
  dsimp only
  split
  · exact keeps_hear _ (hlost (keeps_discardFrame _ (keeps_count _ h)))
  · exact hlost (keeps_count _ h)

/-! ### The commands -/

/-- What a command's taking keeps, its step keeps. -/
theorem keeps_act {f : State → State} (hf : Keeping False False a f) (h : Keeps False False a s) (e : act f s = .next t) : Keeps False False a t := by
  cases e
  exact keeps_ite (keeps_conclude (hf h)) h

theorem keeps_onAttempt {f : Exchange → State → State} (hf : ∀ x, Keeping False False a (f x)) (h : Keeps False False a s) :
    Keeps False False a (onAttempt f s) := by
  unfold onAttempt
  split
  · exact hf _ h
  · exact h

theorem keeps_endRetryWait (f : RetryWait → Bool) (h : Keeps False False a s) : Keeps False False a (endRetryWait f s) := by
  unfold endRetryWait
  split
  · exact keeps_ite (keeps_setRetry _ h) h
  · exact h

/-- The lines are not watched. -/
theorem keeps_lines (l : Lines) (h : Keeps False False a s) : Keeps False False a { s with lines := l } := keeps_of_watched h rfl

theorem keeps_holdLine {b : Bool} (h : Keeps False False a s) (e : holdLine b s = .next t) : Keeps False False a t := by
  unfold holdLine at e
  split at e
  · exact keeps_act (keeps_senseHold b) h e
  · cases e
    exact keeps_lines _ h

theorem keeps_secondEvents (h : Keeps False False a s) : Keeps False False a (secondEvents s) := keeps_of_watched h rfl

theorem keeps_second (h : Keeps False False a s) : Keeps False False a (second s) := by
  have hcounted : Keeps False False a (secondEvents { s with time := clockSecond s.time }) := keeps_secondEvents (keeps_time _ h)
  exact keeps_ite (keeps_boundary _ hcounted) hcounted

theorem keeps_elapse (h : Keeps False False a s) (e : elapse s = .next t) : Keeps False False a t := by
  unfold elapse at e
  split at e
  · exact keeps_act keeps_second h e
  · cases e
    exact keeps_time _ h

/-- The retention-intact marker is not watched. -/
theorem keeps_retentionIntact (b : Bool) (h : Keeps False False a s) :
    Keeps False False a { s with mgmt := { s.mgmt with retentionIntact := b } } := keeps_of_watched h rfl

theorem keeps_startByMarker (h : Keeps False False a s) : Keeps False False a (startByMarker s) := keeps_ite (keeps_keptStart _ h) keeps_coldStart

theorem keeps_attentionAssert (h : Keeps False False a s) : Keeps False False a (match s.dormancy.state with
    | .dormant => wakeCause s
    | .awake => startRound s
    | .waking => s) := by
  split
  · exact keeps_wakeCause h
  · exact keeps_startRound h
  · exact h

theorem keeps_restartGuard (h : Keeps False False a s) : Keeps False False a (match s.arbiter.guard with
    | some _ => lookOver { s with arbiter := { s.arbiter with guard := none } }
    | none => s) := by
  split
  · exact keeps_lookOver (keeps_of_watched h rfl)
  · exact h

theorem keeps_ajarExpired (n : CompNo) (h : Keeps False False a s) : Keeps False False a (ajarExpired n s) := by
  unfold ajarExpired
  exact keeps_modDoor _ _ (keeps_raiseAjar _ _ h)

theorem exec_of_request? {i : Instr} {tag o : Byte} {r : Request} (h : i.request? = some (tag, o, r)) (s : State) :
    exec i s = request tag o r s := by
  cases i <;> cases h <;> rfl

theorem keeps_exec (i : Instr) (h : Keeps False False a s) (e : exec i s = .next t) : Keeps False False a t := by
  cases hr : i.request? with
  | some r =>
    rw [exec_of_request? hr] at e
    exact keeps_act (keeps_offer _) h e
  | none =>
    cases i with
    | frameReceived l => exact keeps_act (keeps_receiveOctets l) h e
    | octetReceived o => exact keeps_act (keeps_receiveOctet o) h e
    | silenceExpiry => exact keeps_act (fun h => keeps_ite h (keeps_silenceExpires h)) h e
    | replyTransmitComplete => exact keeps_act keeps_replySent h e
    | noticeTransmitComplete => exact keeps_act keeps_noticeSent h e
    | computationComplete => exact keeps_act keeps_completeComputation h e
    | quoteLapse t => exact keeps_act (fun h => keeps_ite (keeps_lapse t h) h) h e
    | reopenWindowEnd k => exact keeps_act (fun h => keeps_ite (keeps_endReopen k h) h) h e
    | resetAssert => cases e; exact keeps_lines _ h
    | resetRelease => cases e; exact keeps_conclude (keeps_startByMarker (keeps_lines _ h))
    | retentionSupplyLoss => cases e; exact keeps_retentionIntact _ h
    | powerLoss cuts =>
      cases e
      exact keeps_lines _ (keeps_ite (keeps_ite (keeps_retentionIntact _ h) h) h)
    | secondTick => exact keeps_elapse h e
    | minuteBoundary => exact keeps_elapse (keeps_time _ h) e
    | scanVisit => exact keeps_act keeps_scanVisit h e
    | lockoutEnd t => exact keeps_act id h e
    | inactivityExpiry t => exact keeps_act (fun h => keeps_ite (keeps_signOff t h) h) h e
    | pollRound => exact keeps_act (fun h => keeps_ite (keeps_startRound h) h) h e
    | probeMark => exact keeps_act (fun h => keeps_ite (keeps_markProbes h) h) h e
    | attentionAssert => exact keeps_act keeps_attentionAssert h e
    | pollAccept b l => exact keeps_act (keeps_answered b (fun x c => keeps_acceptPoll l x c)) h e
    | probeAccept b v => exact keeps_act (keeps_answered b (fun x c => keeps_acceptProbe v x c)) h e
    | pulseAccept b => exact keeps_act (keeps_answered b (fun x c => keeps_acceptPulse x c)) h e
    | traceReadAccept b l => exact keeps_act (keeps_answered b (fun x c => keeps_acceptTrace l x c)) h e
    | relayAccept b => exact keeps_act (keeps_answered b (fun x c => keeps_acceptRelay x c)) h e
    | busyAnswer b => exact keeps_act (keeps_answered b (fun x _ => keeps_busyHeard x)) h e
    | wakeAnswer b => exact keeps_act (keeps_answered b (fun x _ => keeps_wakeHeard x)) h e
    | busyRetryWaitEnd => exact keeps_act (keeps_endRetryWait _) h e
    | wakeRetryWaitEnd => exact keeps_act (keeps_endRetryWait _) h e
    | noAnswer => exact keeps_act (keeps_onAttempt fun x => keeps_heardNothing x) h e
    | stall => exact keeps_act (keeps_onAttempt fun x => keeps_stalled x) h e
    | holdAllSent => exact keeps_act (fun h => keeps_ite (keeps_cutPulses (keeps_setUse _ h)) h) h e
    | sleepAllSent => exact keeps_act (fun h => keeps_ite (keeps_sleepColumns (keeps_setUse _ h)) h) h e
    | wakeAllSent => exact keeps_act (fun h => keeps_ite (keeps_dormancy _ (keeps_setUse _ h)) h) h e
    | wakeSettleEnd => exact keeps_act (fun h => keeps_ite (keeps_wakeSettled h) h) h e
    | pulseEnd n =>
      exact keeps_act (fun h =>
        keeps_ite (keeps_lookOver (keeps_notePulseEnd n _ (keeps_leaveCommitted n h))) h) h e
    | restartGuardElapsed => exact keeps_act keeps_restartGuard h e
    | holdLineAssert => exact keeps_holdLine h e
    | holdLineRelease => exact keeps_holdLine h e
    | confirmExpiry n => exact keeps_act (fun h => keeps_ite (keeps_confirmExpired n h) h) h e
    | openLimitExpiry n => exact keeps_act (fun h => keeps_ite (keeps_openLimitExpired n h) h) h e
    | ajarExpiry n => exact keeps_act (fun h => keeps_ite (keeps_ajarExpired n h) h) h e
    | idleExpiry => exact keeps_act (fun h => keeps_ite (keeps_enqueueBroadcast _ (keeps_dormancy _ h)) h) h e
    | scrubVisit => exact keeps_act keeps_scrubVisit h e
    | _ => cases hr

theorem keeps_step (h : step s = .next t) : Keeps False False s t := by
  unfold step at h
  split at h
  · cases h
    exact Keeps.refl _
  · next c rest _ =>
    have hpopped : Keeps False False s { s with pending := rest } := keeps_of_watched (Keeps.refl s) rfl
    exact keeps_exec c hpopped h

/-! ### The obligations -/

/-- Settles O5. Every function of the model keeps the bounds (`keeps_step`): what joins a queue is met by a check of
its length, and a hand-off reserves its place beside at most six in use. -/
theorem queueBoundsAreKept : Obligations.QueueBoundsAreKept := fun _ _ hlink hnotices hops h =>
  ⟨(keeps_step h).link hlink, (keeps_step h).notices hnotices, (keeps_step h).operations hops⟩

/-- Settles O6. A request joins the committed set only while it is eligible: below the budget, and beside pulses on other
columns and compartments; the budget is written through its range. -/
theorem pulseBoundsAreKept : Obligations.PulseBoundsAreKept := fun _ _ hs h => (keeps_step h).pulses hs

/-- Settles O7. Every write of an entry seals it with its check byte. -/
theorem tablesStayGood : Obligations.TablesStayGood := fun _ _ hs h => (keeps_step h).good hs

/-- Settles O8. A plan or window is written only in range, and a snapshot copies the tables. -/
theorem chargeTablesStayInRange : Obligations.ChargeTablesStayInRange := fun _ _ hs h => (keeps_step h).charges hs

end Sys2Proof.Machine

/-! PROOFS. The request bodies read back (12.2, R213, R214, R218). -/

namespace Sys2Proof.Wire

/-! ### Multi-octet fields -/

theorem oct2_val2 (a b : Byte) : oct2 (val2 a b) = [a, b] := by
  rw [oct2, val2, BitVec.extractLsb'_append_eq_left, BitVec.extractLsb'_append_eq_right]

theorem oct3_val3 (a b c : Byte) : oct3 (val3 a b c) = [a, b, c] := by
  have htop : (a ++ b ++ c).extractLsb' 16 8 = (a ++ b).extractLsb' 8 8 :=
    BitVec.extractLsb'_append_eq_of_le (by decide)
  have hmiddle : (a ++ b ++ c).extractLsb' 8 8 = (a ++ b).extractLsb' 0 8 :=
    BitVec.extractLsb'_append_eq_of_le (by decide)
  rw [oct3, val3, htop, hmiddle, BitVec.extractLsb'_append_eq_left, BitVec.extractLsb'_append_eq_right,
    BitVec.extractLsb'_append_eq_right]

theorem oct4_val4 (a b c d : Byte) : oct4 (val4 a b c d) = [a, b, c, d] := by
  have hlow : (a ++ b ++ c ++ d).extractLsb' 0 8 = d := BitVec.extractLsb'_append_eq_right
  have hrest : ∀ k, (a ++ b ++ c ++ d).extractLsb' (8 + k) 8 = (a ++ b ++ c).extractLsb' k 8 := fun k =>
    (BitVec.extractLsb'_append_eq_of_le (Nat.le_add_right _ _)).trans (by rw [Nat.add_sub_cancel_left])
  have hthree := oct3_val3 a b c
  rw [oct3, val3] at hthree
  simp only [List.cons.injEq, and_true] at hthree
  obtain ⟨ha, hb, hc⟩ := hthree
  rw [oct4, val4, hlow, hrest 16, hrest 8, hrest 0, ha, hb, hc]

theorem eq_ofNat_of_toNat {kind : Byte} {n : Nat} (h : kind.toNat = n) : kind = BitVec.ofNat 8 n := by
  rw [← h, BitVec.ofNat_toNat, BitVec.setWidth_eq]

/-! ### The octets of a request read back -/

theorem read4_oct4 (k : BitVec 32 → Request) (w : BitVec 32) : read4 k (oct4 w) = .request (k w) := by
  show Parsed.request (k (val4 _ _ _ _)) = _
  rw [val4_octets]

theorem takeOptional3_optional (c : Option (BitVec 24)) (l : List Byte) :
    takeOptional3 (optional oct3 c ++ l) = some (c, l) := by
  cases c with
  | none => rfl
  | some w =>
    show some (some (val3 _ _ _), l) = _
    rw [val3_octets]

theorem vector4_eta {α : Type} (v : Vector α 4) : #v[v[0], v[1], v[2], v[3]] = v := by
  ext i hi
  match i, hi with
  | 0, _ | 1, _ | 2, _ | 3, _ => rfl

theorem readPlan_planOctets (p : PlanFields) : readPlan (planOctets p) = .request (.writeTariff p) := by
  have htail : readPlan (planOctets p) = readPlanTail p.free p.block p.rates[0] p.rates[1] p.rates[2] p.rates[3]
      (optional oct3 p.caps[0] ++ (optional oct3 p.caps[1] ++ (optional oct3 p.caps[2] ++ (optional oct3 p.caps[3] ++
        (p.peak :: (oct2 p.expiry ++ oct2 p.window)))))) := by
    simp only [planOctets, List.append_assoc, List.cons_append, List.nil_append]
    show readPlanTail (val2 _ _) (val2 _ _) (val3 _ _ _) (val3 _ _ _) (val3 _ _ _) (val3 _ _ _) _ = _
    simp only [val2_octets, val3_octets]
    rfl
  rw [htail, readPlanTail, takeOptional3_optional]
  dsimp only
  rw [takeOptional3_optional]
  dsimp only
  rw [takeOptional3_optional]
  dsimp only
  rw [takeOptional3_optional]
  show Parsed.request (.writeTariff { p with
    rates := #v[p.rates[0], p.rates[1], p.rates[2], p.rates[3]]
    caps := #v[p.caps[0], p.caps[1], p.caps[2], p.caps[3]]
    expiry := val2 _ _, window := val2 _ _ }) = _
  rw [val2_octets, val2_octets, vector4_eta, vector4_eta]

theorem readPairs_flatMap (l : List (Byte × BitVec 16)) : readPairs (l.flatMap (fun p => p.1 :: oct2 p.2)) = some l := by
  induction l with
  | nil => rfl
  | cons p l ih =>
    show (readPairs (l.flatMap _)).map (fun ps => (p.1, val2 _ _) :: ps) = _
    rw [ih, val2_octets]
    rfl

theorem vector12_eta {α : Type} (v : Vector α 12) :
    #v[v[0], v[1], v[2], v[3], v[4], v[5], v[6], v[7], v[8], v[9], v[10], v[11]] = v := by
  ext i hi
  match i, hi with
  | 0, _ | 1, _ | 2, _ | 3, _ | 4, _ | 5, _ | 6, _ | 7, _ | 8, _ | 9, _ | 10, _ | 11, _ => rfl

theorem vector12_toList {α : Type} (v : Vector α 12) :
    v.toList = [v[0], v[1], v[2], v[3], v[4], v[5], v[6], v[7], v[8], v[9], v[10], v[11]] := by
  conv_lhs => rw [← vector12_eta v]
  rfl

/-- The form a WRITE's fields are read back in is that of the cursor's table. -/
theorem readBody_bodyOctets {table : TableId} {r : Request} (hwell : r.wellFormed = true)
    (hfits : Machine.fitsTable table r = true) : readBody table (classOfRequest r) (bodyOctets r) = .request r := by
  cases r with
  | signOn _ | deposit _ | returnDrop _ | collect _ | withdraw _ | retire _ => exact read4_oct4 _ _
  | tender a t =>
    show Parsed.request (.tender (val3 _ _ _) (val4 _ _ _ _)) = _
    rw [val3_octets, val4_octets]
  | statusParcel ref =>
    show Parsed.request (.statusParcel (val4 _ _ _ _)) = _
    rw [val4_octets]
  | relay c k m =>
    simp only [Request.wellFormed, Bool.and_eq_true, decide_eq_true_eq] at hwell
    exact if_pos hwell
  | advise a =>
    show Parsed.request (.advise { a with ref := val4 _ _ _ _, prepaid := val3 _ _ _, code := val4 _ _ _ _ }) = _
    rw [val4_octets, val4_octets, val3_octets]
  | reissue ref code =>
    show Parsed.request (.reissue (val4 _ _ _ _) (val4 _ _ _ _)) = _
    rw [val4_octets, val4_octets]
  | enrolCourier code _ _ _ =>
    show Parsed.request (.enrolCourier (val4 _ _ _ _) _ _ _) = _
    rw [val4_octets]
  | timeSet m _ =>
    show Parsed.request (.timeSet (val4 _ _ _ _) _) = _
    rw [val4_octets]
  | mask m =>
    show readMgmtClass table 0x30 m.toList = _
    rw [vector12_toList]
    show Parsed.request (.mask #v[_, _, _, _, _, _, _, _, _, _, _, _]) = _
    rw [vector12_eta]
  | cursor t i m =>
    show Parsed.request (.cursor t (val2 _ _) m) = _
    rw [val2_octets]
  | writeTariff p =>
    obtain rfl : table = .tariff := by simpa [Machine.fitsTable] using hfits
    exact readPlan_planOctets p
  | writePeak a b m =>
    obtain rfl : table = .peak := by simpa [Machine.fitsTable] using hfits
    show Parsed.request (.writePeak (val2 _ _) (val2 _ _) (val2 _ _)) = _
    rw [val2_octets, val2_octets, val2_octets]
  | writeMap p c =>
    obtain rfl : table = .map := by simpa [Machine.fitsTable] using hfits
    cases p <;> rfl
  | writeColumn a b c =>
    obtain rfl : table = .column := by simpa [Machine.fitsTable] using hfits
    rfl
  | write f =>
    cases table with
    | tariff | peak | map | column => simp [Machine.fitsTable] at hfits
    | parcel | credential | returnQueue | counters | snapshot => rfl
  | configSet l =>
    show (match readPairs (l.flatMap (fun p => p.1 :: oct2 p.2)) with
      | some (p :: ps) => Parsed.request (.configSet (p :: ps))
      | _ => .malformed) = _
    rw [readPairs_flatMap]
    cases l with
    | nil => simp [Request.wellFormed] at hwell
    | cons p l => rfl
  | clearStranded w =>
    show Parsed.request (.clearStranded (val2 _ _)) = _
    rw [val2_octets]
  | clearQuarantine w =>
    show Parsed.request (.clearQuarantine (val2 _ _)) = _
    rw [val2_octets]
  | _ => rfl

/-! ### Only a request's own octets are read as it -/

/-- The octets behind a kind are those of the request, in its class and for the cursor's table. -/
def Written (table : TableId) (c : FrameClass) (kind : Byte) (f : List Byte) (r : Request) : Prop :=
  bodyOctets r = kind :: f ∧ classOfRequest r = c ∧ r.wellFormed = true ∧ Machine.fitsTable table r = true

/-- What is read from the octets, if it is a request, is written so. -/
def ReadsOnly (table : TableId) (c : FrameClass) (kind : Byte) (f : List Byte) (p : Parsed) : Prop :=
  ∀ r, p = .request r → Written table c kind f r

variable {table : TableId} {c : FrameClass} {kind : Byte} {f : List Byte}

theorem readsOnly_malformed : ReadsOnly table c kind f .malformed := fun _ h => by cases h
theorem readsOnly_unknownKind : ReadsOnly table c kind f .unknownKind := fun _ h => by cases h

theorem readsOnly_request {r : Request} (h : Written table c kind f r) : ReadsOnly table c kind f (.request r) :=
  fun _ e => by cases e; exact h

theorem readsOnly_read0 {r : Request} (h : Written table c kind [] r) : ReadsOnly table c kind f (read0 r f) := by
  unfold read0
  split
  · exact readsOnly_request h
  · exact readsOnly_malformed

theorem readsOnly_read1 {k : Byte → Request} (h : ∀ a, Written table c kind [a] (k a)) :
    ReadsOnly table c kind f (read1 k f) := by
  unfold read1
  split
  · exact readsOnly_request (h _)
  · exact readsOnly_malformed

theorem readsOnly_read4 {k : BitVec 32 → Request} (h : ∀ w, Written table c kind (oct4 w) (k w)) :
    ReadsOnly table c kind f (read4 k f) := by
  unfold read4
  split
  · refine readsOnly_request ?_
    rw [← oct4_val4]
    exact h _
  · exact readsOnly_malformed

/-- A request is written by its octets when its class, its bounds and its table are those. -/
theorem written_of_fields {r : Request} (hf : fieldOctets r = f) (hk : kindOctet r = kind) (hc : classOfRequest r = c)
    (hw : r.wellFormed = true) (ht : Machine.fitsTable table r = true) : Written table c kind f r :=
  ⟨by rw [bodyOctets, hf, hk], hc, hw, ht⟩

theorem readsOnly_requestClass : ReadsOnly table .request kind f (readRequestClass kind f) := by
  unfold readRequestClass
  split
  case h_1 hk | h_3 hk | h_4 hk | h_6 hk =>
    obtain rfl := eq_ofNat_of_toNat hk
    exact readsOnly_read4 fun _ => ⟨rfl, rfl, rfl, rfl⟩
  case h_2 hk | h_5 hk | h_8 hk | h_9 hk | h_10 hk =>
    obtain rfl := eq_ofNat_of_toNat hk
    exact readsOnly_read0 ⟨rfl, rfl, rfl, rfl⟩
  case h_7 hk =>
    obtain rfl := eq_ofNat_of_toNat hk
    split
    · exact readsOnly_request (written_of_fields (by rw [fieldOctets, oct3_val3, oct4_val4]; rfl) rfl rfl rfl rfl)
    · exact readsOnly_malformed
  case h_11 hk =>
    obtain rfl := eq_ofNat_of_toNat hk
    split
    · split
      · next h => exact readsOnly_request (written_of_fields (by rw [h]; rfl) rfl rfl rfl rfl)
      · exact readsOnly_malformed
    · split
      · next h => exact readsOnly_request (written_of_fields (by rw [fieldOctets, oct4_val4, h]; rfl) rfl rfl rfl rfl)
      · exact readsOnly_malformed
    · exact readsOnly_malformed
  case h_12 hk =>
    obtain rfl := eq_ofNat_of_toNat hk
    split
    · split
      · next h => exact readsOnly_request (written_of_fields rfl rfl rfl (by simpa [Request.wellFormed] using h) rfl)
      · exact readsOnly_malformed
    · exact readsOnly_malformed
  case h_13 => exact readsOnly_unknownKind

theorem takeOptional3_eq {l rest : List Byte} {v : Option (BitVec 24)} (h : takeOptional3 l = some (v, rest)) :
    l = optional oct3 v ++ rest := by
  unfold takeOptional3 at h
  split at h
  · split at h
    · next hp =>
      cases h
      rw [eq_ofNat_of_toNat hp]
      rfl
    · next hp =>
      cases h
      rw [eq_ofNat_of_toNat hp]
      show _ = _ :: (oct3 (val3 _ _ _) ++ _)
      rw [oct3_val3]
      rfl
    · cases h
  · cases h

theorem readsOnly_plan : ReadsOnly .tariff .mgmt 0x34 f (readPlan f) := by
  unfold readPlan
  split
  · unfold readPlanTail
    split
    · exact readsOnly_malformed
    next h0 =>
    split
    · exact readsOnly_malformed
    next h1 =>
    split
    · exact readsOnly_malformed
    next h2 =>
    split
    · exact readsOnly_malformed
    next h3 =>
    split
    · refine readsOnly_request (written_of_fields ?_ rfl rfl rfl rfl)
      rw [takeOptional3_eq h0, takeOptional3_eq h1, takeOptional3_eq h2, takeOptional3_eq h3, fieldOctets, planOctets]
      simp [oct2_val2, oct3_val3]
    · exact readsOnly_malformed
  · exact readsOnly_malformed

theorem readsOnly_write (hlen : f.length ≤ 120) : ReadsOnly table .mgmt 0x34 f (readWrite table f) := by
  have hraw : ∀ {table}, Machine.fitsTable table (.write f) = true → ReadsOnly table .mgmt 0x34 f (.request (.write f)) :=
    fun ht => readsOnly_request (written_of_fields rfl rfl rfl (by simpa [Request.wellFormed] using hlen) ht)
  cases table with
  | tariff => exact readsOnly_plan
  | peak =>
    dsimp only [readWrite]
    split
    · exact readsOnly_request (written_of_fields (by simp [fieldOctets, oct2_val2]) rfl rfl rfl rfl)
    · exact readsOnly_malformed
  | map =>
    dsimp only [readWrite]
    split
    · split
      · next h => exact readsOnly_request (written_of_fields (by rw [h]; rfl) rfl rfl rfl rfl)
      · exact readsOnly_malformed
    · split
      · next h => exact readsOnly_request (written_of_fields (by rw [h]; rfl) rfl rfl rfl rfl)
      · exact readsOnly_malformed
    · exact readsOnly_malformed
  | column =>
    dsimp only [readWrite]
    split
    · exact readsOnly_request (written_of_fields rfl rfl rfl rfl rfl)
    · exact readsOnly_malformed
  | parcel | credential | returnQueue | counters | snapshot => exact hraw rfl

theorem readPairs_eq {l : List (Byte × BitVec 16)} (h : readPairs f = some l) :
    f = l.flatMap (fun p => p.1 :: oct2 p.2) := by
  induction f using readPairs.induct generalizing l with
  | case1 => cases h; rfl
  | case2 n v1 v0 rest ih =>
    rw [readPairs, Option.map_eq_some_iff] at h
    obtain ⟨ps, hps, rfl⟩ := h
    rw [List.flatMap_cons, ← ih hps, oct2_val2]
    rfl
  | case3 f hnil hcons =>
    rw [readPairs] at h
    · cases h
    · exact hnil
    · exact hcons

theorem length_flatMap_pairs (l : List (Byte × BitVec 16)) :
    (l.flatMap (fun p => p.1 :: oct2 p.2)).length = 3 * l.length := by
  induction l with
  | nil => rfl
  | cons p l ih =>
    rw [List.flatMap_cons, List.length_append, ih]
    simp [oct2]
    omega

theorem readsOnly_mgmtClass (hlen : f.length ≤ 120) : ReadsOnly table .mgmt kind f (readMgmtClass table kind f) := by
  unfold readMgmtClass
  split
  case h_1 hk =>
    obtain rfl := eq_ofNat_of_toNat hk
    split
    · exact readsOnly_request (written_of_fields (by rw [fieldOctets, oct4_val4, oct3_val3, oct4_val4]; rfl)
        rfl rfl rfl rfl)
    · exact readsOnly_malformed
  case h_2 hk | h_7 hk =>
    obtain rfl := eq_ofNat_of_toNat hk
    exact readsOnly_read4 fun _ => ⟨rfl, rfl, rfl, rfl⟩
  case h_3 hk =>
    obtain rfl := eq_ofNat_of_toNat hk
    split
    · exact readsOnly_request (written_of_fields (by rw [fieldOctets, oct4_val4, oct4_val4]; rfl) rfl rfl rfl rfl)
    · exact readsOnly_malformed
  case h_4 hk | h_6 hk =>
    obtain rfl := eq_ofNat_of_toNat hk
    split
    · exact readsOnly_request (written_of_fields (by rw [fieldOctets, oct4_val4]; rfl) rfl rfl rfl rfl)
    · exact readsOnly_malformed
  case h_5 hk | h_8 hk | h_9 hk | h_10 hk | h_11 hk | h_12 hk | h_13 hk =>
    obtain rfl := eq_ofNat_of_toNat hk
    exact readsOnly_read1 fun _ => ⟨rfl, rfl, rfl, rfl⟩
  case h_14 hk | h_15 hk | h_16 hk | h_18 hk | h_20 hk | h_23 hk | h_24 hk | h_25 hk | h_28 hk | h_29 hk =>
    obtain rfl := eq_ofNat_of_toNat hk
    exact readsOnly_read0 ⟨rfl, rfl, rfl, rfl⟩
  case h_17 hk =>
    obtain rfl := eq_ofNat_of_toNat hk
    split
    · exact readsOnly_request (written_of_fields rfl rfl rfl rfl rfl)
    · exact readsOnly_malformed
  case h_19 hk =>
    obtain rfl := eq_ofNat_of_toNat hk
    split
    · exact readsOnly_request (written_of_fields (by rw [fieldOctets, oct2_val2]; rfl) rfl rfl rfl rfl)
    · exact readsOnly_malformed
  case h_21 hk =>
    obtain rfl := eq_ofNat_of_toNat hk
    exact readsOnly_write hlen
  case h_22 hk =>
    obtain rfl := eq_ofNat_of_toNat hk
    split
    · next p ps h =>
      have hf := readPairs_eq h
      have hpairs : 3 * (ps.length + 1) ≤ 120 := by
        rw [hf, length_flatMap_pairs] at hlen
        exact hlen
      refine readsOnly_request (written_of_fields hf.symm rfl rfl ?_ rfl)
      simp [Request.wellFormed]
      omega
    · exact readsOnly_malformed
  case h_26 hk | h_27 hk =>
    obtain rfl := eq_ofNat_of_toNat hk
    split
    · exact readsOnly_request (written_of_fields (by rw [fieldOctets, oct2_val2]) rfl rfl rfl rfl)
    · exact readsOnly_malformed
  case h_30 => exact readsOnly_unknownKind

/-- Settles O4. Each layout is read by the pattern it is written with; only a presence octet, a selector or a length
decides between two. -/
theorem requestBodyReadsBack : Obligations.RequestBodyReadsBack := by
  refine ⟨fun table r => readBody_bodyOctets, fun table c body r hlen h => ?_⟩
  cases body with
  | nil => cases h
  | cons kind f =>
    cases c with
    | request => exact readsOnly_requestClass r h
    | mgmt => exact readsOnly_mgmtClass (Nat.le_of_succ_le_succ hlen) r h

end Sys2Proof.Wire

/-! PROOFS. How a request sent to a ready part is taken, and what follows every taking (9.3, 9.4, 7.3 to 7.5). -/

namespace Sys2Proof.Machine

variable {s : State}

/-! ### A ready part takes a request at once (R176, R177) -/

/-- The entry a request's frame makes. -/
def entryOf (tag o : Byte) (r : Request) : FifoEntry :=
  { cls := Wire.classOfRequest r, tag := tag, origin := o, body := Wire.bodyOctets r }

theorem conclude_of_not_ready (h : handOffReady s = false) : conclude s = settle s := by
  rw [conclude, h]
  rfl

/-- A lone entry is handed off, and what follows its taking ends the command. -/
theorem conclude_singleton {e : FifoEntry} (hfifo : s.link.fifo = [e]) (hplaces : placesInUse s ≤ 6) :
    conclude s = settle (takeEntry e { s with link := { s.link with fifo := [], reserved := s.link.reserved + 1 } }) := by
  have hready : handOffReady s = true := (handOffReady_iff s).mpr ⟨by simp [hfifo], hplaces⟩
  have hlen : s.link.fifo.length = 1 := by rw [hfifo]; rfl
  have htaken : handOff s = takeEntry e { s with link := { s.link with fifo := [], reserved := s.link.reserved + 1 } } := by
    unfold handOff
    split
    · next hnil => rw [hfifo] at hnil; cases hnil
    · next hcons => rw [hfifo] at hcons; cases hcons; rfl
  rw [conclude, if_pos hready, hlen, handOffs, if_pos hready, htaken]
  rfl

theorem request_ready (tag o : Byte) (r : Request) (h : Ready s) :
    request tag o r s = .next (settle (takeEntry (entryOf tag o r) (reserve s))) := by
  obtain ⟨hrunning, hfifo, hplaces⟩ := h
  have hoffered : offerRequest tag o r s = { s with link := { s.link with fifo := [entryOf tag o r] } } := by
    rw [offerRequest, offer, if_pos (by rw [hfifo]; decide), hfifo]
    rfl
  have hreserve : { s with link := { s.link with fifo := [], reserved := s.link.reserved + 1 } } = reserve s := by
    rw [reserve, ← hfifo]
  rw [request, act, if_pos hrunning, hoffered, ← hreserve]
  exact congrArg Host.Outcome.next (conclude_singleton rfl hplaces)

/-- The header of a request's replies. -/
def headerOf (tag : Byte) (o : Origin) (r : Request) : Header := { kind := Wire.kindOctet r, tag := tag, origin := o }

theorem takeEntry_request {tag : Byte} {o : Origin} {r : Request} (hwell : r.wellFormed = true)
    (hfits : fitsTable s.mgmt.cursor.table r = true) :
    takeEntry (entryOf tag (originOctet o) r) s = requestTakenFrom o (takeRequest (headerOf tag o r) r s) := by
  unfold takeEntry entryOf
  rw [origin_octet]
  dsimp only
  rw [Wire.readBody_bodyOctets hwell hfits]
  rfl

/-- A well-formed request sent to a ready part is taken by its owner as sent. -/
theorem exec_ready {i : Instr} {tag : Byte} {o : Origin} {r : Request} (hi : i.request? = some (tag, originOctet o, r))
    (h : Ready s) (hwell : r.wellFormed = true) (hfits : fitsTable s.mgmt.cursor.table r = true) :
    exec i s = .next (settle (requestTakenFrom o (takeRequest (headerOf tag o r) r (reserve s)))) := by
  rw [exec_of_request? hi, request_ready _ _ _ h, takeEntry_request (s := reserve s) hwell hfits]

/-- The taking of a request sent to a ready part, its outcome known. -/
theorem exec_taken {i : Instr} {tag : Byte} {o : Origin} {r : Request} (hi : i.request? = some (tag, originOctet o, r))
    (h : Ready s) (hwell : r.wellFormed = true) (hfits : fitsTable s.mgmt.cursor.table r = true) {t : State}
    (ht : requestTakenFrom o (takeRequest (headerOf tag o r) r (reserve s)) = t) : exec i s = .next (settle t) := by
  rw [exec_ready hi h hwell hfits, ht]

/-- A reply to a request just handed off fills its place. -/
theorem placeReply_reserve (r : Reply) (s : State) : placeReply r (reserve s) = replied r.tag r.origin r.body s :=
  if_neg (Nat.succ_ne_zero _)

theorem answer_reserve (h : Header) (l : List Byte) (s : State) :
    answer h l (reserve s) = replied h.tag (originOctet h.origin) (h.kind :: 0x00 :: l) s := placeReply_reserve _ s

theorem refuse_reserve (h : Header) {c : ReplyCode} (hc : c ≠ .noMatch) (s : State) :
    refuse h c (reserve s) = replied h.tag (originOctet h.origin) [h.kind, replyOctet c] s := by
  rw [refuse, if_neg hc, placeReply_reserve]
  rfl

/-! ### Refusals by origin (R178) -/

theorem origin_none {o : Byte} (hlow : 4 ≤ o.toNat) (hoffice : o ≠ 0x0F) : origin? o = none := by
  rw [origin?, dif_neg (Nat.not_lt.mpr hlow)]
  exact if_neg hoffice

/-- A request of class MGMT comes from OFFICE alone. -/
theorem takeRequest_mgmt_terminal {h : Header} {t : Term} {r : Request} (ho : h.origin = .terminal t)
    (hr : Wire.classOfRequest r = .mgmt) (s : State) : takeRequest h r s = refuse h .notPermitted s := by
  obtain ⟨kind, tag, _⟩ := h
  subst ho
  cases r with
  | signOn _ | signOff | deposit _ | returnDrop _ | abandon | collect _ | tender _ _ | cancel | sweepStart | sweepStop
  | statusCompartment _ | statusParcel _ | relay _ _ _ => cases hr
  | _ => rfl

/-- A request of class REQUEST comes from a terminal; STATUS and RELAY may come from OFFICE too. -/
theorem takeRequest_request_office {h : Header} {r : Request} (ho : h.origin = .office)
    (hr : Wire.classOfRequest r = .request) (hstatus : Wire.kindOctet r ≠ 0x0B) (hrelay : Wire.kindOctet r ≠ 0x0C)
    (s : State) : takeRequest h r s = refuse h .notPermitted s := by
  obtain ⟨kind, tag, _⟩ := h
  subst ho
  cases r with
  | signOn _ | signOff | deposit _ | returnDrop _ | abandon | collect _ | tender _ _ | cancel | sweepStart | sweepStop =>
    rfl
  | statusCompartment _ | statusParcel _ => exact absurd rfl hstatus
  | relay _ _ _ => exact absurd rfl hrelay
  | _ => cases hr

/-- Settles O3. The FIFO holds the request's entry alone, so it is handed off, and its body reads back as the request. -/
theorem readyRequestIsTakenByItsOwner : Obligations.ReadyRequestIsTakenByItsOwner := by
  refine ⟨fun s i tag o r hi h hwell hfits => exec_ready hi h hwell hfits, fun s i tag o r hi h =>
    ⟨fun hlow hoffice => ?_, fun hwell hfits => ⟨fun t ho hr => ?_, fun ho hr hstatus hrelay => ?_⟩⟩⟩
  · rw [exec_of_request? hi, request_ready _ _ _ h, takeEntry]
    rw [show (entryOf tag o r).origin = o from rfl, origin_none hlow hoffice]
    dsimp only
    rw [placeReply_reserve]
    rfl
  · subst ho
    rw [exec_ready hi h hwell hfits, takeRequest_mgmt_terminal rfl hr, refuse_reserve _ (by decide)]
    rfl
  · subst ho
    rw [exec_ready hi h hwell hfits, takeRequest_request_office rfl hr hstatus hrelay, refuse_reserve _ (by decide)]
    rfl

end Sys2Proof.Machine

/-! PROOFS. What follows every taking: the part at rest, and the hand-offs one after another (9.3, 9.4, 7.3 to 7.5). -/

namespace Sys2Proof.Machine

variable {s t : State}

/-! ### The hand-offs (R177) -/

/-- A hand-off takes an entry off the FIFO, and neither its taking nor what follows adds one. -/
theorem settle_handOff_fifo_lt (h : handOffReady s = true) :
    (settle (handOff s)).link.fifo.length < s.link.fifo.length := by
  obtain ⟨hfifo, -⟩ := (handOffReady_iff s).mp h
  have hsettled : (settle (handOff s)).link.fifo.length ≤ (handOff s).link.fifo.length :=
    (keeps_settle (taking := True) (quoting := False) (Keeps.refl _)).fifo trivial
  refine Nat.lt_of_le_of_lt hsettled ?_
  unfold handOff
  split
  · next hnil => exact absurd hnil hfifo
  · next e rest hcons =>
    have htaken := (keeps_takeEntry (taking := True) e (Keeps.refl
      { s with link := { s.link with fifo := rest, reserved := s.link.reserved + 1 } })).fifo trivial
    rw [hcons]
    exact Nat.lt_succ_of_le htaken

theorem handOffs_succ (fuel : Nat) (h : handOffReady s = true) :
    handOffs (fuel + 1) s = handOffs fuel (settle (handOff s)) := if_pos h

theorem handOffs_of_not_ready (fuel : Nat) (h : ¬ handOffReady s = true) : handOffs fuel s = s := by
  cases fuel with
  | zero => rfl
  | succ fuel => exact if_neg h

/-- Any bound at or above the FIFO's length lets the same hand-offs through. -/
theorem handOffs_of_le (fuel : Nat) : ∀ {s : State} {n : Nat}, s.link.fifo.length ≤ n → n ≤ fuel →
    handOffs fuel s = handOffs n s := by
  induction fuel with
  | zero =>
    intro s n _ hn
    rw [Nat.le_zero.mp hn]
  | succ fuel ih =>
    intro s n hle hn
    by_cases hready : handOffReady s = true
    · have hless := settle_handOff_fifo_lt hready
      cases n with
      | zero => omega
      | succ n => rw [handOffs_succ _ hready, handOffs_succ _ hready, ih (by omega) (Nat.le_of_succ_le_succ hn)]
    · rw [handOffs_of_not_ready _ hready, handOffs_of_not_ready _ hready]

theorem handOffs_eq_conclude {fuel : Nat} (hle : s.link.fifo.length ≤ fuel) :
    handOffs fuel s = if handOffReady s then conclude s else s := by
  split
  · next hready => rw [conclude, if_pos hready, handOffs_of_le fuel (Nat.le_refl _) hle]
  · next hnot => exact handOffs_of_not_ready _ hnot

theorem conclude_of_ready (h : handOffReady s = true) :
    conclude s = if handOffReady (settle (handOff s)) then conclude (settle (handOff s)) else settle (handOff s) := by
  have hless := settle_handOff_fifo_lt h
  obtain ⟨n, hn⟩ : ∃ n, s.link.fifo.length = n + 1 := ⟨_, (Nat.succ_pred_eq_of_pos (by omega)).symm⟩
  rw [conclude, if_pos h, hn, handOffs_succ _ h]
  exact handOffs_eq_conclude (by omega)

/-! ### A part at rest (R69, R111, R131, R211) -/

theorem chargeStarts_of_rest (h : s.charge.running.isSome = true ∨ s.charge.queue = []) : chargeStarts s = s := by
  rw [chargeStarts, startComputations]
  split
  · next hrunning hqueue =>
    rcases h with h | h
    · rw [hrunning] at h; cases h
    · rw [hqueue] at h; cases h
  · rfl

theorem walkOn_of_rest (h : s.returns.sweep.all (fun w => w.current.isSome) = true) : walkOn s = s := by
  unfold walkOn
  split
  · next w hw =>
    rw [hw] at h
    split
    · next hcurrent =>
      change w.current.isSome = true at h
      rw [hcurrent] at h
      cases h
    · rfl
  · rfl

theorem endWakeRound_of_rest (h : s.dormancy.wakeRound ≠ some []) : endWakeRound s = s := by
  unfold endWakeRound
  split
  · next hround => exact absurd hround h
  · rfl

theorem refill_of_no_overflow {b : ColumnBus} (h : b.overflow = []) : refill b = b := by
  rw [refill, h, List.take_nil, List.drop_nil, List.append_nil, ← h]

theorem enqueueOp_of_room {op : Op} (h : s.bus.queue.length < 16) :
    enqueueOp op s = { s with bus := { s.bus with queue := s.bus.queue ++ [op] } } := if_pos h

/-! ### The next POLL and PROBE (R128, R129, R134) -/

theorem roundsRun_iff (s : State) : roundsRun s = true ↔ s.dormancy.state = .awake ∨ s.dormancy.wakeRound ≠ none := by
  simp [roundsRun, Option.isSome_iff_ne_none]

theorem nextPoll_eq (s : State) : nextPoll s = (s.bus.returning.find? (fun c => columnPresent c s)).or
    (if s.dormancy.state = .awake ∨ s.dormancy.wakeRound ≠ none then
      (List.finRange 12).find? (fun c => columnPresent c s && s.bus.columns[c].pollDue)
    else none) := by
  unfold nextPoll
  cases s.bus.returning.find? (fun c => columnPresent c s) with
  | some c => rfl
  | none => simp only [roundsRun_iff, Option.none_or]; rfl

/-- The column the next POLL is queued for. -/
def polled? (s : State) : Option Col :=
  if (allOps s).any isPoll then none
  else (s.bus.returning.find? (fun c => columnPresent c s)).or
    (if s.dormancy.state = .awake ∨ s.dormancy.wakeRound ≠ none then
      (List.finRange 12).find? (fun c => columnPresent c s && s.bus.columns[c].pollDue)
    else none)

/-- The column the next PROBE is queued for. -/
def probed? (s : State) : Option Col :=
  if (allOps s).any isProbe = true ∨ s.dormancy.state ≠ .awake then none
  else (List.finRange 12).find? (fun c => s.bus.columns[c].probeDue)

/-- A PROBE of the column, an enumeration's own while it still owes the column one. -/
def probeOf (s : State) (c : Col) : Op := .probe c (s.bus.enumeration.any (fun en => en.todo.contains c))

theorem queuePoll_of_room (h : s.bus.queue.length < 16) :
    queuePoll s = { s with bus := { s.bus with
      queue := s.bus.queue ++ (polled? s).toList.map Op.poll
      returning := s.bus.returning.filter (fun c => some c != polled? s) } } := by
  have hnone : s = { s with bus := { s.bus with
      queue := s.bus.queue ++ (none : Option Col).toList.map Op.poll
      returning := s.bus.returning.filter (fun c => some c != none) } } := by
    have hall : s.bus.returning.filter (fun c => some c != none) = s.bus.returning :=
      List.filter_eq_self.mpr fun _ _ => rfl
    rw [hall, Option.toList_none, List.map_nil, List.append_nil]
  unfold queuePoll polled?
  rw [← nextPoll_eq]
  split
  · exact hnone
  · split
    · next hpoll => rw [hpoll]; exact hnone
    · next c hpoll =>
      rw [hpoll]
      exact enqueueOp_of_room h

theorem queueProbe_of_room (h : s.bus.queue.length < 16) :
    queueProbe s = { s with bus := { s.bus with queue := s.bus.queue ++ (probed? s).toList.map (probeOf s) } } := by
  have hnone : s = { s with bus := { s.bus with queue := s.bus.queue ++ (none : Option Col).toList.map (probeOf s) } } := by
    simp
  have hcond : ((allOps s).any isProbe || s.dormancy.state != .awake) = true ↔
      (allOps s).any isProbe = true ∨ s.dormancy.state ≠ .awake := by simp
  unfold queueProbe probed?
  by_cases hidle : (allOps s).any isProbe = true ∨ s.dormancy.state ≠ .awake
  · rw [if_pos (hcond.mpr hidle), if_pos hidle]
    exact hnone
  · rw [if_neg (hcond.not.mpr hidle), if_neg hidle]
    change (match (List.finRange 12).find? (fun c => s.bus.columns[c].probeDue) with | none => s | some c => _) = _
    cases (List.finRange 12).find? (fun c => s.bus.columns[c].probeDue) with
    | none => exact hnone
    | some c =>
      dsimp only
      rw [enqueueOp_of_room h]
      cases hen : s.bus.enumeration <;> simp [probeOf, hen]

/-- The POLL queued beside it does not touch what the next PROBE is chosen by. -/
theorem probed?_polled (l : List Col) (r : List Col) :
    probed? { s with bus := { s.bus with queue := s.bus.queue ++ l.map Op.poll, returning := r } } = probed? s := by
  have hops : (allOps { s with bus := { s.bus with queue := s.bus.queue ++ l.map Op.poll, returning := r } }).any isProbe =
      (allOps s).any isProbe := by
    have hpolls : (l.map Op.poll).any isProbe = false := by simp [isProbe]
    have hattempt : attempt? { s with bus := { s.bus with queue := s.bus.queue ++ l.map Op.poll, returning := r } } =
        attempt? s := rfl
    simp only [allOps, hattempt, List.any_append, hpolls, Bool.or_false]
  unfold probed?
  rw [hops]

/-! ### Choosing changes no configuration -/

theorem takeOp_mgmt (op : Op) (s : State) : (takeOp op s).mgmt = s.mgmt := by
  unfold takeOp
  dsimp only
  split <;> rfl

theorem chooseBus_mgmt (s : State) : (chooseBus s).mgmt = s.mgmt := by
  unfold chooseBus
  split
  · rfl
  · rfl
  · split
    · exact takeOp_mgmt _ s
    · split
      · split <;> rfl
      · split
        · exact takeOp_mgmt _ s
        · rfl

theorem chooseTx_mgmt (s : State) : (chooseTx s).mgmt = s.mgmt := by
  unfold chooseTx
  split
  · rfl
  · rfl
  · split
    · rfl
    · split
      · split <;> rfl
      · rfl

theorem restartIdle_of_mgmt (h : t.mgmt = s.mgmt) :
    restartIdle t = { t with dormancy := { t.dormancy with idle := s.mgmt.config.idle } } := by
  rw [restartIdle, cfg, h]

/-- Where no block has anything to do of its own, POLL and PROBE are queued, and bus and transmitter choose. -/
theorem settle_of_rest (h : AtRest s) : settle s =
    (let chosen := chooseTx (chooseBus (queueProbe (queuePoll s)))
    if isQuiet chosen then chosen else restartIdle chosen) := by
  obtain ⟨hcharge, hsweep, hround, hoverflow, -⟩ := h
  rw [settle, chargeStarts_of_rest hcharge, walkOn_of_rest hsweep, endWakeRound_of_rest hround]
  have hrefill : { s with bus := refill s.bus } = s := by rw [refill_of_no_overflow hoverflow]
  dsimp only
  rw [hrefill]

/-- Settles O2. At rest only the controller and the transmitter act; and each hand-off shortens the FIFO, so the bound on
their number never stops them. -/
theorem settleAndConcludeFollowEveryTaking : Obligations.SettleAndConcludeFollowEveryTaking := by
  refine ⟨fun s hrest => ?_, fun s h => ?_, fun s e rest hfifo hplaces => ?_⟩
  · have ⟨_, _, _, _, hroom⟩ := hrest
    have hpolled : ((polled? s).toList.map Op.poll).length ≤ 1 := by
      cases polled? s <;> simp
    rw [settle_of_rest hrest, queuePoll_of_room (by omega), queueProbe_of_room (by simp only [List.length_append]; omega),
      probed?_polled]
    exact ite_congr rfl (fun _ => rfl) fun _ => restartIdle_of_mgmt ((chooseTx_mgmt _).trans (chooseBus_mgmt _))
  · refine conclude_of_not_ready (Bool.eq_false_iff.mpr fun hready => ?_)
    obtain ⟨hne, hle⟩ := (handOffReady_iff s).mp hready
    rcases h with h | h
    · exact hne h
    · omega
  · have hready : handOffReady s = true := (handOffReady_iff s).mpr ⟨by simp [hfifo], hplaces⟩
    have htaken : handOff s =
        takeEntry e { s with link := { s.link with fifo := rest, reserved := s.link.reserved + 1 } } := by
      unfold handOff
      split
      · next hnil => rw [hfifo] at hnil; cases hnil
      · next hcons => rw [hfifo] at hcons; cases hcons; rfl
    rw [conclude_of_ready hready, htaken]
    simp only [handOffReady_iff]

/-- Settles O1, by the definition of a step. -/
theorem stepTakesTheFrontCommand : Obligations.StepTakesTheFrontCommand :=
  ⟨fun s c rest h => by rw [step, h], fun s h => by rw [step, h]⟩

end Sys2Proof.Machine

/-! PROOFS. Changing all the columns at once, and the commands that only mark them (7.3, 7.5). -/

namespace Sys2Proof.Machine

variable {s t : State}

/-! ### Every column changed (R128, R129, R134) -/

/-- Columns changed one by one change no other part of the state. -/
theorem foldl_modColumn (f : Col → ColumnEntry → ColumnEntry) (l : List Col) (s : State) :
    l.foldl (fun s c => modColumn c (f c) s) s =
      { s with bus := { s.bus with columns := (l.foldl (fun s c => modColumn c (f c) s) s).bus.columns } } := by
  induction l generalizing s with
  | nil => rfl
  | cons c l ih =>
    rw [List.foldl_cons, ih]
    rfl

theorem foldl_modColumn_at (f : Col → ColumnEntry → ColumnEntry) {l : List Col} (hl : l.Nodup) (s : State) (d : Col) :
    (l.foldl (fun s c => modColumn c (f c) s) s).bus.columns[d] =
      if d ∈ l then f d s.bus.columns[d] else s.bus.columns[d] := by
  induction l generalizing s with
  | nil => simp
  | cons c l ih =>
    obtain ⟨hc, hl⟩ := List.nodup_cons.mp hl
    rw [List.foldl_cons, ih hl, modColumn_at]
    by_cases hd : c = d
    · subst hd
      simp [hc]
    · simp [hd, Ne.symm hd]

theorem modColumns_at (f : Col → ColumnEntry → ColumnEntry) (s : State) (d : Col) :
    (modColumns f s).bus.columns[d] = f d s.bus.columns[d] := by
  rw [modColumns, allCols, foldl_modColumn_at f (List.nodup_finRange 12), if_pos (List.mem_finRange d)]

theorem modColumns_eq (f : Col → ColumnEntry → ColumnEntry) (s : State) {v : Vector ColumnEntry 12}
    (hv : ∀ d : Col, v[d] = f d s.bus.columns[d]) :
    modColumns f s = { s with bus := { s.bus with columns := v } } := by
  have hcolumns : (modColumns f s).bus.columns = v :=
    Vector.ext fun i hi => (modColumns_at f s ⟨i, hi⟩).trans (hv ⟨i, hi⟩).symm
  have hframe : modColumns f s = { s with bus := { s.bus with columns := (modColumns f s).bus.columns } } :=
    foldl_modColumn f allCols s
  rw [hframe, hcolumns]

/-- The same change to every column. -/
theorem modColumns_map (f : ColumnEntry → ColumnEntry) (s : State) :
    modColumns (fun _ e => f e) s = { s with bus := { s.bus with columns := s.bus.columns.map f } } :=
  modColumns_eq _ s fun d => Vector.getElem_map f d.isLt

theorem startRound_eq (s : State) : startRound s = { s with bus :=
    { s.bus with
      columns := s.bus.columns.map (fun e => if e.state = .present then { e with pollDue := true } else e)
      roundTimer := s.mgmt.config.pollInterval } } := by
  rw [startRound, markPolls, modColumns_map]
  rfl

theorem markProbes_eq (s : State) : markProbes s = { s with bus :=
    { s.bus with
      columns := s.bus.columns.map (fun e =>
        if e.state = .unknown ∨ e.state = .absent then { e with probeDue := true } else e)
      probeTimer := 5000 } } := by
  rw [markProbes, modColumns_map]
  rfl

/-! ### Events at a running part -/

theorem act_running {f : State → State} (h : running s = true) : act f s = .next (conclude (f s)) := by
  rw [act, if_pos h]

/-- An event whose taking leaves the state named. -/
theorem act_eq {f : State → State} (h : running s = true) (hf : f s = t) : act f s = .next (conclude t) := by
  rw [act_running h, hf]

/-- Settles O47. Each command is decided by the dormancy state; the marks change every column alike. -/
theorem roundsAndMarksByDormancy : Obligations.RoundsAndMarksByDormancy := by
  intro s hrun
  refine ⟨fun hawake => ⟨?_, ?_, ?_⟩, fun hdormant => ?_, fun hwaking => ?_, fun hnot => ⟨?_, ?_⟩,
    fun hround hcharge hsweep => ?_⟩
  · exact act_eq hrun ((if_pos hawake).trans (startRound_eq s))
  · change execAttentionAssert s = _
    rw [execAttentionAssert, act_running hrun, hawake]
    exact congrArg (fun t => Host.Outcome.next (conclude t)) (startRound_eq s)
  · exact act_eq hrun ((if_pos hawake).trans (markProbes_eq s))
  · change execAttentionAssert s = _
    rw [execAttentionAssert, act_running hrun, hdormant]
    exact congrArg (fun t => Host.Outcome.next (conclude t)) (if_pos hdormant)
  · change execAttentionAssert s = _
    rw [execAttentionAssert, act_running hrun, hwaking]
  · exact act_eq hrun (if_neg hnot)
  · exact act_eq hrun (if_neg hnot)
  · have hended : endWakeRound s = { s with
        dormancy := { s.dormancy with state := .awake, wakeRound := none, idle := s.mgmt.config.idle }
        bus := { s.bus with roundTimer := s.mgmt.config.pollInterval, probeTimer := 5000 } } := by
      rw [endWakeRound, hround]
      rfl
    rw [settle, settle, chargeStarts_of_rest hcharge, walkOn_of_rest hsweep, hended,
      chargeStarts_of_rest (s := { s with
        dormancy := { s.dormancy with state := .awake, wakeRound := none, idle := s.mgmt.config.idle }
        bus := { s.bus with roundTimer := s.mgmt.config.pollInterval, probeTimer := 5000 } }) hcharge,
      walkOn_of_rest (s := { s with
        dormancy := { s.dormancy with state := .awake, wakeRound := none, idle := s.mgmt.config.idle }
        bus := { s.bus with roundTimer := s.mgmt.config.pollInterval, probeTimer := 5000 } }) hsweep,
      endWakeRound_of_rest (by simp)]

end Sys2Proof.Machine

/-! PROOFS. The starts and the state right after reset (11.4). -/

namespace Sys2Proof.Machine

open Sys2Proof.Wire

variable {s t : State}

/-! ### The state right after reset (R207) -/

/-- Every compartment reads its cold-start entry. -/
theorem reset_comps (n : CompNo) : State.reset.comps[n] = Cold.compartment n := comps_cold n

theorem reset_parcelAt (k : Slot) : parcelAt k State.reset = none := slots_cold k

theorem reset_freeSlots : State.reset.parcels.free = List.finRange 384 := by
  rw [State.reset, Cold.parcels]

theorem reset_listOf (c : SizeClass) : listOf c State.reset.freeLists = [] := by cases c <;> rfl

theorem reset_door (n : CompNo) : State.reset.doors.records[n] = Cold.doorRecord := Vector.getElem_replicate _

theorem reset_resumed (n : CompNo) : State.reset.deposit.resumed[n] = false := Vector.getElem_replicate _

/-- No compartment, record, list or slot names another, so both sides agree. -/
theorem reset_tablesAgree : TablesAgree State.reset where
  listed c n := by
    rw [reset_listOf, reset_comps]
    simp [Cold.compartment, sealCompartment]
  once c := by
    rw [reset_listOf]
    exact List.nodup_nil
  linked n k := by
    rw [reset_comps]
    simp [Cold.compartment, sealCompartment, reset_parcelAt]
  unlinked n _ := by
    rw [reset_comps]
    rfl
  advised k p h := by
    rw [reset_parcelAt] at h
    cases h
  slots k := by
    rw [reset_parcelAt, reset_freeSlots]
    exact ⟨fun _ => rfl, fun _ => List.mem_finRange k⟩
  slotsOnce := by
    rw [reset_freeSlots]
    exact List.nodup_finRange 384
  pending n h := by
    rw [reset_comps] at h
    cases h
  phase n h := by
    rw [reset_comps] at h
    exact absurd rfl h
  held n h := by
    rw [reset_door] at h
    exact absurd rfl h
  resumed n h := by
    rw [reset_resumed] at h
    cases h
  swept w k n h := by cases h
  loop n := by
    rw [reset_comps]
    constructor
    · intro h
      cases h
    · rintro ⟨m, h, -⟩
      cases h

theorem reset_noticesBounded : NoticesBounded State.reset := by
  intro i
  show ClassBounded (Cold.notices.classes.set 10 _)[i.val]
  rw [Vector.getElem_set]
  split
  · decide
  · exact classBounded_cold i

/-- Settles O10. The cold-start values are in every bound and range, and the LINK(COLD) notice and the first PROBE are
all that stands beside them. -/
theorem resetIsSafe : Obligations.ResetIsSafe :=
  ⟨linkBounded_cold _, reset_noticesBounded, Nat.zero_le _,
    ⟨by show Cold.config.pulseBudget ≤ 4; decide, Nat.zero_le _, List.Pairwise.nil⟩,
    tablesGood_of_cold rfl rfl rfl, reset_tablesAgree, chargesInRange_cold, fun _ h => by cases h⟩

end Sys2Proof.Machine

/-! PROOFS. How a request at its owner reads its operands, and where its reply goes (chapter 12, R175, R178). -/

namespace Sys2Proof.Machine

open Sys2Proof.Wire

variable {s t : State}

/-! ### Who sends it (R178) -/

theorem fromOffice_office (tag : Byte) (r : Request) (f : State → State) (s : State) :
    fromOffice (headerOf tag .office r) f s = f s := rfl

theorem fromTerminal_terminal (tag : Byte) (t : Term) (r : Request) (f : Term → State → State) (s : State) :
    fromTerminal (headerOf tag (.terminal t) r) f s = f t s := rfl

/-- A COURIER's inactivity timer restarts behind its own request alone (R35, R178). -/
theorem restartInactivity_of_no_courier {t : Term} (h : courierAt t s = none) :
    restartInactivity t s = s := by
  rw [restartInactivity, h]

/-- The taking of a request from OFFICE. -/
theorem exec_office {i : Instr} {tag : Byte} {r : Request} (hi : i.request? = some (tag, originOctet .office, r))
    (h : Ready s) (hwell : r.wellFormed = true) (hfits : fitsTable s.mgmt.cursor.table r = true)
    (ht : takeRequest (headerOf tag .office r) r (reserve s) = t) : exec i s = .next (settle t) :=
  exec_taken hi h hwell hfits ht

/-- The taking of a request from a terminal. -/
theorem exec_terminal {i : Instr} {tag : Byte} {u : Term} {r : Request}
    (hi : i.request? = some (tag, originOctet (.terminal u), r)) (h : Ready s) (hwell : r.wellFormed = true)
    (hfits : fitsTable s.mgmt.cursor.table r = true)
    (ht : restartInactivity u (takeRequest (headerOf tag (.terminal u) r) r (reserve s)) = t) :
    exec i s = .next (settle t) :=
  exec_taken hi h hwell hfits ht

/-! ### Operands (R213, R218) -/

theorem below?_of_lt {b n : Nat} (h : n < b) : below? b n = some ⟨n, h⟩ := dif_pos h

theorem below?_of_le {b n : Nat} (h : b ≤ n) : below? b n = none := dif_neg (Nat.not_lt.mpr h)

@[simp] theorem below?_val {b : Nat} (i : Fin b) : below? b i.val = some i := below?_of_lt i.isLt

theorem ofNat8_toNat {n : Nat} (h : n < 256) : (BitVec.ofNat 8 n).toNat = n := by
  rw [BitVec.toNat_ofNat]
  exact Nat.mod_eq_of_lt h

theorem ofNat16_toNat {n : Nat} (h : n < 65536) : (BitVec.ofNat 16 n).toNat = n := by
  rw [BitVec.toNat_ofNat]
  exact Nat.mod_eq_of_lt h

@[simp] theorem route?_octet (r : Route) : route? (BitVec.ofNat 8 r.val) = some r := by
  rw [route?, ofNat8_toNat (by omega), below?_val]

@[simp] theorem courier?_octet (i : CourierNo) : courier? (BitVec.ofNat 8 i.val) = some i := by
  rw [courier?, ofNat8_toNat (by omega), below?_val]

@[simp] theorem slot?_word (k : Slot) : slot? (BitVec.ofNat 16 k.val) = some k := by
  rw [slot?, ofNat16_toNat (by omega), below?_val]

theorem namingComp_octet (h : Header) (n : CompNo) (f : CompNo → State → State) (s : State) :
    namingComp h (compByte n) f s = f n s := by
  rw [namingComp, comp_octet]

theorem readingComp_good {n : CompNo} (hn : compGood n s = true) (h : Header) (f : State → State) :
    readingComp h n f s = f s := if_pos hn

theorem readingRecord_good {k : Slot} (hk : parcelGood k s = true) (h : Header) (f : State → State) :
    readingRecord h k f s = f s := if_pos hk

theorem namingRecord_read {ref : Reference} {k : Slot} {p : Parcel} (hread : RecordRead ref k p s) (h : Header)
    (f : Slot → Parcel → State → State) : namingRecord h ref f s = f k p s := by
  obtain ⟨hslot, hat, hgood⟩ := hread
  rw [namingRecord, hslot]
  dsimp only
  rw [readingRecord_good hgood, hat]

/-! ### Searches of the tables -/

/-- In a list in ascending order the first that meets a test is the lowest that does. -/
theorem find?_of_ascending {n : Nat} {l : List (Fin n)} {p : Fin n → Bool} {i : Fin n} (hl : l.Pairwise (· < ·))
    (hmem : i ∈ l) (hi : p i = true) (hlow : ∀ j ∈ l, j < i → p j = false) : l.find? p = some i := by
  induction l with
  | nil => cases hmem
  | cons a l ih =>
    obtain ⟨ha, hl⟩ := List.pairwise_cons.mp hl
    rcases List.mem_cons.mp hmem with rfl | hmem
    · exact List.find?_cons_of_pos hi
    · rw [List.find?_cons_of_neg (by simp [hlow a (List.mem_cons_self ..) (ha i hmem)])]
      exact ih hl hmem fun j hj => hlow j (List.mem_cons_of_mem _ hj)

theorem find?_finRange_eq_some {n : Nat} {p : Fin n → Bool} {i : Fin n} (hi : p i = true)
    (hlow : ∀ j, j < i → p j = false) : (List.finRange n).find? p = some i :=
  find?_of_ascending (List.pairwise_lt_finRange n) (List.mem_finRange i) hi fun j _ => hlow j

/-- A fold whose every step leaves the state as it is leaves it so. -/
theorem foldl_of_fixed {α : Type} {l : List α} {f : State → α → State} (h : ∀ a ∈ l, f s a = s) : l.foldl f s = s := by
  induction l with
  | nil => rfl
  | cons a l ih =>
    rw [List.foldl_cons, h a (List.mem_cons_self ..)]
    exact ih fun b hb => h b (List.mem_cons_of_mem _ hb)

/-! ### The time base (R63) -/

/-- Settles O20. The seconds value is read against 60, and the origin before it. -/
theorem timeSetSetsTheClock : Obligations.TimeSetSetsTheClock := by
  intro s tag minute seconds hready
  refine ⟨fun h => ?_, fun h => ?_, fun t => ?_⟩
  · refine exec_office (r := .timeSet minute seconds) rfl hready rfl rfl ?_
    rw [takeRequest, takeTimeSet, fromOffice_office, seconds?, below?_of_lt h]
    dsimp only
    rw [num1, BitVec.ofNat_toNat, BitVec.setWidth_eq]
    exact answer_reserve _ _ { s with time := { minute := minute, seconds := ⟨seconds.toNat, h⟩, clockSet := true } }
  · refine exec_office (r := .timeSet minute seconds) rfl hready rfl rfl ?_
    rw [takeRequest, takeTimeSet, fromOffice_office, seconds?, below?_of_le h]
    exact refuse_reserve _ (by decide) s
  · refine exec_terminal (u := t) (r := .timeSet minute seconds) rfl hready rfl rfl ?_
    exact congrArg (restartInactivity t) (refuse_reserve _ (c := .notPermitted) (by decide) s)

end Sys2Proof.Machine

/-! PROOFS. The causes of the starts, and what a cold start leaves (11.4). -/

namespace Sys2Proof.Machine

/-! ### A cold start (R129, R148, R207) -/

/-- A cold start before what follows its taking: the state right after reset, the first PROBE still to be queued. -/
def coldStarted (s : State) : State :=
  { State.reset with bus := { State.reset.bus with use := .free }, lines := s.lines, pending := s.pending }

theorem startEnumeration_eq (r : Option (Byte × Byte)) (s : State) : startEnumeration r s = { s with bus :=
    { s.bus with
      columns := s.bus.columns.map (fun e => { e with probeDue := true })
      enumeration := some { todo := allCols, reply := r } } } := by
  rw [startEnumeration, modColumns_map]

/-- The enumeration begins, and LINK(COLD) is raised; the arbiter holds with the line. -/
theorem cold_enumeration (s : State) : startEnumeration none (raise (.link (.start .cold)) (coldValues s)) =
    { coldStarted s with arbiter := Cold.arbiter s.lines.hold } := by
  have hcolumns : (Vector.replicate 12 Cold.column).map (fun e : ColumnEntry => { e with probeDue := true }) =
      Vector.replicate 12 { Cold.column with probeDue := true } := Vector.map_replicate
  rw [startEnumeration_eq]
  exact congrArg (fun v => { coldStarted s with
    arbiter := Cold.arbiter s.lines.hold, bus := { (coldStarted s).bus with columns := v } }) hcolumns

theorem coldStart_of_no_hold (h : s.lines.hold = false) : coldStart s = coldStarted s := by
  rw [coldStart, startEffects, cold_enumeration, h]
  rfl

theorem coldStart_of_hold (h : s.lines.hold = true) : coldStart s = count .holds (raise (.hold true .line)
    { coldStarted s with
      arbiter := { (coldStarted s).arbiter with holdActive := true }
      bus := { (coldStarted s).bus with queue := [.broadcast .holdAll] } }) := by
  have hline : (coldStarted s).lines.hold = true := h
  rw [coldStart, startEffects, cold_enumeration]
  refine (if_pos h).trans ?_
  rw [show (if (coldStarted s).lines.hold = true then HoldSource.line else .office) = .line from if_pos hline, h]
  rfl

/-- The records a cold start leaves, with the hold line asserted or not. -/
theorem coldStart_records (s : State) : (coldStart s).mgmt = Cold.management ∧ (coldStart s).time = Cold.time ∧
    (coldStart s).charge = Cold.charge := by
  cases h : s.lines.hold with
  | false =>
    rw [coldStart_of_no_hold h]
    exact ⟨rfl, rfl, rfl⟩
  | true =>
    rw [coldStart_of_hold h]
    exact ⟨rfl, rfl, rfl⟩

theorem isQuiet_of_enumeration (h : s.bus.enumeration.isNone = false) : isQuiet s = false := by
  rw [isQuiet, h, Bool.and_false]

/-- The part right after a cold start with the first PROBE queued. -/
def coldProbing (s : State) : State :=
  { coldStarted s with bus := { (coldStarted s).bus with queue := [.probe 0 true] } }

theorem queueProbe_coldStarted (s : State) : queueProbe (queuePoll (coldStarted s)) = coldProbing s := by
  have hpoll : queuePoll (coldStarted s) = coldStarted s := by
    rw [queuePoll_of_room (s := coldStarted s) (show 0 < 16 by decide), show polled? (coldStarted s) = none from rfl]
    rfl
  rw [hpoll, queueProbe_of_room (s := coldStarted s) (show 0 < 16 by decide), show probed? (coldStarted s) = some 0 from rfl]
  rfl

theorem chooseBus_coldProbing (s : State) :
    chooseBus (coldProbing s) = { State.reset with lines := s.lines, pending := s.pending } := rfl

/-- The first PROBE, of the enumeration's own, goes on the bus; the link is DOWN, so nothing is sent. -/
theorem settle_coldStarted (s : State) :
    settle (coldStarted s) = { State.reset with lines := s.lines, pending := s.pending } := by
  have hrest : AtRest (coldStarted s) := ⟨.inr rfl, rfl, nofun, rfl, Nat.zero_le _⟩
  rw [settle_of_rest hrest, queueProbe_coldStarted, chooseBus_coldProbing]
  have hchosen : chooseTx { State.reset with lines := s.lines, pending := s.pending } =
      { State.reset with lines := s.lines, pending := s.pending } := rfl
  rw [hchosen]
  dsimp only
  rw [isQuiet_of_enumeration rfl]
  rfl

/-- Settles O43. Each cause is decided by the retention-intact marker; a cold start begins the enumeration on cold-start
values and raises its notice. -/
theorem startsFollowTheirCauses : Obligations.StartsFollowTheirCauses := by
  refine ⟨fun s tag => ⟨rfl, fun h => ?_, fun h => ?_, rfl, rfl, fun h => ?_, fun h => ⟨?_, ?_⟩⟩,
    fun s => ⟨?_, fun h => ⟨coldStart_of_no_hold h, ?_⟩, coldStart_of_hold⟩⟩
  · change execResetRelease s = _
    rw [execResetRelease, startByMarker, if_pos h, warmStart]
  · change execResetRelease s = _
    rw [execResetRelease, startByMarker, if_neg (Bool.eq_false_iff.mp h)]
  · change execPowerLoss true s = _
    rw [execPowerLoss, if_pos rfl, cutColdStart, if_pos h]
  · exact exec_office (r := .restartEngines) rfl h rfl rfl (by rw [takeRequest, takeRestartEngines, fromOffice_office, engineRestart])
  · exact exec_office (r := .resetAll) rfl h rfl rfl (by rw [takeRequest, takeResetAll, fromOffice_office])
  · obtain ⟨hmgmt, htime, hcharge⟩ := coldStart_records s
    rw [hmgmt, htime, hcharge]
    exact ⟨rfl, rfl, fun p => Vector.getElem_replicate _, fun w => Vector.getElem_replicate _⟩
  · rw [coldStart_of_no_hold h]
    exact settle_coldStarted s

end Sys2Proof.Machine

/-! PROOFS. The credential unit and terminal contexts: SIGN_ON, SIGN_OFF, wrong codes, enrolment (chapter 2). -/

namespace Sys2Proof.Machine

open Sys2Proof.Wire

variable {s : State} {tag : Byte} {code : CodeValue} {w : Way} {kind : CredKind} {t : Term}

/-! ### Terminal contexts -/

theorem courierAt_eq_some {i : CourierInfo} : courierAt t s = some i ↔ s.creds.terms[t].mode = .courier i := by
  unfold courierAt
  cases s.creds.terms[t].mode <;> simp

theorem courierAt_of_idle (h : s.creds.terms[t].mode = .idle) : courierAt t s = none := by
  rw [courierAt, h]

/-- The courier of a terminal mode. -/
def modeCourier : TermMode → Option CourierInfo
  | .courier i => some i
  | _ => none

theorem courierAt_eq (t : Term) (s : State) : courierAt t s = modeCourier s.creds.terms[t].mode := by
  unfold courierAt modeCourier
  cases s.creds.terms[t].mode <;> rfl

theorem courierAt_modTerm (f : TermContext → TermContext) :
    courierAt t (modTerm t f s) = modeCourier (f s.creds.terms[t]).mode := by
  rw [courierAt_eq, modTerm_at, if_pos rfl]

theorem courierAt_modTerm_of_mode {f : TermContext → TermContext} (h : (f s.creds.terms[t]).mode = s.creds.terms[t].mode) :
    courierAt t (modTerm t f s) = courierAt t s := by
  rw [courierAt_modTerm, h, courierAt_eq]

/-- A request that leaves its terminal IDLE, or under no courier, restarts no timer behind its reply (R35). -/
theorem restartInactivity_replied_of_none {o : Byte} {body : List Byte} (h : courierAt t s = none) :
    restartInactivity t (replied tag o body s) = replied tag o body s :=
  restartInactivity_of_no_courier (s := replied tag o body s) h

/-- The timer of a COURIER restarts behind the reply as before it (R35). -/
theorem restartInactivity_replied_of_courier {i : CourierInfo} {o : Byte} {body : List Byte}
    (h : courierAt t s = some i) : restartInactivity t (replied tag o body s) =
      replied tag o body (modTerm t (fun c => { c with inactivity := s.mgmt.config.inactivity }) s) := by
  have hsame : courierAt t (replied tag o body s) = some i := h
  rw [restartInactivity, hsame]
  rfl

/-! ### The bucket of a code (R22, R24, R25) -/

theorem bucketWays_ascending (code : CodeValue) : (bucketWays code).Pairwise (· < ·) := by
  simp [bucketWays]

/-- Verifying good ways changes nothing. -/
theorem verifyWays_good (h : BucketGood code s) : verifyWays (bucketWays code) s = s :=
  foldl_of_fixed fun v hv => if_pos (h v hv)

theorem goodWays_good (h : BucketGood code s) :
    (bucketWays code).filter (fun w => wayGood w s) = bucketWays code := List.filter_eq_self.mpr h

/-- A code its bucket holds is found with its entry's kind (R24). -/
theorem lookupResult_of_holds (h : BucketGood code s) (hw : HoldsCode code w kind s) (needs : CredKind → Bool) :
    lookupResult code needs s = if needs kind then .fitting kind else .failed := by
  obtain ⟨hmem, hkind, hholds, hlow⟩ := hw
  obtain ⟨c, hc, rfl⟩ := Option.map_eq_some_iff.mp hkind
  unfold lookupResult
  dsimp only
  rw [goodWays_good h, find?_of_ascending (bucketWays_ascending code) hmem hholds hlow]
  dsimp only
  rw [hc]

/-- A code no way of a good bucket holds is a failed lookup (R24). -/
theorem lookupResult_of_missing (h : BucketGood code s) (hno : ∀ v ∈ bucketWays code, wayHolds code s v = false)
    (needs : CredKind → Bool) : lookupResult code needs s = .failed := by
  have hnone : (bucketWays code).find? (wayHolds code s) = none :=
    List.find?_eq_none.mpr fun v hv => by simp [hno v hv]
  unfold lookupResult
  dsimp only
  rw [goodWays_good h, hnone]
  dsimp only
  rw [if_pos (List.all_eq_true.mpr h)]

/-- A request presents a code that a good bucket holds, of a kind it needs. -/
theorem presenting_of_holds {h : Header} {needs : CredKind → Bool} {f : CredKind → State → State}
    (hrange : codeInRange code = true) (hgood : BucketGood code s) (hw : HoldsCode code w kind s)
    (hneeds : needs kind = true) : presenting h t code needs f s = f kind s := by
  rw [presenting, if_pos hrange, lookingUp, lookupResult_of_holds hgood hw, if_pos hneeds, verifyWays_good hgood]

/-- A request presents a code that no way of a good bucket holds. -/
theorem presenting_of_missing {h : Header} {needs : CredKind → Bool} {f : CredKind → State → State}
    (hrange : codeInRange code = true) (hgood : BucketGood code s)
    (hno : ∀ v ∈ bucketWays code, wayHolds code s v = false) :
    presenting h t code needs f s = failedLookup h t s := by
  rw [presenting, if_pos hrange, lookingUp, lookupResult_of_missing hgood hno, verifyWays_good hgood]

theorem unlessLockedOut_of_zero {h : Header} {f : State → State} (hlock : s.creds.terms[t].lockRemaining = 0) :
    unlessLockedOut h t f s = f s := by
  rw [unlessLockedOut, hlock]
  exact if_neg (Nat.lt_irrefl 0)

/-- A code its bucket does not hold goes into the lowest way that is free or is the old entry's (R25, R26). -/
theorem placeFor_of_lowest {old : Option Way} (hno : ∀ v ∈ bucketWays code, wayHolds code s v = false)
    (hmem : w ∈ bucketWays code) (hopen : (s.creds.ways[w].isNone || old == some w) = true)
    (hlow : ∀ v ∈ bucketWays code, v < w → (s.creds.ways[v].isNone || old == some v) = false) :
    placeFor code old s = .way w := by
  have hany : (bucketWays code).any (wayHolds code s) = false := List.any_eq_false.mpr fun v hv => by simp [hno v hv]
  unfold placeFor
  dsimp only
  rw [hany, find?_of_ascending (bucketWays_ascending code) hmem hopen hlow]
  rfl

/-- An open place is where an insertion goes (R25). -/
theorem placeFor_of_open (h : PlaceOpen code w s) : placeFor code none s = .way w := by
  obtain ⟨-, hno, hmem, hfree, hlow⟩ := h
  refine placeFor_of_lowest hno hmem (by rw [hfree]; rfl) fun v hv hlt => ?_
  rw [Option.isNone_eq_false_iff.mpr (hlow v hv hlt)]
  rfl

/-! ### SIGN_ON and SIGN_OFF (R33, R34) -/

theorem takeSignOn_idle (hmode : s.creds.terms[t].mode = .idle) (hlock : s.creds.terms[t].lockRemaining = 0)
    (tag : Byte) (r : Request) : takeSignOn (headerOf tag (.terminal t) r) code s =
      presenting (headerOf tag (.terminal t) r) t code isCourierKind (signOnFitting (headerOf tag (.terminal t) r) t) s := by
  rw [takeSignOn, fromTerminal_terminal, if_pos hmode, unlessLockedOut_of_zero hlock]

theorem signedOnElsewhere_of_none {i : CourierInfo}
    (h : ∀ u, u ≠ t → ∀ j, s.creds.terms[u].mode = .courier j → j.number ≠ i.number) :
    signedOnElsewhere t i.number s = false := by
  refine List.any_eq_false.mpr fun u _ => ?_
  rw [Bool.and_eq_true, bne_iff_ne]
  rintro ⟨hu, hj⟩
  cases hat : courierAt u s with
  | none => rw [hat] at hj; cases hj
  | some j =>
    rw [hat] at hj
    exact h u hu j (courierAt_eq_some.mp hat) (beq_iff_eq.mp hj)

theorem signOff_of_no_sweep (h : ∀ w, s.returns.sweep = some w → w.terminal ≠ t) :
    signOff t s = modTerm t (fun c => { c with mode := .idle, signOffPending := false }) s := by
  unfold signOff
  dsimp only
  have hsweep : (modTerm t (fun c => { c with mode := .idle, signOffPending := false }) s).returns.sweep =
    s.returns.sweep := rfl
  rw [hsweep]
  split
  next w hw => rw [if_neg (h w hw)]
  next => rfl

/-- The terminal of a fitting SIGN_ON. -/
def signedOn (i : CourierInfo) (inactivity : Nat) (c : TermContext) : TermContext :=
  { c with mode := .courier i, signOffPending := false, lastQuoteLapsed := false, failed := 0, lockLevel := 0
           inactivity := inactivity }

theorem signedOnElsewhere_modTerm (f : TermContext → TermContext) (i : CourierNo) :
    signedOnElsewhere t i (modTerm t f s) = signedOnElsewhere t i s := by
  refine congrArg allTerms.any (funext fun u => ?_)
  by_cases h : u = t
  · rw [bne_eq_false_iff_eq.mpr h, Bool.false_and, Bool.false_and]
  · rw [courierAt, modTerm_at, if_neg (Ne.symm h), ← courierAt]

theorem signOnFitting_free {i : CourierInfo} (h : Header) (helse : signedOnElsewhere t i.number s = false) :
    signOnFitting h t (.courier i) (reserve s) =
      answer h (num1 i.number.val ++ num1 i.route.val) (reserve (modTerm t (signedOn i s.mgmt.config.inactivity) s)) := by
  have helse : signedOnElsewhere t i.number (resetFailures t (reserve s)) = false :=
    (signedOnElsewhere_modTerm (s := reserve s) _ _).trans helse
  unfold signOnFitting
  dsimp only
  rw [helse, resetFailures, modTerm_modTerm]
  rfl

/-- A wrong code below the fifth failure (R37). -/
theorem failedLookup_below (h : Header) (hbelow : s.creds.terms[t].failed < 4) : failedLookup h t (reserve s) =
    replied h.tag (originOctet h.origin) ([h.kind, 0x04] ++ num1 (4 - s.creds.terms[t].failed))
      (modTerm t (fun c => { c with failed := c.failed + 1 }) (count .wrongCodes s)) := by
  have hfailed : (count .wrongCodes (reserve s)).creds.terms[t].failed = s.creds.terms[t].failed := rfl
  unfold failedLookup
  dsimp only
  rw [hfailed, if_pos (by omega), show 5 - (s.creds.terms[t].failed + 1) = 4 - s.creds.terms[t].failed by omega]
  exact placeReply_reserve _ (modTerm t (fun c => { c with failed := s.creds.terms[t].failed + 1 }) (count .wrongCodes s))

/-- The fifth wrong code begins a lockout (R38). -/
theorem failedLookup_fifth (h : Header) (hfifth : 4 ≤ s.creds.terms[t].failed) : failedLookup h t (reserve s) =
    replied h.tag (originOctet h.origin) ([h.kind, 0x05] ++ num2 (60 * 2 ^ min s.creds.terms[t].lockLevel 4))
      (modTerm t (fun c =>
        { c with failed := 0, lockLevel := min 5 (c.lockLevel + 1), lockRemaining := 60 * 2 ^ min c.lockLevel 4 })
        (count .lockouts (count .wrongCodes s))) := by
  have hfailed : (count .wrongCodes (reserve s)).creds.terms[t].failed = s.creds.terms[t].failed := rfl
  unfold failedLookup
  dsimp only
  rw [hfailed, if_neg (by omega), beginLockout]
  exact placeReply_reserve _ (modTerm t (fun c =>
    { c with failed := 0, lockLevel := min 5 (c.lockLevel + 1), lockRemaining := 60 * 2 ^ min s.creds.terms[t].lockLevel 4 })
    (count .lockouts (count .wrongCodes s)))

/-- Settles O11. The code's bucket decides a SIGN_ON; a terminal that a wrong code leaves is no COURIER. -/
theorem signOnSignOffAndWrongCodes : Obligations.SignOnSignOffAndWrongCodes := by
  refine ⟨fun s tag t code w i hready hidle hlock hrange hgood hholds helse => ?_, fun s tag t i hready hcourier hjob hsweep => ?_,
    fun s tag t code hready hidle hlock hrange hgood hno => ⟨fun hbelow => ?_, fun hfifth => ?_⟩⟩
  · refine exec_terminal (u := t) (r := .signOn code) rfl hready rfl rfl ?_
    have hpresent := presenting_of_holds (s := reserve s) (h := headerOf tag (.terminal t) (.signOn code)) (t := t)
      (f := signOnFitting (headerOf tag (.terminal t) (.signOn code)) t) hrange hgood hholds (needs := isCourierKind) rfl
    rw [takeRequest, takeSignOn_idle (s := reserve s) hidle hlock, hpresent, signOnFitting_free _ (signedOnElsewhere_of_none helse),
      answer_reserve]
    have hmode : courierAt t (modTerm t (signedOn i s.mgmt.config.inactivity) s) = some i := by
      rw [courierAt_modTerm]
      rfl
    refine (restartInactivity_replied_of_courier hmode).trans ?_
    rw [modTerm_modTerm]
    rfl
  · refine exec_terminal (u := t) (r := .signOff) rfl hready rfl rfl ?_
    have hat : courierAt t (reserve s) = some i := courierAt_eq_some.mpr hcourier
    have hnone : (reserve s).creds.terms[t].openJob.isSome = false := Option.isSome_eq_false_iff.mpr (by
      rw [Option.isNone_iff_eq_none]; exact hjob)
    rw [takeRequest, takeSignOff, fromTerminal_terminal, hat]
    dsimp only
    rw [hnone, if_neg Bool.false_ne_true, signOff_of_no_sweep (s := reserve s) hsweep]
    refine (congrArg (restartInactivity t) (answer_reserve _ _ (modTerm t
      (fun c => { c with mode := .idle, signOffPending := false }) s))).trans ?_
    exact restartInactivity_replied_of_none ((courierAt_modTerm _).trans rfl)
  · refine exec_terminal (u := t) (r := .signOn code) rfl hready rfl rfl ?_
    rw [takeRequest, takeSignOn_idle (s := reserve s) hidle hlock, presenting_of_missing (s := reserve s) hrange hgood hno, failedLookup_below _ hbelow]
    exact restartInactivity_replied_of_none ((courierAt_modTerm_of_mode (s := count .wrongCodes s) rfl).trans (courierAt_of_idle hidle))
  · refine exec_terminal (u := t) (r := .signOn code) rfl hready rfl rfl ?_
    rw [takeRequest, takeSignOn_idle (s := reserve s) hidle hlock, presenting_of_missing (s := reserve s) hrange hgood hno, failedLookup_fifth _ hfifth]
    exact restartInactivity_replied_of_none ((courierAt_modTerm_of_mode (s := count .lockouts (count .wrongCodes s)) rfl).trans (courierAt_of_idle hidle))

/-! ### ENROL COURIER and REVOKE COURIER (R28, R29) -/

theorem freeCourier_lowest {i : CourierNo} (hfree : courierHeld s i = false) (hlow : ∀ j, j < i → courierHeld s j = true) :
    freeCourier s = some i :=
  find?_finRange_eq_some (by rw [hfree]; rfl) fun j hj => by rw [hlow j hj]; rfl

theorem insertCourier_free {i : CourierNo} (h : Header) (hplace : PlaceOpen code w s) (hfree : freeCourier s = some i)
    (route : Route) (d m : Bool) : insertCourier h code route d m s =
      answer h (num1 i.val) (setWay w
        { kind := .courier { number := i, route := route, deposit := d, sweep := m }, code := code, check := 0 } s) := by
  rw [insertCourier, placeFor_of_open hplace, hfree]

/-- The number a COURIER entry in the way carries, if one stands there. -/
def courierIn (s : State) (w : Way) : Option CourierNo :=
  match s.creds.ways[w].map Credential.kind with
  | some (.courier j) => some j.number
  | _ => none

theorem courierWay_eq (i : CourierNo) (s : State) :
    courierWay i s = (List.finRange 512).find? (fun w => courierIn s w == some i) := by
  refine congrArg (fun p => (List.finRange 512).find? p) (funext fun w => ?_)
  unfold courierIn
  cases s.creds.ways[w] with
  | none => rfl
  | some c => obtain ⟨kind, _, _⟩ := c; cases kind <;> rfl

theorem courierIn_eq_some {i : CourierNo} :
    courierIn s w = some i ↔ ∃ j, s.creds.ways[w].map Credential.kind = some (.courier j) ∧ j.number = i := by
  unfold courierIn
  generalize s.creds.ways[w].map Credential.kind = kind
  match kind with
  | none | some (.pickup _) | some (.returnAuth _) => simp
  | some (.courier j) => simp

theorem courierWay_lowest {i : CourierNo} (hin : courierIn s w = some i) (hlow : ∀ v, v < w → courierIn s v ≠ some i) :
    courierWay i s = some w := by
  rw [courierWay_eq]
  exact find?_finRange_eq_some (beq_iff_eq.mpr hin) fun v hv => beq_eq_false_iff_ne.mpr (hlow v hv)

/-- With no terminal signed on under the number, no terminal is signed off (R29). -/
theorem removeCourierFrom_of_none {i : CourierNo} (h : ∀ t j, courierAt t s = some j → j.number ≠ i) :
    removeCourierFrom i s = s := by
  refine foldl_of_fixed fun t _ => ?_
  cases hat : courierAt t s with
  | none => rfl
  | some j => exact if_neg (h t j hat)

/-- Settles O12. The searches of number and way find the lowest. -/
theorem enrolAndRevokeCourier : Obligations.EnrolAndRevokeCourier := by
  refine ⟨fun s tag code route d m w i hready hrange hplace hfree hlow => ?_, fun s tag w i hready hkind hlow hterm => ?_⟩
  · refine exec_office (r := .enrolCourier code (BitVec.ofNat 8 route.val) (if d then 0x01#8 else 0x00#8)
      (if m then 0x01#8 else 0x00#8)) rfl hready rfl rfl ?_
    rw [takeRequest, takeEnrol, fromOffice_office, hrange, route?_octet, yesNo_octet, yesNo_octet]
    dsimp only
    rw [verifyWays_good (s := reserve s) hplace.1, insertCourier_free (s := reserve s) _ hplace (freeCourier_lowest (s := reserve s) hfree hlow)]
    exact answer_reserve _ _ (setWay w _ s)
  · refine exec_office (r := .revokeCourier (BitVec.ofNat 8 i.number.val)) rfl hready rfl rfl ?_
    have hway : courierWay i.number (reserve s) = some w :=
      courierWay_lowest (s := reserve s) (courierIn_eq_some.mpr ⟨i, hkind, rfl⟩) fun v hv hin => by
        obtain ⟨j, hj, hnumber⟩ := courierIn_eq_some.mp hin
        exact hlow v hv j hj hnumber
    have hterms : removeCourierFrom i.number (freeWay w (reserve s)) = freeWay w (reserve s) :=
      removeCourierFrom_of_none fun t j hat => hterm t j (courierAt_eq_some.mp hat)
    rw [takeRequest, takeRevoke, fromOffice_office, courier?_octet]
    dsimp only
    rw [hway]
    dsimp only
    rw [hterms]
    exact answer_reserve _ _ (freeWay w s)

end Sys2Proof.Machine

/-! PROOFS. The requests of the parcel store: ADVISE, WITHDRAW, REISSUE, STATUS, RETIRE and the clearing of records
(3.2, 6.2, 11.3). -/

namespace Sys2Proof.Machine

open Sys2Proof.Wire

variable {s : State} {k : Slot}

/-! ### The code of a record (R26, R27) -/

/-- The slot that the PICKUP or RETURN_AUTH entry in the way names, if one stands there. -/
def slotIn (s : State) (w : Way) : Option Slot := (s.creds.ways[w].map Credential.kind).bind kindSlot

theorem credentialOf_eq (k : Slot) (s : State) :
    credentialOf k s = (List.finRange 512).find? (fun w => slotIn s w == some k) := by
  refine congrArg (fun p => (List.finRange 512).find? p) (funext fun w => ?_)
  unfold slotIn
  cases s.creds.ways[w] with
  | none => rfl
  | some c => obtain ⟨kind, _, _⟩ := c; cases kind <;> rfl

theorem credentialOf_of_names {w : Way} {kind : CredKind} (h : NamesSlot k w kind s) : credentialOf k s = some w := by
  obtain ⟨hkind, hslot, hlow⟩ := h
  rw [credentialOf_eq]
  refine find?_finRange_eq_some ?_ fun v hv => ?_
  · rw [slotIn, hkind, Option.bind_some, hslot]
    exact beq_self_eq_true _
  · refine beq_eq_false_iff_ne.mpr fun hin => ?_
    obtain ⟨other, hother, hnames⟩ := Option.bind_eq_some_iff.mp hin
    exact hlow v hv other hother hnames

theorem removeCredentialOf_of_names {w : Way} {kind : CredKind} (h : NamesSlot k w kind s) :
    removeCredentialOf k s = freeWay w s := by
  unfold removeCredentialOf
  rw [credentialOf_of_names h]

/-- The replacement of a record's code (R26, R48). -/
theorem replaceCode_of_names {p : Parcel} {code : CodeValue} {v w : Way} {kind : CredKind} (h : Header)
    (hgood : BucketGood code s) (hno : ∀ u ∈ bucketWays code, wayHolds code s u = false) (hnames : NamesSlot k v kind s)
    (hmem : w ∈ bucketWays code) (hopen : s.creds.ways[w] = none ∨ w = v)
    (hlow : ∀ u ∈ bucketWays code, u < w → s.creds.ways[u].isSome = true ∧ u ≠ v) :
    replaceCode h k p code s = answer h [] (setWay w { kind := kind, code := code, check := 0 } (freeWay v s)) := by
  have hplace : placeFor code (some v) s = .way w := by
    refine placeFor_of_lowest hno hmem ?_ fun u hu hlt => ?_
    · rcases hopen with hfree | rfl
      · rw [hfree]; rfl
      · rw [Bool.or_eq_true]; exact .inr (beq_self_eq_true _)
    · obtain ⟨hsome, hother⟩ := hlow u hu hlt
      rw [Option.isNone_eq_false_iff.mpr hsome, Bool.false_or]
      exact beq_eq_false_iff_ne.mpr fun e => hother (Option.some.inj e).symm
  have hold : credentialOf k s = some v := credentialOf_of_names hnames
  unfold replaceCode
  dsimp only
  rw [verifyWays_good hgood, hold, hplace]
  dsimp only
  have hkind : (((some v).bind fun v => s.creds.ways[v]).map Credential.kind).getD (credKindFor p.kind k) = kind :=
    congrArg (fun o => o.getD (credKindFor p.kind k)) hnames.1
  rw [hkind, removeCredentialOf_of_names hnames]

/-! ### Records of the table (R41, R46) -/

/-- Verifying good records changes nothing (R46 step 3). -/
theorem verifyRecords_good (h : ∀ j, parcelGood j s = true) : verifyRecords s = s := foldl_of_fixed fun j _ => if_pos (h j)

theorem recordOf_of_new {ref : Reference} (h : ∀ j p, parcelAt j s = some p → p.ref ≠ ref) : recordOf ref s = none := by
  refine List.find?_eq_none.mpr fun j _ => ?_
  cases hat : parcelAt j s with
  | none => simp
  | some p => simp [h j p hat]

theorem verifyComp_good {n : CompNo} (h : compGood n s = true) : verifyComp n s = s := if_pos h

theorem namingSlot_live {p : Parcel} (hat : parcelAt k s = some p) (h : Header) (f : Slot → Parcel → State → State) :
    namingSlot h (BitVec.ofNat 16 k.val) f s = f k p s := by
  rw [namingSlot, slot?_word]
  dsimp only
  rw [hat]

/-- The taken advice is written where its slot and its place stand open (R46). -/
theorem insertAdvice_open {a : Advice} {rest : List Slot} {w : Way} (h : Header) (hfree : s.parcels.free = k :: rest)
    (hplace : PlaceOpen a.code w s) : insertAdvice h a s = answer h (num2 k.val) (writeAdvice a k rest w s) := by
  rw [insertAdvice, hfree]
  dsimp only
  rw [verifyWays_good hplace.1, placeFor_of_open hplace]

/-- Settles O13. Every step of R46 passes, and the record is written. -/
theorem adviseWritesRecordAndCode : Obligations.AdviseWritesRecordAndCode := by
  intro s tag f a k rest w hready hadvice hgood hnew hfree hplace
  refine exec_office (r := .advise f) rfl hready rfl rfl ?_
  rw [takeRequest, takeAdvise, fromOffice_office, hadvice]
  dsimp only
  rw [verifyRecords_good (s := reserve s) hgood, recordOf_of_new (s := reserve s) hnew, Option.isSome_none,
    if_neg Bool.false_ne_true, insertAdvice_open (s := reserve s) _ hfree hplace]
  exact answer_reserve _ _ (writeAdvice a k rest w s)

/-- A record is cleared: the entry of its compartment passes its check (R205). -/
theorem clearRecord_good {p : Parcel} (h : Header) (hcomp : ∀ n, p.comp = some n → compGood n s = true) :
    clearRecord h k p s =
      answer h (oct4 p.ref ++ optional (fun n : CompNo => num1 n.val) p.comp) (retireRecord k s) := by
  have hverify : (match p.comp with | some n => verifyComp n s | none => s) = s := by
    cases hn : p.comp with
    | none => rfl
    | some n => exact verifyComp_good (hcomp n hn)
  exact congrArg (fun x => answer h (oct4 p.ref ++ optional (fun n : CompNo => num1 n.val) p.comp) (retireRecord k x)) hverify

/-- Settles O14. Each request finds its record in the state it is for, and retires it. -/
theorem withdrawRetireAndClearRetireTheRecord : Obligations.WithdrawRetireAndClearRetireTheRecord := by
  refine fun s tag k p hready hat hcomp => ⟨fun hread hstate => ?_, fun hgood hstate => ?_, fun hstate => ?_,
    fun hread hstate n hn => ?_⟩
  · refine exec_office (r := .withdraw p.ref) rfl hready rfl rfl ?_
    rw [takeRequest, takeWithdraw, fromOffice_office, namingRecord_read (s := reserve s) hread, if_pos hstate]
    rfl
  · refine exec_office (r := .clearStranded (BitVec.ofNat 16 k.val)) rfl hready rfl rfl ?_
    rw [takeRequest, takeClearStranded, fromOffice_office, namingSlot_live (s := reserve s) hat,
      readingRecord_good (s := reserve s) hgood, if_pos hstate, clearRecord_good (s := reserve s) _ hcomp]
    rfl
  · refine exec_office (r := .clearQuarantine (BitVec.ofNat 16 k.val)) rfl hready rfl rfl ?_
    rw [takeRequest, takeClearQuarantine, fromOffice_office, namingSlot_live (s := reserve s) hat, if_pos hstate,
      clearRecord_good (s := reserve s) _ hcomp]
    rfl
  · refine exec_office (r := .retire p.ref) rfl hready rfl rfl ?_
    rw [takeRequest, takeRetire, fromOffice_office, namingRecord_read (s := reserve s) hread, if_pos hstate, hn]
    dsimp only
    rw [verifyComp_good (s := reserve s) (hcomp n hn)]
    rfl

/-- Settles O16. The record's own entry counts as free while its new code is placed. -/
theorem reissueReplacesTheCode : Obligations.ReissueReplacesTheCode := by
  intro s tag k p code v w kind hready hread hstate hrange hgood hno hnames hmem hopen hlow
  refine exec_office (r := .reissue p.ref code) rfl hready rfl rfl ?_
  rw [takeRequest, takeReissue, fromOffice_office, if_pos hrange, namingRecord_read (s := reserve s) hread, if_neg hstate,
    replaceCode_of_names (s := reserve s) _ hgood hno hnames hmem hopen hlow]
  exact answer_reserve _ _ (setWay w { kind := kind, code := code, check := 0 } (freeWay v s))

/-! ### STATUS (R21, R49) -/

/-- Settles O17. Each report is answered on the state it reports. -/
theorem statusReportsAndChangesNothing : Obligations.StatusReportsAndChangesNothing := by
  refine ⟨fun s tag o n hready hgood => ?_, fun s tag k p hready hread => ?_⟩
  · refine exec_taken (r := .statusCompartment (compByte n)) rfl hready rfl rfl (congrArg (requestTakenFrom o) ?_)
    rw [takeRequest, takeStatusCompartment, namingComp_octet, readingComp_good (s := reserve s) hgood]
    exact answer_reserve _ _ s
  obtain ⟨hslot, hat, hgood⟩ := hread
  have hslot : recordOf p.ref (reserve s) = some k := hslot
  have hat : parcelAt k (reserve s) = some p := hat
  have hgood : parcelGood k (reserve s) = true := hgood
  refine ⟨?_, fun t hjob hstate => ?_⟩
  · refine exec_office (r := .statusParcel p.ref) rfl hready rfl rfl ?_
    rw [takeRequest, takeStatusParcel, hslot]
    dsimp only [headerOf]
    rw [hat]
    dsimp only
    rw [statusOffice, if_pos hgood]
    exact answer_reserve _ _ s
  · refine exec_terminal (u := t) (r := .statusParcel p.ref) rfl hready rfl rfl (congrArg (restartInactivity t) ?_)
    rw [takeRequest, takeStatusParcel, hslot]
    dsimp only [headerOf]
    have hjob : (reserve s).creds.terms[t].openJob = some k := hjob
    rw [statusTerminal, if_pos hjob, readingRecord_good hgood, hat]
    dsimp only
    rw [if_neg hstate]
    exact answer_reserve _ _ s

end Sys2Proof.Machine

/-! PROOFS. Writes of one entry after another, and folds over tables that change one entry (1.1, 2.5, 3.1). -/

namespace Sys2Proof.Machine

variable {s : State} {n : CompNo} {k : Slot} {t : Term}

/-! ### Two writes of one entry are one -/

/-- The change passes the check byte on: the write behind it writes a new one (R1). -/
abbrev IgnoresCheck (f : Compartment → Compartment) : Prop := ∀ c b, f { c with check := b } = { f c with check := b }

theorem sealCompartment_check (c : Compartment) (b : Byte) : sealCompartment n { c with check := b } = sealCompartment n c :=
  rfl

theorem sealCompartment_of_ignores {f : Compartment → Compartment} (hf : IgnoresCheck f) (c : Compartment) :
    sealCompartment n (f (sealCompartment n c)) = sealCompartment n (f c) := by
  conv_lhs => rw [sealCompartment.eq_def n c, hf, sealCompartment_check]

theorem modComp_modComp {f g : Compartment → Compartment} (hf : IgnoresCheck f) :
    modComp n f (modComp n g s) = modComp n (fun c => f (g c)) s := by
  have hat : (modComp n g s).comps[n] = sealCompartment n (g s.comps[n]) := by rw [modComp_at, if_pos rfl]
  rw [modComp, hat]
  unfold modComp setComp
  simp only [sealCompartment_of_ignores hf, Vector.set_set]

theorem setParcel_setParcel (p q : Parcel) : setParcel k p (setParcel k q s) = setParcel k p s := by
  unfold setParcel
  simp only [Vector.set_set]

theorem modParcel_live {p : Parcel} (h : parcelAt k s = some p) (f : Parcel → Parcel) :
    modParcel k f s = setParcel k (f p) s := by
  rw [modParcel, h]

theorem parcelAt_setParcel (p : Parcel) : parcelAt k (setParcel k p s) = some (sealParcel k p) := by
  rw [setParcel_at, if_pos rfl]

/-- The change passes the record's check byte on (R41). -/
abbrev IgnoresParcelCheck (f : Parcel → Parcel) : Prop := ∀ p b, f { p with check := b } = { f p with check := b }

theorem sealParcel_check (p : Parcel) (b : Byte) : sealParcel k { p with check := b } = sealParcel k p := rfl

theorem modParcel_modParcel {f g : Parcel → Parcel} (hf : IgnoresParcelCheck f) :
    modParcel k f (modParcel k g s) = modParcel k (fun p => f (g p)) s := by
  cases hat : parcelAt k s with
  | none =>
    have hsame : ∀ h : Parcel → Parcel, modParcel k h s = s := fun h => by rw [modParcel, hat]
    rw [hsame, hsame, hsame]
  | some p =>
    rw [modParcel_live hat, modParcel_live hat, modParcel_live (parcelAt_setParcel _), setParcel_setParcel]
    unfold setParcel
    rw [sealParcel.eq_def k (g p), hf, sealParcel_check]

theorem parcelAt_modParcel_live {p : Parcel} (h : parcelAt k s = some p) (f : Parcel → Parcel) :
    parcelAt k (modParcel k f s) = some (sealParcel k (f p)) := by
  rw [modParcel_live h, parcelAt_setParcel]

/-- The job timers of a compartment that stays fitted stop before or after a change of its entry (R151). -/
theorem stopJobTimers_modComp {f : Compartment → Compartment} (h : isFitted n (modComp n f s) = isFitted n s) :
    stopJobTimers n (modComp n f s) = modComp n f (stopJobTimers n s) := by
  unfold stopJobTimers modDoor
  rw [h]
  rfl

/-! ### Folds -/

/-- A fold over a table whose steps leave all but one entry alone is that entry's step. -/
theorem foldl_at {α : Type} {l : List α} {f : State → α → State} {a : α} (hnodup : l.Nodup) (hmem : a ∈ l)
    (hbefore : ∀ b ∈ l, b ≠ a → f s b = s) (hafter : ∀ b ∈ l, b ≠ a → f (f s a) b = f s a) : l.foldl f s = f s a := by
  induction l with
  | nil => cases hmem
  | cons b l ih =>
    obtain ⟨hb, hnodup⟩ := List.nodup_cons.mp hnodup
    by_cases e : b = a
    · subst e
      exact foldl_of_fixed fun c hc => hafter c (List.mem_cons_of_mem _ hc) fun e => hb (e ▸ hc)
    · rw [List.foldl_cons, hbefore b (List.mem_cons_self ..) e]
      exact ih hnodup ((List.mem_cons.mp hmem).resolve_left (Ne.symm e))
        (fun c hc => hbefore c (List.mem_cons_of_mem _ hc)) fun c hc => hafter c (List.mem_cons_of_mem _ hc)

theorem allTerms_nodup : allTerms.Nodup := by decide

theorem mem_allTerms (t : Term) : t ∈ allTerms := by revert t; decide

/-! ### The end of an open job (R32) -/

theorem endOpenJob_other {b : Bool} (h : s.creds.terms[t].openJob ≠ some k) : endOpenJob t k b s = s := if_neg h

theorem endJobsOn_of_none (h : ∀ u : Term, s.creds.terms[u].openJob ≠ some k) : endJobsOn k s = s :=
  foldl_of_fixed fun u _ => endOpenJob_other (h u)

/-- Only the terminal whose open job names the slot is changed, when its end leaves the others' jobs. -/
theorem endJobsOn_one {x : State} (hothers : ∀ u : Term, u ≠ t → s.creds.terms[u].openJob ≠ some k)
    (hx : endOpenJob t k false s = x) (hterms : ∀ u : Term, u ≠ t → x.creds.terms[u] = s.creds.terms[u]) :
    endJobsOn k s = x := by
  subst hx
  exact foldl_at allTerms_nodup (mem_allTerms t) (fun u _ hu => endOpenJob_other (hothers u hu))
    fun u _ hu => endOpenJob_other (by rw [hterms u hu]; exact hothers u hu)

theorem modTerm_other {u : Term} (h : u ≠ t) (f : TermContext → TermContext) :
    (modTerm t f s).creds.terms[u] = s.creds.terms[u] := by
  rw [modTerm_at, if_neg (Ne.symm h)]

/-- A CUSTOMER, or an IDLE terminal, returns to IDLE (R32). -/
theorem endOpenJob_customer (hjob : s.creds.terms[t].openJob = some k) (hcourier : courierAt t s = none) :
    endOpenJob t k false s = modTerm t (fun c => { c with openJob := none, mode := .idle }) s := by
  have hended : modTerm t (fun c => { c with mode := .idle })
      (modTerm t (fun c => { c with openJob := none, lastQuoteLapsed := c.lastQuoteLapsed || false }) s) =
      modTerm t (fun c => { c with openJob := none, mode := .idle }) s := by
    rw [modTerm_modTerm]
    exact congrArg (fun f => modTerm t f s) (funext fun c => by rw [Bool.or_false])
  unfold endOpenJob
  dsimp only
  rw [if_pos hjob, hended]
  cases hmode : s.creds.terms[t].mode with
  | courier i => rw [courierAt, hmode] at hcourier; cases hcourier
  | _ => rfl

/-- The end of a COURIER's open job, its mode and sign-off marker as they stood (R32). -/
theorem endOpenJob_courier {i : CourierInfo} (hjob : s.creds.terms[t].openJob = some k)
    (hmode : s.creds.terms[t].mode = .courier i) : endOpenJob t k false s =
      (let ended := modTerm t (fun c => { c with openJob := none }) s
      if s.creds.terms[t].signOffPending then signOff t ended else restartInactivity t ended) := by
  have hended : modTerm t (fun c => { c with openJob := none, lastQuoteLapsed := c.lastQuoteLapsed || false }) s =
      modTerm t (fun c => { c with openJob := none }) s :=
    congrArg (fun f => modTerm t f s) (funext fun c => by rw [Bool.or_false])
  unfold endOpenJob
  dsimp only
  rw [if_pos hjob, hended, hmode]

end Sys2Proof.Machine

/-! PROOFS. The retirement of a record: its code, its place in the return queue, its compartment, its slot and the jobs
on it (R13, R32, R44, R45, R107). -/

namespace Sys2Proof.Machine

variable {s : State} {n : CompNo} {k : Slot} {t : Term}

/-! ### The steps of a retirement -/

theorem leaveReturnQueue_absent (h : k ∉ s.returns.queue) : leaveReturnQueue k s = s := if_neg h

theorem leaveReturnQueue_queued (h : k ∈ s.returns.queue) : leaveReturnQueue k s = { s with returns :=
    { s.returns with
      queue := s.returns.queue.filter (fun j => j != k)
      sweep := s.returns.sweep.map (fun w =>
        if s.returns.queue.idxOf k < w.cursor then { w with cursor := w.cursor - 1 } else w) } } := if_pos h

theorem parcelAt_leaveReturnQueue (j : Slot) : parcelAt j (leaveReturnQueue k s) = parcelAt j s := by
  by_cases h : k ∈ s.returns.queue
  · rw [leaveReturnQueue_queued h]
    rfl
  · rw [leaveReturnQueue_absent h]

/-- A retirement behind the removal of the code (R45). -/
def retireUncoded (k : Slot) (p : Parcel) (s : State) : State :=
  let left := leaveReturnQueue k s
  let freed := match p.comp with
    | some n => free n left
    | none => left
  endJobsOn k { freed with parcels :=
    { slots := freed.parcels.slots.set k.val none k.isLt, free := freed.parcels.free ++ [k] } }

theorem retireRecord_uncoded {p : Parcel} (h : parcelAt k (removeCredentialOf k s) = some p) :
    retireRecord k s = retireUncoded k p (removeCredentialOf k s) := by
  have hcomp : (parcelAt k (leaveReturnQueue k (removeCredentialOf k s))).bind Parcel.comp = p.comp := by
    rw [parcelAt_leaveReturnQueue, h, Option.bind_some]
  unfold retireRecord retireUncoded
  dsimp only
  rw [hcomp] <;> rfl

theorem removeCredentialOf_of_none
    (h : ∀ (w : Way) (c : Credential), s.creds.ways[w] = some c → kindSlot c.kind ≠ some k) :
    removeCredentialOf k s = s := by
  have hnone : credentialOf k s = none := by
    rw [credentialOf_eq]
    refine List.find?_eq_none.mpr fun w _ hw => ?_
    obtain ⟨kind, hkind, hslot⟩ := Option.bind_eq_some_iff.mp (beq_iff_eq.mp hw)
    obtain ⟨c, hc, rfl⟩ := Option.map_eq_some_iff.mp hkind
    exact h w c hc hslot
  unfold removeCredentialOf
  rw [hnone]

/-! ### The free of a compartment (R13) -/

/-- The link between a compartment and the record that names it is removed on both sides. -/
theorem unlink_linked {p : Parcel} (hlink : s.comps[n].link = some k) (hat : parcelAt k s = some p)
    (hcomp : p.comp = some n) :
    unlink n s = modComp n (fun c => { c with link := none }) (setParcel k { p with comp := none } s) := by
  have hparcel : modParcel k (fun p => if p.comp = some n then { p with comp := none } else p) s =
      setParcel k { p with comp := none } s := by
    rw [modParcel_live hat, if_pos hcomp]
  unfold unlink
  rw [hlink]
  dsimp only
  rw [hparcel]

/-- What a free leaves of the entry: BARRED(MANAGEMENT) on a pending bar, else VACANT. -/
def freed (c : Compartment) : Compartment :=
  if c.pendingBar then
    { c with state := .barred, cause := some .management, pendingBar := false, phase := .none, attempts := 0, suspect := false }
  else { c with state := .vacant, phase := .none, attempts := 0, suspect := false }

theorem free_of_use (h : s.comps[n].state = .loaded ∨ isJob s.comps[n].state = true) :
    free n s = joinFree n (modComp n freed (stopJobTimers n (withdraw n (unlink n s)))) := by
  unfold free
  cases hstate : s.comps[n].state with
  | held | loading | loaded | releasing | sweeping => rfl
  | unfitted | vacant | barred | maint => rw [hstate] at h; rcases h with h | h <;> cases h

theorem free_of_barred (h : s.comps[n].state = .barred) : free n s = withdraw n (unlink n s) := by
  unfold free
  rw [h]

theorem free_of_idle (h : s.comps[n].state = .unfitted ∨ s.comps[n].state = .vacant ∨ s.comps[n].state = .maint) :
    free n s = s := by
  unfold free
  rcases h with h | h | h <;> rw [h]

/-- The entry of a compartment taken from its record. -/
def freedUnlinked (c : Compartment) : Compartment :=
  { c with
    link := none, phase := .none, attempts := 0, suspect := false, pendingBar := false
    state := if c.pendingBar then .barred else .vacant
    cause := if c.pendingBar then some .management else c.cause }

theorem freed_unlinked (c : Compartment) : freed { c with link := none } = freedUnlinked c := by
  obtain ⟨_, _, _, _, _, _, _, _, pendingBar, _, _, _⟩ := c
  cases pendingBar <;> rfl

theorem freed_ignoresCheck : IgnoresCheck freed := by
  intro c b
  obtain ⟨_, _, _, _, _, _, _, _, pendingBar, _, _, _⟩ := c
  cases pendingBar <;> rfl

theorem isFitted_modComp (f : Compartment → Compartment) :
    isFitted n (modComp n f s) = ((f s.comps[n]).state != .unfitted) := by
  rw [isFitted, modComp_at, if_pos rfl]
  rfl

theorem freedUnlinked_fitted (c : Compartment) : ((freedUnlinked c).state != .unfitted) = true := by
  obtain ⟨_, _, _, _, _, _, _, _, pendingBar, _, _, _⟩ := c
  cases pendingBar <;> rfl

/-- A free of a linked compartment under a job or LOADED, with its link's removal in one write. -/
theorem free_linked {p : Parcel} (h : s.comps[n].state = .loaded ∨ isJob s.comps[n].state = true)
    (hlink : s.comps[n].link = some k) (hat : parcelAt k s = some p) (hcomp : p.comp = some n) :
    free n s = joinFree n (stopJobTimers n (withdraw n (modComp n freedUnlinked (setParcel k { p with comp := none } s)))) := by
  have hfitted : s.comps[n].state ≠ .unfitted := by
    intro hstate
    rw [hstate] at h
    rcases h with h | h <;> cases h
  rw [free_of_use h, unlink_linked hlink hat hcomp]
  refine congrArg (joinFree n) ?_
  have hone : ∀ x : State, modComp n freed (modComp n (fun c => { c with link := none }) x) = modComp n freedUnlinked x :=
    fun x => (modComp_modComp freed_ignoresCheck).trans
      (congrArg (fun f => modComp n f x) (funext freed_unlinked))
  have hone : modComp n freed (modComp n (fun c => { c with link := none }) (setParcel k { p with comp := none } s)) =
      modComp n freedUnlinked (setParcel k { p with comp := none } s) := by
    rw [modComp_modComp freed_ignoresCheck, funext freed_unlinked]
  have hafter : isFitted n (modComp n freed (modComp n (fun c => { c with link := none })
      (setParcel k { p with comp := none } s))) = true := by
    rw [hone, isFitted_modComp]
    exact freedUnlinked_fitted _
  have hbefore : isFitted n (modComp n (fun c => { c with link := none }) (setParcel k { p with comp := none } s)) =
      true := by
    rw [isFitted_modComp]
    exact bne_iff_ne.mpr hfitted
  rw [← stopJobTimers_modComp (s := withdraw n (modComp n (fun c => { c with link := none })
    (setParcel k { p with comp := none } s))) (hafter.trans hbefore.symm)]
  exact congrArg (fun x => stopJobTimers n (withdraw n x)) hone

/-! ### The open jobs on a retired record (R32) -/

/-- Settles O15. The steps of a retirement, each by the case it meets. -/
theorem retirementFreesSlotCompartmentAndCode : Obligations.RetirementFreesSlotCompartmentAndCode := by
  refine ⟨fun s k p hat => ⟨fun w kind hnames => ?_, fun hno => ?_⟩,
    fun s k => ⟨leaveReturnQueue_absent, leaveReturnQueue_queued⟩,
    fun s n k p hlink hat hcomp => ⟨fun h => free_linked h hlink hat hcomp, fun h => ?_, free_of_idle⟩,
    fun s t k hothers => ⟨fun hjob => ?_, fun hjob => ⟨fun hcourier => ?_, fun i hmode => ⟨fun hpending => ?_,
      fun hpending hsweep => ?_⟩⟩⟩⟩
  · have hremoved := removeCredentialOf_of_names hnames
    rw [retireRecord_uncoded (p := p) (by rw [hremoved]; exact hat), hremoved]
    rfl
  · have hremoved := removeCredentialOf_of_none hno
    rw [retireRecord_uncoded (p := p) (by rw [hremoved]; exact hat), hremoved]
    rfl
  · rw [free_of_barred h, unlink_linked hlink hat hcomp]
  · refine endJobsOn_of_none fun u => ?_
    by_cases hu : u = t
    · subst hu
      exact hjob
    · exact hothers u hu
  · exact endJobsOn_one hothers (endOpenJob_customer hjob hcourier) fun u hu => modTerm_other hu _
  · refine endJobsOn_one hothers ?_ fun u hu => modTerm_other hu _
    have hat : courierAt t (modTerm t (fun c => { c with openJob := none }) s) = some i :=
      (courierAt_modTerm_of_mode rfl).trans (courierAt_eq_some.mpr hmode)
    rw [endOpenJob_courier hjob hmode]
    dsimp only
    rw [hpending, if_neg Bool.false_ne_true, restartInactivity, hat]
    dsimp only
    rw [modTerm_modTerm]
    rfl
  · refine endJobsOn_one hothers ?_ fun u hu => modTerm_other hu _
    rw [endOpenJob_courier hjob hmode]
    dsimp only
    rw [hpending, if_pos rfl, signOff_of_no_sweep (s := modTerm t (fun c => { c with openJob := none }) s) hsweep,
      modTerm_modTerm]

end Sys2Proof.Machine

/-! PROOFS. What a grant request leaves unchanged, and the reading of records by the engines (7.7, R41, R43). -/

namespace Sys2Proof.Machine

variable {s : State} {n : CompNo} {k : Slot}

/-! ### A grant request changes arbiter, operation queue and reply queue alone (R131, R140, R142) -/

/-- The state with the link, the arbiter and the bus replaced. -/
def withBlocks (l : LinkInterface) (a : Arbiter) (b : ColumnBus) (s : State) : State :=
  { s with link := l, arbiter := a, bus := b }

/-- The two states differ in link, arbiter and bus alone. -/
def SameBut (s x : State) : Prop := x = withBlocks x.link x.arbiter x.bus s

theorem SameBut.refl (s : State) : SameBut s s := rfl

theorem SameBut.trans {x y : State} (h : SameBut s x) (g : SameBut x y) : SameBut s y := by
  unfold SameBut at *
  rw [g, h]
  rfl

theorem SameBut.after {x y : State} (g : SameBut x y) (h : SameBut s x) : SameBut s y := h.trans g

theorem placeReply_sameBut (r : Reply) (s : State) : SameBut s (placeReply r s) := by
  rcases placeReply_cases r s with ⟨-, h⟩ | ⟨-, h⟩ <;> rw [h] <;> rfl

theorem answerRelay_sameBut (c : ReplyCode) (op : Op) (s : State) : SameBut s (answerRelay c op s) := by
  cases op with
  | relay c k m tag origin => exact placeReply_sameBut _ s
  | _ => rfl

theorem enqueueOp_sameBut (op : Op) (s : State) : SameBut s (enqueueOp op s) := by
  unfold enqueueOp
  split
  · rfl
  · split
    · exact (answerRelay_sameBut _ _ _).after rfl
    · rfl

theorem grant_sameBut (r : GrantRequest) (s : State) : SameBut s (grant r s) :=
  (enqueueOp_sameBut _ _).after rfl

theorem lookOverUpTo_sameBut (fuel : Nat) (s : State) : SameBut s (lookOverUpTo fuel s) := by
  induction fuel generalizing s with
  | zero => rfl
  | succ fuel ih =>
    unfold lookOverUpTo
    split
    · exact (grant_sameBut _ s).trans (ih _)
    · rfl

theorem lookOver_sameBut (s : State) : SameBut s (lookOver s) := lookOverUpTo_sameBut _ s

theorem requestGrant_sameBut (n : CompNo) (cls : GrantClass) (s : State) : SameBut s (requestGrant n cls s) := by
  unfold requestGrant
  split
  · rfl
  · split
    · exact (lookOver_sameBut _).after rfl
    · rfl

section
variable {x : State} (h : SameBut s x)
include h

theorem SameBut.creds : x.creds = s.creds := by rw [h]; rfl
theorem SameBut.comps : x.comps = s.comps := by rw [h]; rfl
theorem SameBut.freeLists : x.freeLists = s.freeLists := by rw [h]; rfl
theorem SameBut.parcels : x.parcels = s.parcels := by rw [h]; rfl
theorem SameBut.deposit : x.deposit = s.deposit := by rw [h]; rfl
theorem SameBut.time : x.time = s.time := by rw [h]; rfl
theorem SameBut.charge : x.charge = s.charge := by rw [h]; rfl
theorem SameBut.collection : x.collection = s.collection := by rw [h]; rfl
theorem SameBut.returns : x.returns = s.returns := by rw [h]; rfl
theorem SameBut.dormancy : x.dormancy = s.dormancy := by rw [h]; rfl
theorem SameBut.doors : x.doors = s.doors := by rw [h]; rfl
theorem SameBut.mgmt : x.mgmt = s.mgmt := by rw [h]; rfl

end

theorem courierAt_of_creds {t : Term} {x : State} (h : x.creds = s.creds) : courierAt t x = courierAt t s := by
  rw [courierAt, h]
  rfl

/-! ### The record an engine reads (R41, R43) -/

theorem onRecordElse_read {p : Parcel} {bad : State → State} {expected : List ParcelState}
    (hat : parcelAt k s = some p) (hgood : parcelGood k s = true) (hstate : p.state ∈ expected)
    (f : Parcel → State → State) : onRecordElse bad k expected f s = f p s := by
  rw [onRecordElse, hat]
  dsimp only
  rw [if_pos hgood, if_pos hstate]

theorem onRecord_read {p : Parcel} {expected : List ParcelState} (hat : parcelAt k s = some p)
    (hgood : parcelGood k s = true) (hstate : p.state ∈ expected) (f : Parcel → State → State) :
    onRecord k expected f s = f p s := onRecordElse_read hat hgood hstate f

theorem recordIn_read {p : Parcel} {states : List ParcelState} (hat : parcelAt k s = some p) (hstate : p.state ∈ states) :
    recordIn k states s = true := by
  rw [recordIn, hat]
  exact decide_eq_true hstate

end Sys2Proof.Machine

/-! PROOFS. Allocation, DEPOSIT, RETURN_DROP and ABANDON (R7, R8, R51, R52, R54). -/

namespace Sys2Proof.Machine

open Sys2Proof.Wire

variable {s : State} {n : CompNo} {k : Slot} {t : Term} {p : Parcel}

/-! ### Allocation (R7, R8) -/

theorem findCompartment_eq_some {cls : SizeClass} {upsize : Bool} :
    findCompartment cls upsize s = some n ↔ AllocationTakes cls upsize n s := by
  unfold findCompartment firstPresent AllocationTakes
  simp only [List.findSome?_eq_some_iff, List.find?_eq_some_iff_append, List.find?_eq_none, Bool.not_eq_true,
    Bool.not_eq_true']
  constructor
  · rintro ⟨front, c, back, hclasses, ⟨hpresent, before, after, hlist, hbefore⟩, hfront⟩
    exact ⟨c, before, after, front, back, hclasses, hlist, hpresent, hbefore, hfront⟩
  · rintro ⟨c, before, after, front, back, hclasses, hlist, hpresent, hbefore, hfront⟩
    exact ⟨front, c, back, hclasses, ⟨hpresent, before, after, hlist, hbefore⟩, hfront⟩

theorem findCompartment_eq_none {cls : SizeClass} {upsize : Bool} : findCompartment cls upsize s = none ↔
    ∀ c ∈ classesFrom cls upsize, ∀ n ∈ listOf c s.freeLists, onPresentColumn n s = false := by
  unfold findCompartment firstPresent
  simp only [List.findSome?_eq_none_iff, List.find?_eq_none, Bool.not_eq_true]

/-! ### The deposit taken (R51) -/

theorem setOpenJob_eq (t : Term) (k : Slot) (s : State) : setOpenJob t k s = modTerm t (fun c =>
    { c with openJob := some k, lastQuoteLapsed := false, mode := if c.mode = .idle then .customer else c.mode }) s := by
  refine congrArg (fun f => modTerm t f s) (funext fun c => ?_)
  cases hmode : c.mode <;> simp

theorem openDeposit_eq (t : Term) (k : Slot) (n : CompNo) (s : State) : openDeposit t k n s = depositTaken t k n s := by
  rw [openDeposit, setOpenJob_eq]
  rfl

theorem allocate_found (h : Header) (hfind : findCompartment p.cls p.upsize s = some n) (hgood : compGood n s = true) :
    allocate h t k p s = answer h (num1 n.val ++ [classCode s.comps[n].cls]) (depositTaken t k n s) := by
  rw [allocate, hfind]
  dsimp only
  rw [readingComp_good hgood, openDeposit_eq]

theorem unlessClockOrHold_open (h : Header) (f : State → State) (hclock : s.time.clockSet = true)
    (hhold : s.arbiter.holdActive = false) : unlessClockOrHold h f s = f s := by
  rw [unlessClockOrHold, hclock, holdActive, hhold]
  rfl

theorem terms_depositTaken (t : Term) (k : Slot) (n : CompNo) (s : State) :
    (depositTaken t k n s).creds = (setOpenJob t k s).creds := by
  rw [setOpenJob_eq, depositTaken, (requestGrant_sameBut _ _ _).creds]
  unfold modParcel
  split <;> rfl

theorem courierAt_setOpenJob (h : courierAt t s = none) : courierAt t (setOpenJob t k s) = none := by
  rw [setOpenJob_eq, courierAt_modTerm]
  rw [courierAt_eq] at h
  dsimp only
  cases hmode : s.creds.terms[t].mode with
  | courier i => rw [hmode] at h; cases h
  | _ => rfl

/-- The record a fitting RETURN_DROP names goes on to the allocation (R52). -/
theorem returnOn_advised (h : Header) (hat : parcelAt k s = some p) (hgood : parcelGood k s = true)
    (hstate : p.state = .advised) (hfind : findCompartment p.cls p.upsize s = some n) (hcomp : compGood n s = true) :
    returnOn h t k s = answer h (num1 n.val ++ [classCode s.comps[n].cls]) (depositTaken t k n s) := by
  rw [returnOn, readingRecord_good hgood, hat]
  dsimp only
  rw [hstate]
  exact allocate_found h hfind hcomp

/-- Settles O18. The searches read the lists in order; both requests go on to the allocation. -/
theorem depositAndReturnDropTakeTheCompartmentFound : Obligations.DepositAndReturnDropTakeTheCompartmentFound := by
  refine ⟨fun cls upsize s => ⟨fun n => findCompartment_eq_some, findCompartment_eq_none⟩,
    fun s tag t k p n hready hjob hclock hhold hat hgood hstate htakes hcomp => ?_⟩
  have hfind : findCompartment p.cls p.upsize s = some n := findCompartment_eq_some.mpr htakes
  have hnojob : s.creds.terms[t].openJob.isSome = false := by rw [hjob]; rfl
  refine ⟨fun i hmode hpending hperm hslot hkind => ?_, fun code w hcourier hlock hrange hbucket hholds => ?_⟩
  · refine exec_terminal (u := t) (r := .deposit p.ref) rfl hready rfl rfl (congrArg (restartInactivity t) ?_)
    have hmode : (reserve s).creds.terms[t].mode = .courier i := hmode
    have hpending : (reserve s).creds.terms[t].signOffPending = false := hpending
    have hnojob : (reserve s).creds.terms[t].openJob.isSome = false := hnojob
    rw [takeRequest, takeDeposit, fromTerminal_terminal]
    dsimp only
    rw [hmode]
    dsimp only
    rw [hpending, hperm, hnojob, if_neg Bool.false_ne_true, if_neg Bool.false_ne_true]
    rw [Bool.not_true, if_neg Bool.false_ne_true, unlessClockOrHold_open (s := reserve s) _ _ hclock hhold,
      namingRecord_read (s := reserve s) ⟨hslot, hat, hgood⟩, depositOn, hkind, if_neg nofun, hstate]
    exact allocate_found (s := reserve s) _ hfind hcomp
  · have hcourier' : courierAt t (reserve s) = none := hcourier
    have hnojob' : (reserve s).creds.terms[t].openJob.isSome = false := hnojob
    have hpresent := presenting_of_holds (s := reserve s) (h := headerOf tag (.terminal t) (.returnDrop code)) (t := t)
      (f := fun kind x => match kindSlot kind with
        | some k => returnOn (headerOf tag (.terminal t) (.returnDrop code)) t k (resetFailures t x)
        | none => x) hrange hbucket hholds (needs := isReturnAuth) rfl
    refine exec_terminal (u := t) (r := .returnDrop code) rfl hready rfl rfl ?_
    have htaken : takeReturnDrop (headerOf tag (.terminal t) (.returnDrop code)) code (reserve s) =
        filled tag (originOctet (.terminal t)) ([0x04, 0x00] ++ num1 n.val ++ [classCode s.comps[n].cls])
          (depositTaken t k n (modTerm t (fun c => { c with failed := 0, lockLevel := 0 }) (reserve s))) := by
      rw [takeReturnDrop, fromTerminal_terminal, customerAt, hcourier']
      dsimp only
      rw [hnojob', if_neg Bool.false_ne_true, unlessLockedOut_of_zero (s := reserve s) hlock,
        unlessClockOrHold_open (s := reserve s) _ _ hclock hhold]
      exact hpresent.trans (returnOn_advised (s := resetFailures t (reserve s)) _ hat hgood hstate hfind hcomp)
    rw [takeRequest, htaken]
    refine restartInactivity_of_no_courier ?_
    refine (courierAt_of_creds ((placeReply_sameBut _ _).creds.trans (terms_depositTaken _ _ _ _))).trans ?_
    exact courierAt_setOpenJob ((courierAt_modTerm_of_mode (s := reserve s) rfl).trans hcourier)

/-! ### ABANDON (R54) -/

/-- The EMPTY outcome of a deposit whose record reads good (R54, R56). -/
theorem depositBack_read (hat : parcelAt k s = some p) (hgood : parcelGood k s = true) (hstate : p.state = .depositing)
    (outcome : DepositOutcome) : depositBack n k outcome s =
      depositOver k (raise (.deposit p.ref (compByte n) outcome none)
        (modParcel k (fun p => { p with state := .advised, comp := none, arrival := none }) (free n s))) :=
  onRecord_read hat hgood (by rw [hstate]; decide) _

/-- Settles O19. The request still waits, so its withdrawal succeeds. -/
theorem abandonGivesTheCompartmentBack : Obligations.AbandonGivesTheCompartmentBack := by
  intro s tag t m p hready hmarker hat hgood hstate hcomp hheld hlink hphase hwaiting
  refine exec_terminal (u := t) (r := .abandon) rfl hready rfl rfl (congrArg (restartInactivity t) ?_)
  have hmarker : (reserve s).deposit.markers[t] = some m := hmarker
  have hwithdraw : withdrawSucceeds m.comp (reserve s) = true := by
    rw [withdrawSucceeds, Bool.or_eq_true]
    exact .inl hwaiting
  have hin : recordIn m.slot [.depositing] (reserve s) = true :=
    recordIn_read (s := reserve s) hat (by rw [hstate]; decide)
  have hlink : ((reserve s).comps[m.comp].link == some m.slot) = true := beq_iff_eq.mpr hlink
  rw [takeRequest, takeAbandon, fromTerminal_terminal, hmarker]
  dsimp only
  rw [readingComp_good (s := reserve s) hcomp, if_pos ⟨hheld, hphase, hwithdraw⟩,
    readingRecord_good (s := reserve s) hgood, abandonOn, hin, hlink, Bool.and_self, if_pos rfl,
    depositBack_read (s := withdraw m.comp (reserve s)) hat hgood hstate]
  rfl

end Sys2Proof.Machine

/-! PROOFS. The computation queue: starts, expiry at quote, completion (R69, R74, R85, R86). -/

namespace Sys2Proof.Machine

open Sys2Proof.Wire

variable {s : State} {n : CompNo} {k : Slot} {t : Term} {p : Parcel} {e : QueuedCharge} {rest : List QueuedCharge}

/-! ### Starts (R69, R74) -/

theorem startComputations_idle (h : s.charge.running ≠ none ∨ s.charge.queue = []) (fuel : Nat) :
    startComputations fuel s = s := by
  cases fuel with
  | zero => rfl
  | succ fuel =>
    rw [startComputations]
    split
    · next hrunning hqueue =>
      rcases h with h | h
      · exact absurd hrunning h
      · rw [h] at hqueue; cases hqueue
    · rfl

/-- The head of the queue, its record read, is expired, judged, or starts (R69, R74, R86). -/
theorem startComputations_read (hrunning : s.charge.running = none) (hqueue : s.charge.queue = e :: rest)
    (hat : parcelAt e.slot s = some p) (hgood : parcelGood e.slot s = true) (fuel : Nat) :
    startComputations (fuel + 1) s =
      if p.state = .quoting ∧ (snapshotOf e.slot p s).plan.expiry ≤ snapDwell (snapshotOf e.slot p s) then
        startComputations fuel (expiredAtQuote e (setCharge rest none s))
      else if p.state ≠ .quoting ∨ blockCount (snapshotOf e.slot p s) = 0 then
        startComputations fuel (judgeQuote e (snapshotOf e.slot p s) (setCharge rest none s))
      else setCharge (e :: rest) (some (snapshotOf e.slot p s)) s := by
  rw [startComputations, hrunning, hqueue]
  dsimp only
  rw [if_pos hgood, hat]

/-- A damaged record's computations leave the queue, its head among them. -/
theorem quarantine_quotes_lt (hqueue : s.charge.queue = e :: rest) (hgood : parcelGood e.slot s ≠ true) :
    (quarantine e.slot s).charge.queue.length ≤ rest.length := by
  cases hat : parcelAt e.slot s with
  | none => rw [parcelGood, hat] at hgood; exact absurd rfl hgood
  | some p =>
    unfold quarantine quarantineIn
    rw [hat]
    dsimp only
    have hjobs := keeps_endJobsOn (taking := True) (quoting := True) e.slot
      (Keeps.refl (failedRecord ((markerComp e.slot s).or (depositComp e.slot s)) e.slot p s))
    have hrecord := failedRecord_quotes ((markerComp e.slot s).or (depositComp e.slot s)) e.slot p s
    have hdropped : s.charge.queue.filter (fun x => x.slot != e.slot) = rest.filter (fun x => x.slot != e.slot) := by
      rw [hqueue, List.filter_cons_of_neg (by simp)]
    rw [hdropped] at hrecord
    exact Nat.le_trans ((hjobs.quotes trivial).trans hrecord).length_le (List.length_filter_le _ _)

/-- Fuel beyond the queue's length changes nothing: every start takes an entry off the queue, or is the last. -/
theorem startComputations_of_lt : ∀ (f g : Nat) {s : State}, s.charge.queue.length < f → s.charge.queue.length < g →
    startComputations f s = startComputations g s := by
  intro f
  induction f with
  | zero => exact fun g s h _ => absurd h (Nat.not_lt_zero _)
  | succ f ih =>
    intro g s hf hg
    obtain ⟨g, rfl⟩ : ∃ m, g = m + 1 := ⟨g - 1, by omega⟩
    have hshorter : ∀ {x : State} {l : List QueuedCharge}, l.length + 1 = s.charge.queue.length →
        x.charge.queue.length ≤ l.length → startComputations f x = startComputations g x :=
      fun hl hx => ih g (by omega) (by omega)
    rw [startComputations, startComputations]
    split
    · next e rest hrunning hqueue =>
      have hlen : rest.length + 1 = s.charge.queue.length := by rw [hqueue]; rfl
      have hkept : ∀ {x : State}, Keeps True True (setCharge rest none s) x →
          startComputations f x = startComputations g x := fun h => hshorter hlen (h.quotes trivial).length_le
      split
      · split
        · exact hkept (keeps_releasePlace (Keeps.refl _))
        · dsimp only
          split
          · exact hkept (keeps_expiredAtQuote _ (Keeps.refl _))
          · split
            · exact hkept (keeps_judgeQuote _ _ (Keeps.refl _))
            · rfl
      · next hgood => exact hshorter hlen (quarantine_quotes_lt hqueue hgood)
    · rfl

/-- Behind a step that works the head off, the starts go on as from the state it leaves. -/
theorem chargeStarts_of_kept {x : State} (h : Keeps True True (setCharge rest none s) x) :
    startComputations (rest.length + 1) x = chargeStarts x :=
  startComputations_of_lt _ _ (Nat.lt_succ_of_le (h.quotes trivial).length_le) (Nat.lt_succ_self _)

/-! ### Releases (R10) -/

theorem releaseAndAsk_taken (hloaded : s.comps[n].state = .loaded) (hlink : s.comps[n].link = some k) (st : CompState)
    (cls : GrantClass) : releaseAndAsk n k st cls s =
      requestGrant n cls (modComp n (fun c => { c with state := st, phase := .awaitGrant, attempts := 0 }) s) := by
  rcases releaseAndAsk_cases n k st cls s with ⟨-, h⟩ | ⟨hno, -⟩
  · exact h
  · rw [(releaseTaken_iff n k s).mpr ⟨hloaded, hlink⟩] at hno
    cases hno

/-! ### The quote answered (R85) -/

/-- A quote of a record QUOTING in a compartment in service is written. -/
theorem judgeQuote_written (hat : parcelAt e.slot s = some p) (hgood : parcelGood e.slot s = true)
    (hstate : p.state = .quoting) (hcomp : p.comp = some n) (hn : compGood n s = true) (hloaded : s.comps[n].state = .loaded)
    (sn : Snapshot) : judgeQuote e sn s = quoteWritten e sn n s := by
  have hservice : outOfService n s = false := by rw [outOfService, hloaded]; rfl
  unfold judgeQuote
  rw [if_pos hgood, hat]
  dsimp only
  rw [hstate, if_neg nofun, if_neg (fun h => h rfl), hcomp]
  dsimp only
  rw [verifyComp_good hn, hservice, if_neg Bool.false_ne_true]

/-- The quote as the record keeps it (R41). -/
def quoteOf (e : QueuedCharge) (sn : Snapshot) (tb : TimeBase) : Quote :=
  { fee := feeOf sn, owed := owedOf sn, clamped := clampOf sn, minute := sn.quoteMinute
    endMinute := (clockAfter tb sn.plan.window).1, endSecond := (clockAfter tb sn.plan.window).2, terminal := e.terminal }

/-- The money of a quote as PAY and RELEASE carry it (R216). -/
def moneyOf (sn : Snapshot) : List Byte := num3 (feeOf sn) ++ num3 (owedOf sn) ++ flag (clampOf sn)

theorem quoteWritten_pay {sn : Snapshot} (howed : owedOf sn ≠ 0) : quoteWritten e sn n s =
    answer (collectHeader e) (0x00#8 :: moneyOf sn ++ oct4 (clockAfter s.time sn.plan.window).1 ++
        num1 (clockAfter s.time sn.plan.window).2.val)
      (setContext e.terminal (.due e.slot sn.plan.window none)
        (modParcel e.slot (fun p =>
          { p with quote := some (quoteOf e sn s.time), tendered := 0, change := 0, state := .due }) s)) := if_neg howed

theorem quoteWritten_release {sn : Snapshot} (howed : owedOf sn = 0) (hloaded : s.comps[n].state = .loaded)
    (hlink : s.comps[n].link = some e.slot) : quoteWritten e sn n s =
      answer (collectHeader e) (0x01#8 :: moneyOf sn ++ [compByte n])
        (requestGrant n .collect
          (modComp n (fun c => { c with state := .releasing, phase := .awaitGrant, attempts := 0 })
            (setContext e.terminal (.releasing e.slot none)
              (modParcel e.slot (fun p =>
                { p with quote := some (quoteOf e sn s.time), tendered := 0, change := 0, state := .releasing }) s)))) := by
  refine (if_pos howed).trans (congrArg (answer (collectHeader e) _) ?_)
  have hcomps : ∀ (x : State) (f : Parcel → Parcel), (modParcel e.slot f x).comps = x.comps := by
    intro x f
    unfold modParcel
    split <;> rfl
  rw [settlement]
  refine (releaseAndAsk_taken ?_ ?_ _ _).trans ?_
  · rw [setContext_comps, hcomps, hcomps]; exact hloaded
  · rw [setContext_comps, hcomps, hcomps]; exact hlink
  · have hone : modParcel e.slot (fun p => { p with change := p.tendered - 0, state := .releasing })
        (modParcel e.slot (fun p =>
          { p with quote := some (quoteOf e sn s.time), tendered := 0, change := 0, state := .due }) s) =
        modParcel e.slot (fun p =>
          { p with quote := some (quoteOf e sn s.time), tendered := 0, change := 0, state := .releasing }) s :=
      modParcel_modParcel fun _ _ => rfl
    rw [← hone]
    rfl

theorem blockCount_eq_zero {sn : Snapshot} (hblock : 0 < sn.plan.block) :
    blockCount sn = 0 ↔ snapDwell sn ≤ sn.plan.free := by
  rw [blockCount, ceilDiv, Nat.div_eq_zero_iff]
  omega

/-- What the completion of a computation leaves: PAY, or RELEASE where nothing is owed. -/
def quoteAnswered (e : QueuedCharge) (rest : List QueuedCharge) (n : CompNo) (s : State) (sn : Snapshot) : State :=
  let ends := clockAfter s.time sn.plan.window
  let quote : Quote :=
    { fee := feeOf sn, owed := owedOf sn, clamped := clampOf sn, minute := sn.quoteMinute, endMinute := ends.1
      endSecond := ends.2, terminal := e.terminal }
  let money := num3 (feeOf sn) ++ num3 (owedOf sn) ++ flag (clampOf sn)
  if owedOf sn ≠ 0 then
    filled e.tag (originOctet (.terminal e.terminal))
      ([0x06, 0x00, 0x00] ++ money ++ oct4 ends.1 ++ num1 ends.2.val)
      (setContext e.terminal (.due e.slot sn.plan.window none)
        (modParcel e.slot (fun p => { p with quote := some quote, tendered := 0, change := 0, state := .due })
          (setCharge rest none s)))
  else
    filled e.tag (originOctet (.terminal e.terminal)) ([0x06, 0x00, 0x01] ++ money ++ [compByte n])
      (requestGrant n .collect
        (modComp n (fun c => { c with state := .releasing, phase := .awaitGrant, attempts := 0 })
          (setContext e.terminal (.releasing e.slot none)
            (modParcel e.slot (fun p => { p with quote := some quote, tendered := 0, change := 0, state := .releasing })
              (setCharge rest none s)))))

section
variable (hat : parcelAt e.slot s = some p) (hgood : parcelGood e.slot s = true) (hstate : p.state = .quoting)
  (hcomp : p.comp = some n) (hn : compGood n s = true) (hloaded : s.comps[n].state = .loaded)
  (hlink : s.comps[n].link = some e.slot)
include hat hgood hstate hcomp hn hloaded hlink

theorem judgeQuote_answered (sn : Snapshot) :
    judgeQuote e sn (setCharge rest none s) = quoteAnswered e rest n s sn := by
  rw [judgeQuote_written (s := setCharge rest none s) hat hgood hstate hcomp hn hloaded]
  unfold quoteAnswered
  dsimp only
  by_cases howed : owedOf sn = 0
  · rw [if_neg (fun h => h howed), quoteWritten_release (s := setCharge rest none s) howed hloaded hlink]
    rfl
  · rw [if_pos howed, quoteWritten_pay howed]
    rfl

end

/-- Settles O22. The head of the queue is judged once against its record; further starts go on behind it. -/
theorem computationStartsAndItsQuoteIsAnswered : Obligations.ComputationStartsAndItsQuoteIsAnswered := by
  refine ⟨fun s h => startComputations_idle h _, fun s e rest p n hqueue hat hgood hstate hcomp hn hloaded hlink =>
    ⟨fun sn hrun hrunning => ?_, fun arrival hrunning harrival hblock => ?_⟩⟩
  · refine act_eq hrun ?_
    rw [completeComputation, hrunning, hqueue]
    exact judgeQuote_answered hat hgood hstate hcomp hn hloaded hlink sn
  have hfuel : chargeStarts s = startComputations ((rest.length + 1) + 1) s := by rw [chargeStarts, hqueue]; rfl
  have hsn : snapshotOf e.slot p s =
      { plan := s.charge.plans[p.plan], peaks := s.charge.peaks, cls := p.cls, arrival := some arrival, slot := e.slot
        prepaid := p.prepaid, quoteMinute := s.time.minute } := by
    rw [snapshotOf, harrival]
  have hread := startComputations_read hrunning hqueue hat hgood (rest.length + 1)
  rw [hsn] at hread
  refine ⟨fun hexpired => ?_, fun hbelow hfree => ?_, fun hbelow hover => ?_⟩
  · rw [hfuel, hread, if_pos ⟨hstate, hexpired⟩, chargeStarts_of_kept (keeps_expiredAtQuote _ (Keeps.refl _)),
      expiredAtQuote, modParcel_live (s := setCharge rest none s) hat]
    rfl
  · rw [hfuel, hread, if_neg (fun h => Nat.not_le.mpr hbelow h.2), if_pos (.inr ((blockCount_eq_zero hblock).mpr hfree)),
      chargeStarts_of_kept (keeps_judgeQuote _ _ (Keeps.refl _)),
      judgeQuote_answered hat hgood hstate hcomp hn hloaded hlink]
    rfl
  · rw [hfuel, hread, if_neg (fun h => Nat.not_le.mpr hbelow h.2), if_neg]
    rintro (h | h)
    · exact h hstate
    · exact Nat.not_le.mpr hover ((blockCount_eq_zero hblock).mp h)

end Sys2Proof.Machine

/-! PROOFS. COLLECT, TENDER, CANCEL and the ends of windows (chapter 5). -/

namespace Sys2Proof.Machine

open Sys2Proof.Wire

variable {s : State} {n : CompNo} {k : Slot} {t : Term} {p : Parcel}

theorem modParcel_creds (k : Slot) (f : Parcel → Parcel) (s : State) : (modParcel k f s).creds = s.creds := by
  unfold modParcel
  split <;> rfl

theorem modParcel_comps (k : Slot) (f : Parcel → Parcel) (s : State) : (modParcel k f s).comps = s.comps := by
  unfold modParcel
  split <;> rfl

/-! ### COLLECT (R81 to R84) -/

theorem modTerm_congr {f g : TermContext → TermContext} (h : f s.creds.terms[t] = g s.creds.terms[t]) :
    modTerm t f s = modTerm t g s := by
  unfold modTerm
  rw [h]

/-- The terminal of a taken COLLECT: failures reset, CUSTOMER, its open job the record (R32, R40). -/
def collecting (k : Slot) (c : TermContext) : TermContext :=
  { c with failed := 0, lockLevel := 0, openJob := some k, lastQuoteLapsed := false, mode := .customer }

theorem setOpenJob_resetFailures (h : courierAt t s = none) :
    setOpenJob t k (resetFailures t s) = modTerm t (collecting k) s := by
  rw [setOpenJob_eq, resetFailures, modTerm_modTerm]
  refine modTerm_congr ?_
  rw [courierAt_eq] at h
  unfold collecting
  cases hmode : s.creds.terms[t].mode with
  | courier i => rw [hmode] at h; cases h
  | _ => rfl

theorem takeCollect_presents {code : CodeValue} {w : Way} (tag : Byte) (r : Request) (hcourier : courierAt t s = none)
    (hjob : s.creds.terms[t].openJob = none) (hcontext : s.collection.contexts[t] = .none)
    (hlock : s.creds.terms[t].lockRemaining = 0) (hclock : s.time.clockSet = true) (hrange : codeInRange code = true)
    (hbucket : BucketGood code s) (hholds : HoldsCode code w (.pickup k) s) :
    takeCollect (headerOf tag (.terminal t) r) code s = collectRecord (headerOf tag (.terminal t) r) t k s := by
  have hnojob : s.creds.terms[t].openJob.isSome = false := by rw [hjob]; rfl
  have hvoid : clearVoid t s = s := by rw [clearVoid, hcontext]
  rw [takeCollect, fromTerminal_terminal, customerAt, hcourier]
  dsimp only
  rw [hnojob, if_neg Bool.false_ne_true, hvoid, unlessLockedOut_of_zero hlock, unlessClockUnset, if_pos hclock]
  exact presenting_of_holds hrange hbucket hholds rfl

section
variable (h : Header) (hat : parcelAt k s = some p) (hgood : parcelGood k s = true)
  (hcomp : p.comp = some n) (hn : compGood n s = true) (hpresent : onPresentColumn n s = true)
  (hloaded : s.comps[n].state = .loaded)
include hcomp hn hpresent hloaded

/-- The compartment of a record COLLECT names is in service on a PRESENT column (R83, R84). -/
theorem collectableComp_open (f : CompNo → State → State) : collectableComp h t p f s = f n (resetFailures t s) := by
  have hservice : outOfService n (resetFailures t s) = false := by
    have hstate : (resetFailures t s).comps[n].state = .loaded := hloaded
    rw [outOfService, hstate]
    rfl
  unfold collectableComp
  rw [hcomp]
  dsimp only
  rw [if_pos hn, hpresent, Bool.not_true, if_neg Bool.false_ne_true, hservice, if_neg Bool.false_ne_true]

include hat hgood

theorem collectRecord_stored (hstate : p.state = .stored) :
    collectRecord h t k s = collectStored h t k p (resetFailures t s) := by
  rw [collectRecord, if_pos hgood, hat]
  dsimp only
  rw [collectOn, hstate]
  exact collectableComp_open h hcomp hn hpresent hloaded _

theorem collectRecord_untaken (hstate : p.state = .untaken) :
    collectRecord h t k s = reopenRelease h t k n p (resetFailures t s) := by
  rw [collectRecord, if_pos hgood, hat]
  dsimp only
  rw [collectOn, hstate]
  exact collectableComp_open h hcomp hn hpresent hloaded _

end

/-- A quote of the record is queued for the terminal (R83). -/
theorem startQuoting_accepted (h : Header) (hcourier : courierAt t s = none) (hat : parcelAt k s = some p) :
    startQuoting h t k (resetFailures t s) =
      setCharge (s.charge.queue ++ [{ terminal := t, slot := k, tag := h.tag }]) s.charge.running
        (setContext t (.quoting k) (modParcel k (fun p => { p with state := .quoting }) (modTerm t (collecting k) s))) := by
  rw [startQuoting, modParcel_live (s := resetFailures t s) hat, modParcel_live (s := modTerm t (collecting k) s) hat,
    ← setOpenJob_resetFailures hcourier]
  rfl

/-- An UNTAKEN record is released again without payment (R84). -/
theorem reopenRelease_taken (h : Header) (hcourier : courierAt t s = none) (hat : parcelAt k s = some p)
    (hloaded : s.comps[n].state = .loaded) (hlink : s.comps[n].link = some k) :
    reopenRelease h t k n p (resetFailures t s) =
      answer h (0x01#8 :: quoteMoney p.quote ++ [compByte n]) (requestGrant n .collect
        (modComp n (fun c => { c with state := .releasing, phase := .awaitGrant, attempts := 0 })
          (setContext t (.releasing k none) (setReopen (s.collection.reopen.filter (fun e => e.slot != k))
            (modParcel k (fun p => { p with state := .releasing }) (modTerm t (collecting k) s)))))) := by
  rw [reopenRelease, modParcel_live (s := resetFailures t s) hat, modParcel_live (s := modTerm t (collecting k) s) hat,
    ← setOpenJob_resetFailures hcourier]
  exact congrArg (answer h _) (releaseAndAsk_taken (s := setContext t (.releasing k none)
    (setOpenJob t k (setReopen (s.collection.reopen.filter (fun e => e.slot != k))
      (setParcel k { p with state := .releasing } (resetFailures t s))))) hloaded hlink _ _)

/-- A terminal that has become CUSTOMER restarts no inactivity timer (R35). -/
theorem restartInactivity_collecting {x : State} (h : x.creds = (modTerm t (collecting k) s).creds) :
    restartInactivity t x = x :=
  restartInactivity_of_no_courier (by rw [courierAt_of_creds h, courierAt_modTerm]; rfl)

/-- Settles O23. The code is a PICKUP entry's; the record's state decides between quote and release. -/
theorem collectStartsAQuoteOrReleases : Obligations.CollectStartsAQuoteOrReleases := by
  intro s tag t k p n code w hready hcourier hjob hcontext hlock hclock hrange hbucket hholds hat hgood hcomp hn hpresent
    hloaded hlink
  have hpresents := takeCollect_presents (s := reserve s) tag (.collect code) hcourier hjob hcontext hlock hclock hrange
    hbucket hholds
  refine ⟨fun hstate hfresh => ?_, fun hstate => ?_⟩
  · refine exec_terminal (u := t) (r := .collect code) rfl hready rfl rfl ?_
    rw [takeRequest, hpresents, collectRecord_stored (s := reserve s) _ hat hgood hcomp hn hpresent hloaded hstate]
    have hfresh : isExpired k p (resetFailures t (reserve s)).time.minute (resetFailures t (reserve s)) = false := hfresh
    rw [collectStored, hfresh, if_neg Bool.false_ne_true, startQuoting_accepted (s := reserve s) _ hcourier hat]
    exact restartInactivity_collecting (s := reserve s) (k := k) (modParcel_creds _ _ _)
  · refine exec_terminal (u := t) (r := .collect code) rfl hready rfl rfl ?_
    rw [takeRequest, hpresents, collectRecord_untaken (s := reserve s) _ hat hgood hcomp hn hpresent hloaded hstate,
      reopenRelease_taken (s := reserve s) _ hcourier hat hloaded hlink]
    exact restartInactivity_collecting (s := reserve s) (k := k) ((placeReply_sameBut _ _).creds.trans
      ((requestGrant_sameBut _ _ _).creds.trans (modParcel_creds _ _ _)))

/-! ### TENDER (R88 to R90) -/

theorem repeated?_new {last : Option LastTender} {tref : BitVec 32} (h : ∀ l, last = some l → l.tref ≠ tref) :
    repeated? last tref = none := by
  cases last with
  | none => rfl
  | some l => exact if_neg (h l rfl)

theorem repeated?_last (l : LastTender) : repeated? (some l) l.tref = some l.reply := if_pos rfl

/-- An amount in range is tendered at the terminal (R88). -/
theorem takeTender_range {amount : BitVec 24} (hlow : 1 ≤ amount.toNat) (hhigh : amount.toNat ≤ 999999) (tag : Byte)
    (r : Request) (tref : BitVec 32) : takeTender (headerOf tag (.terminal t) r) amount tref s =
      tenderAt (headerOf tag (.terminal t) r) t amount.toNat tref s := by
  rw [takeTender, fromTerminal_terminal, if_pos ⟨hlow, hhigh⟩]

/-- A settlement's change is reckoned on the total just tendered (R89). -/
theorem settlement_tendered (hloaded : s.comps[n].state = .loaded) (hlink : s.comps[n].link = some k) (owed total : Amount)
    (last : Option LastTender) : settlement t k n owed last (modParcel k (fun p => { p with tendered := total }) s) =
      requestGrant n .collect (modComp n (fun c => { c with state := .releasing, phase := .awaitGrant, attempts := 0 })
        (setContext t (.releasing k last)
          (modParcel k (fun p => { p with tendered := total, change := total - owed, state := .releasing }) s))) := by
  have hone : modParcel k (fun p => { p with change := p.tendered - owed, state := .releasing })
      (modParcel k (fun p => { p with tendered := total }) s) =
      modParcel k (fun p => { p with tendered := total, change := total - owed, state := .releasing }) s :=
    modParcel_modParcel fun _ _ => rfl
  rw [settlement, hone]
  have hcomps : (setContext t (.releasing k last)
      (modParcel k (fun p => { p with tendered := total, change := total - owed, state := .releasing }) s)).comps =
      s.comps := modParcel_comps _ _ _
  rw [releaseAndAsk_taken (by rw [hcomps]; exact hloaded) (by rw [hcomps]; exact hlink)]

/-- A tender on a DUE quote in service adds to its total (R88). -/
theorem tenderAt_due {q : Quote} {window amount : Nat} {last : Option LastTender} {tref : BitVec 32} (h : Header)
    (hcontext : s.collection.contexts[t] = .due k window last) (hnew : ∀ l, last = some l → l.tref ≠ tref)
    (hat : parcelAt k s = some p) (hgood : parcelGood k s = true) (hquote : p.quote = some q) (hstate : p.state = .due)
    (hcomp : p.comp = some n) (hn : compGood n s = true) (hloaded : s.comps[n].state = .loaded)
    (htotal : p.tendered + amount ≤ 999999) : tenderAt h t amount tref s =
      addTender h t k n window q.owed (p.tendered + amount) tref s := by
  have hservice : outOfService n s = false := by rw [outOfService, hloaded]; rfl
  rw [tenderAt, hcontext]
  dsimp only
  rw [repeated?_new hnew]
  dsimp only
  rw [readingRecord_good hgood, hat]
  dsimp only
  rw [tenderOn, hcomp, hquote]
  dsimp only
  rw [readingComp_good hn, hstate, if_neg (fun h => h rfl), hservice, if_neg Bool.false_ne_true,
    if_neg (show ¬ Config.maxAmount < p.tendered + amount from Nat.not_lt.mpr htotal)]

/-- Settles O24. The total after the tender decides against the owed amount. -/
theorem tenderIsAddedSettlesOrIsRepeated : Obligations.TenderIsAddedSettlesOrIsRepeated := by
  refine ⟨fun s tag t k p q n window last amount tref hready hcontext hnew hlow hhigh hat hgood hquote hstate hcomp hn
    hloaded hlink htotal => ?_, fun s tag t k window amount l hready hlow hhigh hcontext => ?_⟩
  · have hdue := tenderAt_due (s := reserve s) (headerOf tag (.terminal t) (.tender amount tref)) hcontext hnew hat hgood
      hquote hstate hcomp hn hloaded htotal
    refine ⟨fun hbelow => ?_, fun hcovered => ?_⟩
    · refine exec_terminal (u := t) (r := .tender amount tref) rfl hready rfl rfl (congrArg (restartInactivity t) ?_)
      rw [takeRequest, takeTender_range hlow hhigh, hdue, addTender]
      dsimp only
      rw [if_pos hbelow, modParcel_live (s := reserve s) hat, modParcel_live hat]
      exact answer_reserve _ _ (setContext t _ (setParcel k _ s))
    · refine exec_terminal (u := t) (r := .tender amount tref) rfl hready rfl rfl (congrArg (restartInactivity t) ?_)
      rw [takeRequest, takeTender_range hlow hhigh, hdue, addTender]
      dsimp only
      rw [if_neg (Nat.not_lt.mpr hcovered), settlement_tendered (s := reserve s) hloaded hlink]
      rfl
  · refine exec_terminal (u := t) (r := .tender amount l.tref) rfl hready rfl rfl (congrArg (restartInactivity t) ?_)
    have hrepeated : tenderAt (headerOf tag (.terminal t) (.tender amount l.tref)) t amount.toNat l.tref (reserve s) =
        answer (headerOf tag (.terminal t) (.tender amount l.tref)) (tenderFields l.reply) (reserve s) := by
      rcases hcontext with hcontext | hcontext
      · have hcontext : (reserve s).collection.contexts[t] = _ := hcontext
        rw [tenderAt, hcontext]
        dsimp only
        rw [repeated?_last]
      · have hcontext : (reserve s).collection.contexts[t] = _ := hcontext
        rw [tenderAt, hcontext]
        dsimp only
        rw [repeated?_last]
    rw [takeRequest, takeTender_range hlow hhigh, hrepeated]
    refine (answer_reserve _ _ s).trans ?_
    cases l.reply <;> rfl

end Sys2Proof.Machine

/-! PROOFS. The return of a record to STORED: CANCEL, a lapse, the end of a re-open window (R91 to R93, R96). -/

namespace Sys2Proof.Machine

open Sys2Proof.Wire

variable {s x : State} {n : CompNo} {k : Slot} {t : Term} {p : Parcel}

/-! ### The end of a terminal's job leaves every record's credit as it is -/

/-- Every live record keeps its prepaid credit. -/
def SameCredit (s x : State) : Prop := ∀ j, (parcelAt j x).map Parcel.prepaid = (parcelAt j s).map Parcel.prepaid

theorem SameCredit.refl (s : State) : SameCredit s s := fun _ => rfl

theorem SameCredit.after {y : State} (g : SameCredit x y) (h : SameCredit s x) : SameCredit s y :=
  fun j => (g j).trans (h j)

theorem sameCredit_of_parcels (h : x.parcels = s.parcels) : SameCredit s x := fun j => by
  rw [parcelAt, parcelAt, h]

theorem sameCredit_setParcel {q : Parcel} (hat : parcelAt k s = some p) (hq : q.prepaid = p.prepaid) :
    SameCredit s (setParcel k q s) := fun j => by
  rw [setParcel_at]
  by_cases e : k = j
  · subst e
    rw [if_pos rfl, hat, sealParcel, Option.map_some, Option.map_some, ← hq]
  · rw [if_neg e]

theorem sameCredit_modParcel {f : Parcel → Parcel} (hf : ∀ p, (f p).prepaid = p.prepaid) :
    SameCredit s (modParcel k f s) := by
  cases hat : parcelAt k s with
  | none => rw [modParcel, hat]; exact SameCredit.refl s
  | some p => rw [modParcel_live hat]; exact sameCredit_setParcel (q := f p) hat (hf p)

theorem fill_parcels (n : CompNo) (b : Bool) (s : State) : (fill n b s).parcels = s.parcels := by
  unfold fill
  split <;> rfl

theorem barWithoutReport_parcels (n : CompNo) (c : BarCause) (s : State) :
    (barWithoutReport n c s).parcels = s.parcels := by
  unfold barWithoutReport
  dsimp only
  split
  · rfl
  · split <;> rfl

theorem reportFailure_parcels (c : CheckedTable) (i : Nat) (s : State) : (reportFailure c i s).parcels = s.parcels := rfl

theorem failedEntry_parcels (n : CompNo) (s : State) : (failedEntry n s).parcels = s.parcels := by
  unfold failedEntry
  dsimp only
  rw [reportFailure_parcels]
  split
  · rfl
  · rw [barWithoutReport_parcels]
    rfl

theorem barFound_parcels (n : CompNo) (s : State) : (barFound n s).parcels = s.parcels := by
  unfold barFound
  split
  · exact barWithoutReport_parcels _ _ _
  · exact failedEntry_parcels _ _

/-- A fold of steps that leave the records alone leaves them alone. -/
theorem foldl_parcels {α : Type} {f : State → α → State} (hf : ∀ s a, (f s a).parcels = s.parcels) (l : List α) (s : State) :
    (l.foldl f s).parcels = s.parcels := by
  induction l generalizing s with
  | nil => rfl
  | cons a l ih => rw [List.foldl_cons, ih, hf]

theorem leaveReturnQueue_parcels (k : Slot) (s : State) : (leaveReturnQueue k s).parcels = s.parcels := by
  by_cases h : k ∈ s.returns.queue
  · rw [leaveReturnQueue_queued h]
  · rw [leaveReturnQueue_absent h]

theorem clearMarkers_parcels (k : Slot) (s : State) : (clearMarkers k s).parcels = s.parcels := by
  refine foldl_parcels (fun s t => ?_) _ _
  split
  · split <;> rfl
  · rfl

theorem setContextsOn_parcels (k : Slot) (f : QuoteContext → QuoteContext) (s : State) :
    (setContextsOn k f s).parcels = s.parcels := by
  refine foldl_parcels (fun s t => ?_) _ _
  dsimp only
  split <;> rfl

theorem restartInactivity_parcels (t : Term) (s : State) : (restartInactivity t s).parcels = s.parcels := by
  unfold restartInactivity
  split <;> rfl

theorem sweepResolved_parcels (k : Slot) (c : SweepCount) (s : State) : (sweepResolved k c s).parcels = s.parcels := by
  unfold sweepResolved
  split
  · split
    · rw [restartInactivity_parcels]; rfl
    · rfl
  · rfl

theorem failedCharged_parcels (k : Slot) (l : List QueuedCharge) (s : State) :
    (failedCharged k l s).parcels = s.parcels := by
  have hrefused : (l.foldl (fun s e => refuse (collectHeader e) .integrity s) s).parcels = s.parcels :=
    foldl_parcels (fun s e => (placeReply_sameBut _ s).parcels) _ _
  unfold failedCharged
  dsimp only
  rw [reportFailure_parcels, sweepResolved_parcels, setReopen_parcels, setContextsOn_parcels, hrefused]

theorem failedUncharged_parcels (d : Option CompNo) (k : Slot) (p : Parcel) (s : State) :
    (failedUncharged d k p s).parcels =
      (setParcel k { p with state := .quarantined, comp := compartmentNaming k s } s).parcels := by
  unfold failedUncharged
  dsimp only
  cases d with
  | none =>
    dsimp only
    rw [leaveReturnQueue_parcels]
    split
    · exact barFound_parcels _ _
    · rfl
  | some m =>
    dsimp only
    rw [clearMarkers_parcels, raise_parcels, leaveReturnQueue_parcels]
    split
    · exact barFound_parcels _ _
    · rfl

/-- The records behind a damaged record's failure: it is QUARANTINED in the compartment that names it (R192). -/
theorem failedRecord_parcels (d : Option CompNo) (k : Slot) (p : Parcel) (s : State) : (failedRecord d k p s).parcels =
    (setParcel k { p with state := .quarantined, comp := compartmentNaming k s } s).parcels := by
  rw [failedRecord_eq, failedCharged_parcels]
  exact failedUncharged_parcels d k p s

/-- A damaged record keeps the credit it reads (R192). -/
theorem sameCredit_failedRecord (d : Option CompNo) (hat : parcelAt k s = some p) :
    SameCredit s (failedRecord d k p s) :=
  (sameCredit_of_parcels (failedRecord_parcels d k p s)).after (sameCredit_setParcel hat rfl)

theorem failedEntry_sameCredit (n : CompNo) (s : State) : SameCredit s (failedEntry n s) :=
  sameCredit_of_parcels (failedEntry_parcels n s)

theorem sameCredit_putBackCurrent (n : CompNo) (hat : parcelAt k s = some p) :
    SameCredit s (putBackCurrent n k p s) := by
  have hback : ∀ y : State, SameCredit s y → SameCredit s
      (if p.state = .sweeping then modParcel k (fun p => { p with state := .returnQueued }) y else y) := by
    intro y hy
    split
    · have hmod : SameCredit y (modParcel k (fun p => { p with state := .returnQueued }) y) :=
        sameCredit_modParcel fun _ => rfl
      exact hmod.after hy
    · exact hy
  unfold putBackCurrent
  dsimp only
  split
  · exact sameCredit_failedRecord none hat
  · split
    · exact hback _ (sameCredit_of_parcels (fill_parcels n false s))
    · exact (sameCredit_of_parcels (sweepResolved_parcels _ _ _)).after (hback _ (failedEntry_sameCredit n s))

theorem endSweep_parcels (c : SweepEnd) (s : State) : (endSweep c s).parcels = s.parcels := by
  unfold endSweep
  split <;> rfl

theorem sameCredit_stopSweep (c : SweepEnd) (s : State) : SameCredit s (stopSweep c s) := by
  unfold stopSweep
  split
  · exact SameCredit.refl s
  · split
    · exact SameCredit.refl s
    · split
      · exact sameCredit_of_parcels (endSweep_parcels _ _)
      · dsimp only
        split
        · exact sameCredit_of_parcels rfl
        · next hat =>
          split
          · exact sameCredit_of_parcels rfl
          · next n _ =>
            split
            · exact (sameCredit_of_parcels (endSweep_parcels _ _)).after
                ((sameCredit_putBackCurrent (s := withdraw n s) n hat).after (sameCredit_of_parcels rfl))
            · exact sameCredit_of_parcels rfl

theorem sameCredit_signOff (t : Term) (s : State) : SameCredit s (signOff t s) := by
  unfold signOff
  dsimp only
  split
  · split
    · exact (sameCredit_stopSweep _ _).after (sameCredit_of_parcels rfl)
    · exact sameCredit_of_parcels rfl
  · exact sameCredit_of_parcels rfl

theorem sameCredit_endOpenJob (t : Term) (k : Slot) (b : Bool) (s : State) : SameCredit s (endOpenJob t k b s) := by
  unfold endOpenJob
  dsimp only
  split
  · split
    · split
      · exact (sameCredit_signOff _ _).after (sameCredit_of_parcels rfl)
      · exact sameCredit_of_parcels (restartInactivity_parcels _ _)
    · exact sameCredit_of_parcels rfl
  · exact SameCredit.refl s

/-! ### The return to STORED (R93) -/

/-- The record in STORED, or expired in the return queue, with the credit added. -/
def creditedBack (k : Slot) (p : Parcel) (credit : Amount) (s : State) : State :=
  let q := { p with prepaid := p.prepaid + credit, tendered := 0, change := 0, quote := none }
  if isExpired k p s.time.minute s then joinReturnQueue k false (setParcel k { q with state := .returnQueued } s)
  else setParcel k { q with state := .stored } s

theorem returnToStored_live (hat : parcelAt k s = some p) (credit : Amount) :
    returnToStored k credit s = creditedBack k p credit s := by
  rw [returnToStored, hat]
  rfl

theorem joinReturnQueue_parcels (k : Slot) (b : Bool) (s : State) : (joinReturnQueue k b s).parcels = s.parcels := by
  unfold joinReturnQueue
  dsimp only
  split <;> split <;> rfl

theorem credit_creditedBack (credit : Amount) :
    (parcelAt k (creditedBack k p credit s)).map Parcel.prepaid = some (p.prepaid + credit) := by
  unfold creditedBack
  dsimp only
  split
  · rw [parcelAt, joinReturnQueue_parcels, ← parcelAt, parcelAt_setParcel, sealParcel, Option.map_some]
  · rw [parcelAt_setParcel, sealParcel, Option.map_some]

/-! ### CANCEL (R92) -/

/-- The record given up, its credit is reported as it then stands (R92). -/
theorem cancelled_live (h : Header) (hat : parcelAt k s = some p) : cancelled h t k p s =
    answer h (num3 (p.prepaid + p.tendered))
      (setContext t .none (endOpenJob t k false (creditedBack k p p.tendered s))) := by
  have hcredit : (parcelAt k (setContext t .none (endOpenJob t k false (creditedBack k p p.tendered s)))).map
      Parcel.prepaid = some (p.prepaid + p.tendered) :=
    (sameCredit_endOpenJob _ _ _ _ k).trans (credit_creditedBack _)
  unfold cancelled giveUp
  dsimp only
  rw [returnToStored_live hat, prepaidOf, hcredit, Option.getD_some]

theorem cancelOn_read {expected : ParcelState} {discard : State → State} (h : Header) (hat : parcelAt k s = some p)
    (hgood : parcelGood k s = true) (hstate : p.state = expected) :
    cancelOn h t k expected discard s = cancelled h t k p (discard s) := by
  rw [cancelOn, readingRecord_good hgood, hat]
  dsimp only
  rw [if_pos hstate]

/-- The computations of a slot that stands once in the queue leave it (R76). -/
theorem dropCharge_once {before rest : List QueuedCharge} {e : QueuedCharge} (hqueue : s.charge.queue = before ++ e :: rest)
    (he : e.slot = k) (hbefore : ∀ x ∈ before, x.slot ≠ k) (hrest : ∀ x ∈ rest, x.slot ≠ k) :
    dropCharge k s = setCharge (before ++ rest) (if before = [] then none else s.charge.running) s := by
  have hkept : ∀ l : List QueuedCharge, (∀ x ∈ l, x.slot ≠ k) → l.filter (fun e => e.slot != k) = l :=
    fun l hl => List.filter_eq_self.mpr fun x hx => bne_iff_ne.mpr (hl x hx)
  have hleft : s.charge.queue.filter (fun e => e.slot != k) = before ++ rest := by
    rw [hqueue, List.filter_append, List.filter_cons_of_neg (by simp [he]), hkept _ hbefore, hkept _ hrest]
  unfold dropCharge
  rw [hleft, hqueue]
  cases before with
  | nil =>
    dsimp only [List.nil_append]
    rw [if_pos he, if_pos rfl]
  | cons b before =>
    dsimp only [List.cons_append]
    rw [if_neg (hbefore b (List.mem_cons_self ..)), if_neg (List.cons_ne_nil _ _)]

theorem discardCharge_reserve (h : s.charge.queue.any (fun e => e.slot == k) = true) :
    discardCharge k (reserve s) = dropCharge k s := if_pos h

/-- Settles O25. Each end of a collection credits the record; the context and the open job follow. -/
theorem cancelLapseAndReopenEndCredit : Obligations.CancelLapseAndReopenEndCredit := by
  refine fun s k p hat hgood => ⟨fun tag t window last hcontext hstate => ⟨fun hready => ?_, fun hrun hzero => ?_,
    fun hrun hleft => ?_⟩, fun tag t before rest e hready hcontext hstate hqueue he hbefore hrest => ?_,
    fun e hrun hstate hmem he hzero => ?_, fun hrun hleft => ?_⟩
  · refine exec_terminal (u := t) (r := .cancel) rfl hready rfl rfl (congrArg (restartInactivity t) ?_)
    have hcontext : (reserve s).collection.contexts[t] = .due k window last := hcontext
    rw [takeRequest, takeCancel, fromTerminal_terminal, hcontext]
    dsimp only
    rw [cancelOn_read (s := reserve s) _ hat hgood hstate, id, cancelled_live (s := reserve s) _ hat]
    rfl
  · refine act_eq hrun ?_
    have hover : windowOver t s = true := by rw [windowOver, hcontext]; exact beq_iff_eq.mpr hzero
    rw [if_pos hover, lapse, hcontext]
    dsimp only
    rw [onRecord_read hat hgood (by rw [hstate]; decide), giveUp, returnToStored_live hat]
    rfl
  · refine act_eq hrun ?_
    have hover : windowOver t s = false := by rw [windowOver, hcontext]; exact beq_eq_false_iff_ne.mpr hleft
    rw [hover, if_neg Bool.false_ne_true]
  · refine exec_terminal (u := t) (r := .cancel) rfl hready rfl rfl (congrArg (restartInactivity t) ?_)
    have hcontext : (reserve s).collection.contexts[t] = .quoting k := hcontext
    have hqueued : s.charge.queue.any (fun e => e.slot == k) = true :=
      List.any_eq_true.mpr ⟨e, by rw [hqueue]; simp, beq_iff_eq.mpr he⟩
    rw [takeRequest, takeCancel, fromTerminal_terminal, hcontext]
    dsimp only
    rw [cancelOn_read (s := reserve s) _ hat hgood hstate, discardCharge_reserve hqueued,
      dropCharge_once hqueue he hbefore hrest, cancelled_live
        (s := setCharge (before ++ rest) (if before = [] then none else s.charge.running) s) _ hat]
    rfl
  · refine act_eq hrun ?_
    have hover : reopenOver k s = true := List.any_eq_true.mpr ⟨e, hmem, by simp [he, hzero]⟩
    have hread := onRecord_read (s := setReopen (s.collection.reopen.filter (fun e => e.slot != k)) s) hat hgood
      (expected := [.untaken]) (by rw [hstate]; decide) (fun p => returnToStored k (p.tendered - p.change))
    rw [if_pos hover, endReopen, hread,
      returnToStored_live (s := setReopen (s.collection.reopen.filter (fun e => e.slot != k)) s) hat]
    rfl
  · refine act_eq hrun ?_
    have hover : reopenOver k s = false := List.any_eq_false.mpr fun e he => by
      simpa using hleft e he
    rw [hover, if_neg Bool.false_ne_true]

end Sys2Proof.Machine

/-! PROOFS. The sweep: eligibility, the walk, the stop, and the requests that start and stop it (R110 to R112, R118 to
R120); the expiry scanner's visits (R102, R103). -/

namespace Sys2Proof.Machine

open Sys2Proof.Wire

variable {s : State} {n : CompNo} {k : Slot} {t : Term} {p : Parcel} {w : Sweep} {route : Route} {cause : SweepEnd}

/-! ### Eligibility (R111) -/

theorem sweepEligible_iff : sweepEligible route k s = true ↔
    ∃ p n, parcelAt k s = some p ∧ p.comp = some n ∧ p.route = route ∧ p.state = .returnQueued ∧
      s.comps[n].state = .loaded ∧ onPresentColumn n s = true := by
  unfold sweepEligible
  cases hat : parcelAt k s with
  | none => simp
  | some p =>
    cases hcomp : p.comp with
    | none => simp [hcomp]
    | some n => simp [hcomp, and_assoc]

/-- An entry of the queue that the walk passes. -/
def Passed (route : Route) (s : State) (i : Nat) : Prop :=
  ∀ k, s.returns.queue[i]? = some k → parcelGood k s = true ∧ sweepEligible route k s = false

/-- The first entry from a place on that the walk takes, with its compartment. -/
def Met (route : Route) (s : State) (first j : Nat) (k : Slot) (n : CompNo) : Prop :=
  first ≤ j ∧ s.returns.queue[j]? = some k ∧ (∀ i, first ≤ i → i < j → Passed route s i) ∧
    sweepEligible route k s = true ∧ (parcelAt k s).bind Parcel.comp = some n ∧ parcelGood k s = true ∧
    compGood n s = true ∧ s.comps[n].link = some k

/-- What the walk leaves that takes the entry at a place (R112). -/
def sweepTaken (w : Sweep) (j : Nat) (k : Slot) (n : CompNo) (s : State) : State :=
  requestGrant n .sweep (modParcel k (fun p => { p with state := .sweeping })
    (modComp n (fun c => { c with state := .sweeping, phase := .awaitGrant, attempts := 0 })
      (setSweep (some { w with cursor := j + 1, current := some k }) s)))

/-- What the end of a sweep leaves (R120). -/
def sweepEnded (cause : SweepEnd) (w : Sweep) (s : State) : State :=
  setSweep none (raise (.sweepEnd w.courier w.route w.taken w.skipped w.failed cause) s)

/-! ### The walk (R111, R112) -/

theorem endSweep_of_sweep (h : s.returns.sweep = some w) (cause : SweepEnd) : endSweep cause s = sweepEnded cause w s := by
  rw [endSweep, h]
  rfl

/-- The sweep with its cursor at a place of the queue. -/
abbrev sweepAt (w : Sweep) (i : Nat) (s : State) : State := setSweep (some { w with cursor := i }) s

theorem sweepAt_self (h : s.returns.sweep = some w) : sweepAt w w.cursor s = s := by
  have hw : { w with cursor := w.cursor } = w := rfl
  rw [sweepAt, hw, setSweep, ← h]

/-- A look at an entry that is good and not eligible passes it. -/
theorem examine_pass {i : Nat} (hat : s.returns.queue[i]? = some k) (hpassed : Passed w.route s i) (fuel : Nat) :
    examine (fuel + 1) (sweepAt w i s) = examine fuel (sweepAt w (i + 1) s) := by
  obtain ⟨hgood, hineligible⟩ := hpassed k hat
  have hsweep : (sweepAt w i s).returns.sweep = some { w with cursor := i } := rfl
  have hat : (sweepAt w i s).returns.queue[i]? = some k := hat
  have hgood : parcelGood k (sweepAt w i s) = true := hgood
  have hineligible : sweepEligible w.route k (sweepAt w i s) = false := hineligible
  rw [examine, hsweep]
  dsimp only
  rw [hat]
  dsimp only
  rw [hgood, hineligible, Bool.not_true, if_neg Bool.false_ne_true, if_neg Bool.false_ne_true]
  rfl

/-- A look at an eligible entry takes it. -/
theorem examine_take {i : Nat} (hmet : Met w.route s i i k n) (fuel : Nat) :
    examine (fuel + 1) (sweepAt w i s) = sweepTaken w i k n s := by
  obtain ⟨-, hat, -, heligible, hcomp, hgood, hn, hlink⟩ := hmet
  have hloaded : s.comps[n].state = .loaded := by
    obtain ⟨p, m, hp, hm, -, -, hloaded, -⟩ := sweepEligible_iff.mp heligible
    rw [hp, Option.bind_some, hm] at hcomp
    cases hcomp
    exact hloaded
  have htaken : ∀ x : Sweep, releaseTaken n k (setSweep (some x) (sweepAt w i s)) = true := fun x =>
    (releaseTaken_iff n k _).mpr ⟨hloaded, hlink⟩
  have hsweep : (sweepAt w i s).returns.sweep = some { w with cursor := i } := rfl
  have hat : (sweepAt w i s).returns.queue[i]? = some k := hat
  have hgood : parcelGood k (sweepAt w i s) = true := hgood
  have heligible : sweepEligible w.route k (sweepAt w i s) = true := heligible
  have hbad : badComp k (sweepAt w i s) = none := by
    have hcomp : (parcelAt k (sweepAt w i s)).bind Parcel.comp = some n := hcomp
    have hn : compGood n (sweepAt w i s) = true := hn
    rw [badComp, hcomp, Option.filter_some, hn]
    rfl
  have hrelease : sweepRelease? k (sweepAt w i s) = some n :=
    (sweepRelease_some k n _).mpr ⟨hcomp, (releaseTaken_iff n k _).mpr ⟨hloaded, hlink⟩⟩
  rw [examine, hsweep]
  dsimp only
  rw [hat]
  dsimp only
  rw [hgood, heligible, Bool.not_true, if_neg Bool.false_ne_true, if_pos rfl, hbad]
  dsimp only
  rw [hrelease]
  dsimp only
  rw [sweepTake, release, if_pos (htaken _)]
  rfl

/-- A look behind the tail ends the sweep. -/
theorem examine_tail {i : Nat} (hat : s.returns.queue[i]? = none) (fuel : Nat) :
    examine (fuel + 1) (sweepAt w i s) = sweepEnded .tail { w with cursor := i } s := by
  have hsweep : (sweepAt w i s).returns.sweep = some { w with cursor := i } := rfl
  have hat : (sweepAt w i s).returns.queue[i]? = none := hat
  rw [examine, hsweep]
  dsimp only
  rw [hat]
  exact endSweep_of_sweep hsweep .tail

/-- The walk from a place on takes the first eligible entry. -/
theorem examine_met {j : Nat} : ∀ (d fuel i : Nat), j = i + d → d < fuel → Met w.route s i j k n →
    examine fuel (sweepAt w i s) = sweepTaken w j k n s := by
  intro d
  induction d with
  | zero =>
    intro fuel i hj hfuel hmet
    obtain ⟨fuel, rfl⟩ : ∃ f, fuel = f + 1 := ⟨fuel - 1, by omega⟩
    subst hj
    exact examine_take hmet fuel
  | succ d ih =>
    intro fuel i hj hfuel hmet
    obtain ⟨fuel, rfl⟩ : ∃ f, fuel = f + 1 := ⟨fuel - 1, by omega⟩
    obtain ⟨hle, hat, hpassed, hrest⟩ := hmet
    have hlt : j < s.returns.queue.length := (List.getElem?_eq_some_iff.mp hat).1
    obtain ⟨m, hm⟩ : ∃ m, s.returns.queue[i]? = some m := ⟨_, List.getElem?_eq_getElem (by omega)⟩
    rw [examine_pass hm (hpassed i (Nat.le_refl i) (by omega))]
    exact ih fuel (i + 1) (by omega) (by omega)
      ⟨by omega, hat, fun x hx hxj => hpassed x (by omega) hxj, hrest⟩

/-- The walk from a place behind which nothing is eligible ends the sweep. -/
theorem examine_none : ∀ (d fuel i : Nat), s.returns.queue.length ≤ i + d → d < fuel →
    (∀ x, i ≤ x → Passed w.route s x) → ∃ i', examine fuel (sweepAt w i s) = sweepEnded .tail { w with cursor := i' } s := by
  intro d
  induction d with
  | zero =>
    intro fuel i hi hfuel _
    obtain ⟨fuel, rfl⟩ : ∃ f, fuel = f + 1 := ⟨fuel - 1, by omega⟩
    exact ⟨i, examine_tail (List.getElem?_eq_none (by omega)) fuel⟩
  | succ d ih =>
    intro fuel i hi hfuel hpassed
    obtain ⟨fuel, rfl⟩ : ∃ f, fuel = f + 1 := ⟨fuel - 1, by omega⟩
    cases hat : s.returns.queue[i]? with
    | none => exact ⟨i, examine_tail hat fuel⟩
    | some k =>
      rw [examine_pass hat (hpassed i (Nat.le_refl i))]
      exact ih fuel (i + 1) (by omega) (by omega) fun x hx => hpassed x (by omega)

theorem walkOn_walking (h : s.returns.sweep = some w) (hcurrent : w.current = none) (hphase : w.phase = .walking) :
    walkOn s = examine (2 * s.returns.queue.length + 1) (sweepAt w w.cursor s) := by
  rw [sweepAt_self h, walkOn, h]
  dsimp only
  rw [hcurrent, hphase]

theorem walkOn_met {j : Nat} (h : s.returns.sweep = some w) (hcurrent : w.current = none) (hphase : w.phase = .walking)
    (hmet : Met w.route s w.cursor j k n) : walkOn s = sweepTaken w j k n s := by
  have hlt : j < s.returns.queue.length := (List.getElem?_eq_some_iff.mp hmet.2.1).1
  have hle := hmet.1
  rw [walkOn_walking h hcurrent hphase]
  exact examine_met (j - w.cursor) _ _ (by omega) (by omega) hmet

theorem walkOn_none (h : s.returns.sweep = some w) (hcurrent : w.current = none) (hphase : w.phase = .walking)
    (hpassed : ∀ i, w.cursor ≤ i → Passed w.route s i) : walkOn s = sweepEnded .tail w s := by
  rw [walkOn_walking h hcurrent hphase]
  obtain ⟨i, hi⟩ := examine_none s.returns.queue.length (2 * s.returns.queue.length + 1) w.cursor (by omega) (by omega) hpassed
  exact hi

theorem walkOn_current (h : s.returns.sweep = some w) (hcurrent : w.current ≠ none) : walkOn s = s := by
  rw [walkOn, h]
  dsimp only
  cases hc : w.current with
  | none => exact absurd hc hcurrent
  | some k => rfl

theorem walkOn_stopping (h : s.returns.sweep = some w) (hcurrent : w.current = none) (hphase : w.phase = .stopping)
    (hcause : w.cause = some cause) : walkOn s = sweepEnded cause w s := by
  rw [walkOn, h]
  dsimp only
  rw [hcurrent, hphase]
  dsimp only
  rw [endSweep_of_sweep h, hcause, Option.getD_some]

/-! ### The stop (R118, R120) -/

theorem stopSweep_stopping (h : s.returns.sweep = some w) (hphase : w.phase = .stopping) : stopSweep cause s = s := by
  rw [stopSweep, h]
  dsimp only
  rw [hphase]

theorem stopSweep_idle (h : s.returns.sweep = some w) (hphase : w.phase = .walking) (hcurrent : w.current = none) :
    stopSweep cause s = sweepEnded cause w s := by
  rw [stopSweep, h]
  dsimp only
  rw [hphase, hcurrent]
  exact endSweep_of_sweep h cause

/-- A stop with a current record goes by the withdrawal of its request (R118). -/
theorem stopSweep_current (h : s.returns.sweep = some w) (hphase : w.phase = .walking) (hcurrent : w.current = some k)
    (hat : parcelAt k s = some p) (hcomp : p.comp = some n) : stopSweep cause s =
      if s.comps[n].phase = .awaitGrant ∧ withdrawSucceeds n s = true then
        endSweep cause (putBackCurrent n k p (withdraw n s))
      else setSweep (some { w with phase := .stopping, cause := some cause }) s := by
  rw [stopSweep, h]
  dsimp only
  rw [hphase, hcurrent]
  dsimp only
  rw [hat]
  dsimp only
  rw [hcomp]

theorem fill_false (h : s.comps[n].state = .sweeping) : fill n false s =
    stopJobTimers n (modComp n (fun c => { c with state := .loaded, phase := .none, attempts := 0 }) s) := by
  rw [fill, h]
  dsimp only
  exact congrArg (fun f => stopJobTimers n (modComp n f s)) (funext fun c => by rw [Bool.or_false])

/-- The current record of a stopped sweep goes back to its place (R118). -/
theorem putBackCurrent_good (hgood : parcelGood k s = true) (hn : compGood n s = true) (hstate : p.state = .sweeping)
    (hswept : s.comps[n].state = .sweeping) : putBackCurrent n k p s =
      modParcel k (fun p => { p with state := .returnQueued })
        (stopJobTimers n (modComp n (fun c => { c with state := .loaded, phase := .none, attempts := 0 }) s)) := by
  unfold putBackCurrent
  dsimp only
  rw [hgood, Bool.not_true, if_neg Bool.false_ne_true, if_pos hn, if_pos hstate, fill_false hswept]

theorem modParcel_returns (k : Slot) (f : Parcel → Parcel) (s : State) : (modParcel k f s).returns = s.returns := by
  unfold modParcel
  split <;> rfl

/-! ### SWEEP_START and SWEEP_STOP (R110, R119) -/

/-- The compartment of the record the walk has just taken (R110). -/
theorem sweptComp_sweepTaken {j : Nat} (hcomp : (parcelAt k s).bind Parcel.comp = some n) :
    sweptComp (sweepTaken w j k n s) = some n := by
  have hsame := requestGrant_sameBut n .sweep (modParcel k (fun p => { p with state := .sweeping })
    (modComp n (fun c => { c with state := .sweeping, phase := .awaitGrant, attempts := 0 })
      (setSweep (some { w with cursor := j + 1, current := some k }) s)))
  obtain ⟨p, hat, hp⟩ := Option.bind_eq_some_iff.mp hcomp
  have hcurrent : (sweepTaken w j k n s).returns.sweep.bind Sweep.current = some k := by
    rw [sweepTaken, hsame.returns, modParcel_returns]
    rfl
  have hrecord : parcelAt k (sweepTaken w j k n s) = some (sealParcel k { p with state := .sweeping }) := by
    rw [parcelAt, sweepTaken, hsame.parcels]
    refine parcelAt_modParcel_live ?_ _
    exact hat
  rw [sweptComp, hcurrent, Option.bind_some, hrecord, Option.bind_some, ← hp, sealParcel]

/-- A starting sweep takes the first eligible entry and answers it (R110). -/
theorem startSweep_met {j : Nat} {i : CourierInfo} (h : Header) (hmet : Met i.route s 0 j k n) :
    startSweep h t i s = answer h (num2 (eligibleCount i.route s) ++ [compByte n]) (sweepTaken (newSweep t i) j k n s) := by
  have hwalk : walkOn (setSweep (some (newSweep t i)) s) = sweepTaken (newSweep t i) j k n s :=
    walkOn_met (s := setSweep (some (newSweep t i)) s) (w := newSweep t i) rfl rfl rfl hmet
  unfold startSweep
  dsimp only
  rw [hwalk, sweptComp_sweepTaken hmet.2.2.2.2.1]
  rfl

theorem eligibleCount_ne_zero {j : Nat} (hat : s.returns.queue[j]? = some k) (heligible : sweepEligible route k s = true) :
    eligibleCount route s ≠ 0 :=
  fun h => List.ne_nil_of_mem (List.mem_filter.mpr ⟨List.mem_of_getElem? hat, heligible⟩) (List.length_eq_zero_iff.mp h)

/-- Settles O26. The walk goes by the entries of the queue, the stop by the withdrawal of the current request. -/
theorem sweepWalksStartsAndStops : Obligations.SweepWalksStartsAndStops := by
  refine ⟨fun s route k => sweepEligible_iff, fun s h => ⟨by rw [walkOn, h], fun cause => by rw [stopSweep, h]⟩,
    fun s w h => ⟨walkOn_current h, fun cause hcurrent hphase hcause => walkOn_stopping h hcurrent hphase hcause,
      fun hcurrent hphase => ⟨fun j k n hmet => walkOn_met h hcurrent hphase hmet, walkOn_none h hcurrent hphase⟩,
      fun cause => ⟨stopSweep_stopping h, stopSweep_idle h, fun k p n hphase hcurrent hat hcomp => ⟨?_, ?_⟩⟩⟩,
    fun s tag t i hready hmode => ⟨fun j k n hpending hperm hsweep hhold hmet => ?_, fun w hsweep hterm => ?_⟩⟩
  · intro hawait hwaiting hgood hn hstate hswept
    have hwithdraw : withdrawSucceeds n s = true := by rw [withdrawSucceeds, hwaiting, Bool.true_or]
    rw [stopSweep_current h hphase hcurrent hat hcomp, if_pos ⟨hawait, hwithdraw⟩,
      putBackCurrent_good (s := withdraw n s) hgood hn hstate hswept]
    refine endSweep_of_sweep ?_ cause
    rw [modParcel_returns]
    exact h
  · intro hno
    rw [stopSweep_current h hphase hcurrent hat hcomp, if_neg]
    rintro ⟨hawait, hwithdraw⟩
    rcases hno with hno | ⟨hwaiting, hcommitted⟩
    · exact hno hawait
    · rw [withdrawSucceeds, hwaiting, hcommitted] at hwithdraw
      cases hwithdraw
  · refine exec_terminal (u := t) (r := .sweepStart) rfl hready rfl rfl (congrArg (restartInactivity t) ?_)
    have hmode : (reserve s).creds.terms[t].mode = .courier i := hmode
    have hpending : (reserve s).creds.terms[t].signOffPending = false := hpending
    have hsweep : (reserve s).returns.sweep = none := hsweep
    have hhold : holdActive (reserve s) = false := hhold
    have hcount : eligibleCount i.route (reserve s) ≠ 0 := eligibleCount_ne_zero (s := reserve s) hmet.2.1 hmet.2.2.2.1
    rw [takeRequest, takeSweepStart, fromTerminal_terminal]
    dsimp only
    rw [hmode]
    dsimp only
    rw [hpending, hperm, hsweep, hhold, if_neg Bool.false_ne_true, Bool.not_true, if_neg Bool.false_ne_true,
      Option.isSome_none, if_neg Bool.false_ne_true, if_neg Bool.false_ne_true, if_neg hcount,
      startSweep_met (s := reserve s) _ hmet]
    rfl
  · refine exec_terminal (u := t) (r := .sweepStop) rfl hready rfl rfl (congrArg (restartInactivity t) ?_)
    have hat : courierAt t (reserve s) = some i := courierAt_eq_some.mpr hmode
    have hsweep : (reserve s).returns.sweep = some w := hsweep
    rw [takeRequest, takeSweepStop, fromTerminal_terminal, hat]
    dsimp only
    rw [hsweep]
    dsimp only
    rw [if_pos hterm]
    rfl

/-! ### The expiry scanner (R102, R103) -/

/-- The scanner behind a visit of a slot (R102). -/
def scannedOn (k : Slot) (c : Scanner) (minute : Minute) : Scanner :=
  if h : k.val + 1 < 384 then { c with cursor := ⟨k.val + 1, h⟩ }
  else if c.due then { c with due := false, cursor := 0, minute := minute }
  else { c with scanning := false, cursor := 0 }

theorem scanOn_eq (k : Slot) (s : State) : scanOn k s = setScanner (scannedOn k s.returns.scanner s.time.minute) s := by
  unfold scanOn scannedOn
  by_cases h : k.val + 1 < 384
  · rw [below?_of_lt h, dif_pos h]
  · rw [below?_of_le (Nat.not_lt.mp h), dif_neg h]
    dsimp only
    split <;> rfl

theorem scanVisit_scanning (hcursor : s.returns.scanner.cursor = k) (h : s.returns.scanner.scanning = true) :
    scanVisit s = scanOn k (judgeExpiry k s.returns.scanner.minute s) := by
  unfold scanVisit
  dsimp only
  rw [if_pos h, hcursor]

theorem joinReturnQueue_live (hat : parcelAt k s = some p) : joinReturnQueue k false s =
    raise (.ret p.ref .queued) { s with returns := { s.returns with
      queue := if k ∈ s.returns.queue then s.returns.queue else s.returns.queue ++ [k] } } := by
  unfold joinReturnQueue
  dsimp only
  by_cases h : k ∈ s.returns.queue
  · rw [if_pos h, if_pos h, hat]
    rfl
  · rw [if_neg h, if_neg h]
    have hat : parcelAt k { s with returns := { s.returns with queue := s.returns.queue ++ [k] } } = some p := hat
    rw [hat]
    rfl

/-- Settles O27. The visit judges the slot at the cursor and passes on. -/
theorem scanVisitQueuesTheExpired : Obligations.ScanVisitQueuesTheExpired := by
  refine fun s k hrun hcursor hgood => ⟨fun p hscanning hat hstored hexpired => ?_, fun hscanning hleft => ?_, fun hidle => ?_⟩
  · refine act_eq hrun ?_
    have hjudged : judgeExpiry k s.returns.scanner.minute s =
        joinReturnQueue k false (setParcel k { p with state := .returnQueued } s) := by
      rw [judgeExpiry, hat]
      dsimp only
      rw [hgood, Bool.not_true, if_neg Bool.false_ne_true, if_pos ⟨hstored, hexpired⟩, modParcel_live hat]
    rw [scanVisit_scanning hcursor hscanning, hjudged, joinReturnQueue_live (parcelAt_setParcel _), scanOn_eq]
    rfl
  · refine act_eq hrun ?_
    have hjudged : judgeExpiry k s.returns.scanner.minute s = s := by
      rw [judgeExpiry]
      rcases hleft with hfree | ⟨p, hat, hkept⟩
      · rw [hfree]
      · rw [hat]
        dsimp only
        rw [hgood, Bool.not_true, if_neg Bool.false_ne_true, if_neg]
        rintro ⟨hstored, hexpired⟩
        rcases hkept with hkept | hkept
        · exact hkept hstored
        · rw [hkept] at hexpired; cases hexpired
    rw [scanVisit_scanning hcursor hscanning, hjudged, scanOn_eq]
    rfl
  · refine act_eq hrun ?_
    unfold scanVisit
    dsimp only
    rw [hidle, if_neg Bool.false_ne_true]

end Sys2Proof.Machine

/-! PROOFS. The requests of the compartment manager: BAR, UNBAR, the maintenance loop (1.6, 1.7). -/

namespace Sys2Proof.Machine

open Sys2Proof.Wire

variable {s : State} {n : CompNo} {tag : Byte}

/-! ### Free lists (R5) -/

theorem joinFree_reserve (n : CompNo) (s : State) : joinFree n (reserve s) = reserve (joinFree n s) := by
  unfold joinFree
  dsimp only
  rw [apply_ite reserve]
  rfl

theorem joinFree_of_other (h : s.comps[n].state ≠ .vacant) : joinFree n s = s := if_neg fun hc => h hc.1

/-! ### BAR and UNBAR (R14, R16) -/

theorem exec_bar {x : State} (hready : Ready s) (hn : compGood n s = true)
    (hx : barOn (headerOf tag .office (.bar (compByte n))) n (reserve s) = x) :
    exec (.bar tag (originOctet .office) (compByte n)) s = .next (settle x) := by
  refine exec_office (r := .bar (compByte n)) rfl hready rfl rfl ?_
  rw [takeRequest, takeBar, fromOffice_office, namingComp_octet, readingComp_good (s := reserve s) hn, hx]

theorem exec_unbar {x : State} (hready : Ready s) (hn : compGood n s = true)
    (hx : unbarOn (headerOf tag .office (.unbar (compByte n))) n (reserve s) = x) :
    exec (.unbar tag (originOctet .office) (compByte n)) s = .next (settle x) := by
  refine exec_office (r := .unbar (compByte n)) rfl hready rfl rfl ?_
  rw [takeRequest, takeUnbar, fromOffice_office, namingComp_octet, readingComp_good (s := reserve s) hn, hx]

/-- A compartment under a job, LOADED or in MAINT takes a pending bar (R14). -/
theorem barOn_pending (h : Header) (hvacant : s.comps[n].state ≠ .vacant) (hbarred : s.comps[n].state ≠ .barred)
    (hfitted : s.comps[n].state ≠ .unfitted) :
    barOn h n s = answer h [] (modComp n (fun c => { c with pendingBar := true }) s) := by
  unfold barOn
  cases hstate : s.comps[n].state with
  | vacant => exact absurd hstate hvacant
  | barred => exact absurd hstate hbarred
  | unfitted => exact absurd hstate hfitted
  | _ => rfl

theorem stillMismatched_iff : stillMismatched n s = true ↔
    s.comps[n].cause = some .mapMismatch ∧ ∃ place, s.comps[n].place = some place ∧
      s.bus.columns[place.col].state = .present ∧ s.bus.columns[place.col].count.val ≤ place.pos.val := by
  unfold stillMismatched
  cases hplace : s.comps[n].place with
  | none => simp
  | some place =>
    simp only [columnPresent, Bool.and_eq_true, beq_iff_eq, decide_eq_true_eq, and_assoc]
    constructor
    · rintro ⟨hcause, hpresent, hcount⟩
      exact ⟨hcause, place, rfl, hpresent, hcount⟩
    · rintro ⟨hcause, _, hp, hpresent, hcount⟩
      cases hp
      exact ⟨hcause, hpresent, hcount⟩

/-- The entry that UNBAR returns to service (R16). -/
def unbarredEntry (st : CompState) (c : Compartment) : Compartment :=
  { c with state := st, cause := none, suspect := false, attempts := 0 }

theorem unbarTo_loaded (n : CompNo) (s : State) : unbarTo n .loaded s = modComp n (unbarredEntry .loaded) s := by
  refine joinFree_of_other ?_
  rw [modComp_at, if_pos rfl]
  exact nofun

/-- A BARRED compartment without link that no map mismatch holds is VACANT again (R16). -/
theorem unbarOn_unlinked (h : Header) (hbarred : s.comps[n].state = .barred) (hmatched : stillMismatched n s = false)
    (hlink : s.comps[n].link = none) : unbarOn h n s = answer h [] (unbarTo n .vacant s) := by
  unfold unbarOn
  dsimp only
  rw [if_pos hbarred, hmatched, if_neg Bool.false_ne_true, hlink]

/-- One with a link goes by the state its record reads (R16). -/
theorem unbarOn_linked {k : Slot} (h : Header) (hbarred : s.comps[n].state = .barred)
    (hmatched : stillMismatched n s = false) (hlink : s.comps[n].link = some k) :
    unbarOn h n s = if awaitsStaff k s then refuse h .wrongState s else answer h [] (unbarTo n .loaded s) := by
  unfold unbarOn
  dsimp only
  rw [if_pos hbarred, hmatched, if_neg Bool.false_ne_true, hlink]

theorem unbarOn_other (h : Header) (hbarred : s.comps[n].state ≠ .barred) : unbarOn h n s =
    if s.comps[n].pendingBar then answer h [] (modComp n (fun c => { c with pendingBar := false }) s)
    else refuse h .wrongState s := by
  unfold unbarOn
  dsimp only
  rw [if_neg hbarred]

theorem awaitsStaff_iff {k : Slot} {p : Parcel} (hat : parcelAt k s = some p) :
    awaitsStaff k s = true ↔ p.state = .stranded ∨ p.state = .quarantined := by
  rw [awaitsStaff, hat, Bool.or_eq_true, beq_iff_eq, beq_iff_eq]

/-- Settles O28. Each row of the tables is a branch of the request. -/
theorem barAndUnbarFollowTheirTables : Obligations.BarAndUnbarFollowTheirTables := by
  refine fun s tag n hready hn => ⟨fun hstate => ?_, fun hvacant hbarred hfitted => ?_, fun hstate => ?_, fun hstate => ?_,
    fun hstate hmismatch => ?_, fun hstate hmatched hlink => ?_, fun hstate hmatched k p hlink hat =>
      ⟨fun hstranded hquarantined => ?_, fun hstaff => ?_⟩, fun hstate hpending => ?_, fun hstate hpending => ?_⟩
  · refine exec_bar hready hn ?_
    have hstate : (reserve s).comps[n].state = .vacant := hstate
    rw [barOn, hstate]
    exact answer_reserve _ _ (modComp n (fun c => { c with state := .barred, cause := some .management }) (leaveFree n s))
  · refine exec_bar hready hn ?_
    rw [barOn_pending (s := reserve s) _ hvacant hbarred hfitted]
    exact answer_reserve _ _ (modComp n (fun c => { c with pendingBar := true }) s)
  · refine exec_bar hready hn ?_
    have hstate : (reserve s).comps[n].state = .barred := hstate
    rw [barOn, hstate]
    exact answer_reserve _ _ s
  · refine exec_bar hready hn ?_
    have hstate : (reserve s).comps[n].state = .unfitted := hstate
    rw [barOn, hstate]
    exact refuse_reserve _ (by decide) s
  · refine exec_unbar hready hn ?_
    have hmismatch : stillMismatched n (reserve s) = true := stillMismatched_iff.mpr hmismatch
    have hstate : (reserve s).comps[n].state = .barred := hstate
    unfold unbarOn
    dsimp only
    rw [if_pos hstate, if_pos hmismatch]
    exact refuse_reserve _ (by decide) s
  · refine exec_unbar hready hn ?_
    have hmatched : stillMismatched n (reserve s) = false := Bool.eq_false_iff.mpr (mt stillMismatched_iff.mp hmatched)
    rw [unbarOn_unlinked (s := reserve s) _ hstate hmatched hlink]
    exact (congrArg (answer _ []) (joinFree_reserve n (modComp n (unbarredEntry .vacant) s))).trans (answer_reserve _ _ _)
  · refine exec_unbar hready hn ?_
    have hmatched : stillMismatched n (reserve s) = false := Bool.eq_false_iff.mpr (mt stillMismatched_iff.mp hmatched)
    have hclear : awaitsStaff k (reserve s) = false := Bool.eq_false_iff.mpr fun h =>
      ((awaitsStaff_iff (s := reserve s) hat).mp h).elim hstranded hquarantined
    rw [unbarOn_linked (s := reserve s) _ hstate hmatched hlink, hclear, if_neg Bool.false_ne_true, unbarTo_loaded]
    exact answer_reserve _ _ (modComp n (unbarredEntry .loaded) s)
  · refine exec_unbar hready hn ?_
    have hmatched : stillMismatched n (reserve s) = false := Bool.eq_false_iff.mpr (mt stillMismatched_iff.mp hmatched)
    rw [unbarOn_linked (s := reserve s) _ hstate hmatched hlink,
      if_pos ((awaitsStaff_iff (s := reserve s) hat).mpr hstaff)]
    exact refuse_reserve _ (by decide) s
  · refine exec_unbar hready hn ?_
    have hpending : (reserve s).comps[n].pendingBar = true := hpending
    rw [unbarOn_other (s := reserve s) _ hstate, if_pos hpending]
    exact answer_reserve _ _ (modComp n (fun c => { c with pendingBar := false }) s)
  · refine exec_unbar hready hn ?_
    have hpending : (reserve s).comps[n].pendingBar = false := hpending
    rw [unbarOn_other (s := reserve s) _ hstate, hpending, if_neg Bool.false_ne_true]
    exact refuse_reserve _ (by decide) s

/-! ### The maintenance loop (R17, R18, R20) -/

/-- The entry that leaves the loop (R20). -/
def leftLoop (origin : MaintFrom) (c : Compartment) : Compartment :=
  if origin = .barred then { c with state := .barred, phase := .none, pendingBar := false }
  else if c.pendingBar then { c with state := .barred, cause := some .management, phase := .none, pendingBar := false }
  else { c with state := .vacant, cause := none, phase := .none }

/-- The loop's end, its slot emptied (R20). -/
def loopLeft (n : CompNo) (origin : MaintFrom) (s : State) : State :=
  joinFree n { stopJobTimers n (modComp n (leftLoop origin) s) with maintSlot := none }

theorem leaveLoop_eq (n : CompNo) (origin : MaintFrom) (s : State) : leaveLoop n origin s = loopLeft n origin s := by
  refine congrArg (fun f => joinFree n { stopJobTimers n (modComp n f s) with maintSlot := none }) (funext fun c => ?_)
  unfold leftLoop
  obtain ⟨_, _, _, _, _, _, _, _, pendingBar, _, _, _⟩ := c
  cases origin <;> cases pendingBar <;> rfl

theorem loopLeft_reserve (n : CompNo) (origin : MaintFrom) (s : State) :
    loopLeft n origin (reserve s) = reserve (loopLeft n origin s) :=
  joinFree_reserve n { stopJobTimers n (modComp n (leftLoop origin) s) with maintSlot := none }

theorem exec_maintEnter {x : State} (hready : Ready s) (hn : compGood n s = true) (hslot : s.maintSlot = none)
    {origin : MaintFrom} (horigin : (s.comps[n].state = .vacant ∧ origin = .vacant) ∨
      (s.comps[n].state = .barred ∧ s.comps[n].link = none ∧ origin = .barred)) (hx : enterLoop n origin s = x) :
    exec (.maintEnter tag (originOctet .office) (compByte n)) s =
      .next (settle (replied tag (originOctet .office) [0x29, 0x00] x)) := by
  subst hx
  refine exec_office (r := .maintEnter (compByte n)) rfl hready rfl rfl ?_
  have hslot : (reserve s).maintSlot = none := hslot
  rw [takeRequest, takeMaintEnter, fromOffice_office, namingComp_octet, hslot, Option.isSome_none,
    if_neg Bool.false_ne_true, readingComp_good (s := reserve s) hn]
  rcases horigin with ⟨hstate, rfl⟩ | ⟨hstate, hlink, rfl⟩
  · have hstate : (reserve s).comps[n].state = .vacant := hstate
    rw [hstate]
    exact answer_reserve _ _ (enterLoop n .vacant s)
  · have hstate : (reserve s).comps[n].state = .barred := hstate
    have hlink : (reserve s).comps[n].link = none := hlink
    rw [hstate, hlink]
    exact answer_reserve _ _ (enterLoop n .barred s)

theorem exec_maintExit {x : State} {m : MaintSlot} (hready : Ready s) (hn : compGood n s = true)
    (hslot : s.maintSlot = some m) (hm : m.comp = n)
    (hx : exitOn (headerOf tag .office (.maintExit (compByte n))) n m.origin (reserve s) = x) :
    exec (.maintExit tag (originOctet .office) (compByte n)) s = .next (settle x) := by
  refine exec_office (r := .maintExit (compByte n)) rfl hready rfl rfl ?_
  have hslot : (reserve s).maintSlot = some m := hslot
  rw [takeRequest, takeMaintExit, fromOffice_office, namingComp_octet, hslot]
  dsimp only
  rw [if_pos hm, readingComp_good (s := reserve s) hn, hx]

/-- Settles O29. Each request goes by the slot and the phase. -/
theorem maintenanceLoopEntersPulsesAndExits : Obligations.MaintenanceLoopEntersPulsesAndExits := by
  refine fun s tag n hready hn => ⟨fun hslot => ⟨fun hstate => ?_, fun hstate hlink => ?_⟩,
    fun m hslot hm hphase => ⟨fun hhold hpresent hdoor => ?_, ?_⟩,
    fun m hslot hm => ⟨fun hphase => ⟨fun hwithdraw => ?_, fun hwaiting hcommitted => ?_⟩, fun hphase => ?_⟩⟩
  · exact exec_maintEnter hready hn hslot (.inl ⟨hstate, rfl⟩) rfl
  · exact exec_maintEnter hready hn hslot (.inr ⟨hstate, hlink, rfl⟩) rfl
  · refine exec_office (r := .maintTestPulse (compByte n)) rfl hready rfl rfl ?_
    have hin : inLoop n (reserve s) = true := by
      have hslot : (reserve s).maintSlot = some m := hslot
      rw [inLoop, hslot]
      exact beq_iff_eq.mpr hm
    have hphase : (reserve s).comps[n].phase = .none := hphase
    have hhold : holdActive (reserve s) = false := hhold
    have hpresent : onPresentColumn n (reserve s) = true := hpresent
    have hdoor : (reserve s).comps[n].door = .closed := hdoor
    rw [takeRequest, takeTestPulse, fromOffice_office, namingComp_octet, if_pos hin,
      readingComp_good (s := reserve s) hn, testPulseOn, hphase, if_neg (fun h => h rfl), hhold, if_neg Bool.false_ne_true,
      hpresent, Bool.not_true, if_neg Bool.false_ne_true, hdoor, if_neg nofun]
    rfl
  · refine exec_maintExit hready hn hslot hm ?_
    have hphase : (reserve s).comps[n].phase = .none := hphase
    rw [exitOn, hphase]
    dsimp only
    rw [leaveLoop_eq, loopLeft_reserve]
    exact answer_reserve _ _ _
  · refine exec_maintExit hready hn hslot hm ?_
    have hphase : (reserve s).comps[n].phase = .awaitGrant := hphase
    have hsucceeds : withdrawSucceeds n (reserve s) = true := by
      rw [withdrawSucceeds, Bool.or_eq_true, Bool.not_eq_true']
      exact hwithdraw
    rw [exitOn, hphase]
    dsimp only
    rw [if_pos hsucceeds, leaveLoop_eq]
    exact (congrArg (answer _ []) (loopLeft_reserve n m.origin (withdraw n s))).trans (answer_reserve _ _ _)
  · refine exec_maintExit hready hn hslot hm ?_
    have hphase : (reserve s).comps[n].phase = .awaitGrant := hphase
    have hfails : withdrawSucceeds n (reserve s) = false := by
      have hwaiting : isWaiting n (reserve s) = false := hwaiting
      have hcommitted : isCommitted n (reserve s) = true := hcommitted
      rw [withdrawSucceeds, hwaiting, hcommitted]
      rfl
    rw [exitOn, hphase]
    dsimp only
    rw [hfails, if_neg Bool.false_ne_true]
    exact refuse_reserve _ (by decide) s
  · refine exec_maintExit hready hn hslot hm ?_
    have hrefused : exitOn (headerOf tag .office (.maintExit (compByte n))) n m.origin (reserve s) =
        refuse (headerOf tag .office (.maintExit (compByte n))) .inProgress (reserve s) := by
      rcases hphase with hphase | hphase
      · have hphase : (reserve s).comps[n].phase = .awaitOpen := hphase
        rw [exitOn, hphase]
      · have hphase : (reserve s).comps[n].phase = .opened := hphase
        rw [exitOn, hphase]
    rw [hrefused]
    exact refuse_reserve _ (by decide) s

end Sys2Proof.Machine

/-! PROOFS. The requests of the column bus, the notice unit, the counters and the record checker (7.3, 7.6, 8.4, 10). -/

namespace Sys2Proof.Machine

open Sys2Proof.Wire

variable {s : State} {tag : Byte}

/-! ### RELAY, ENUMERATE, MAINT TRACE (R129, R137, R163) -/

theorem takeRelay_taken (h : Header) {c : Col} {kind : Byte} {k : RelayKind} {message : List Byte}
    (hkind : relayKind? kind = some k) (hlo : 1 ≤ message.length) (hhi : message.length ≤ 32)
    (hpermits : permits s.mgmt.config.relay[c] k = true) (hpresent : s.bus.columns[c].state = .present)
    (hroom : s.bus.queue.length < 16) :
    takeRelay h (addressByte c) kind message s =
      { s with bus := { s.bus with queue := s.bus.queue ++ [.relay c k message h.tag (originOctet h.origin)] } } := by
  have hlength : (decide (1 ≤ message.length) && decide (message.length ≤ 32)) = true := by simp [hlo, hhi]
  have hcolumn : columnPresent c s = true := beq_iff_eq.mpr hpresent
  rw [takeRelay, col_octet, hkind, hlength]
  dsimp only
  rw [show permits (cfg s).relay[c] k = true from hpermits, hcolumn, Bool.not_true, if_neg Bool.false_ne_true,
    if_neg Bool.false_ne_true, if_neg (Nat.not_le.mpr hroom)]

/-- Settles O30. Each request meets every condition of its owner. -/
theorem relayEnumerateAndTraceRequests : Obligations.RelayEnumerateAndTraceRequests := by
  refine ⟨fun s tag o c kind k message hready hkind hlo hhi hpermits hpresent hroom => ?_,
    fun s tag hready hnone hawake => ?_, fun s tag c l hready htrace => ?_⟩
  · refine exec_taken (r := .relay (addressByte c) kind message) rfl hready ?_ rfl ?_
    · exact Bool.and_eq_true_iff.mpr ⟨decide_eq_true hlo, decide_eq_true hhi⟩
    · exact congrArg (requestTakenFrom o) (takeRelay_taken (s := reserve s) _ hkind hlo hhi hpermits hpresent hroom)
  · refine exec_office (r := .enumerate) rfl hready rfl rfl ?_
    have hnone : (reserve s).bus.enumeration = none := hnone
    have hawake : (reserve s).dormancy.state = .awake := hawake
    rw [takeRequest, takeEnumerate, fromOffice_office, hnone, Option.isSome_none, if_neg Bool.false_ne_true,
      if_neg (fun h => h hawake), startEnumeration_eq]
    rfl
  · refine exec_office (r := .maintTrace (addressByte c)) rfl hready rfl rfl ?_
    have htrace : (reserve s).doors.lastTrace[c] = some l := htrace
    rw [takeRequest, takeMaintTrace, fromOffice_office, col_octet]
    dsimp only
    rw [htrace]
    exact answer_reserve _ _ s

/-! ### Every class changed (R186, R197) -/

/-- Classes changed one by one change no other part of the state, and what is on the line least of all. -/
theorem foldl_modClass (f : Option NoticeClass → NoticeClass → ClassQueue → ClassQueue) (l : List NoticeClass) (s : State) :
    l.foldl (fun s c => modClass c (f s.notices.onLine c) s) s =
      { s with notices := { s.notices with
          classes := (l.foldl (fun s c => modClass c (f s.notices.onLine c) s) s).notices.classes } } := by
  induction l generalizing s with
  | nil => rfl
  | cons c l ih =>
    rw [List.foldl_cons, ih]
    rfl

theorem foldl_modClass_other (f : Option NoticeClass → NoticeClass → ClassQueue → ClassQueue) {l : List NoticeClass}
    {i : Fin 12} (hi : ∀ c ∈ l, classIndex c ≠ i) (s : State) :
    (l.foldl (fun s c => modClass c (f s.notices.onLine c) s) s).notices.classes[i] = s.notices.classes[i] := by
  induction l generalizing s with
  | nil => rfl
  | cons c l ih =>
    rw [List.foldl_cons, ih fun d hd => hi d (List.mem_cons_of_mem _ hd), modClass_at, if_neg (hi c (List.mem_cons_self ..))]

theorem foldl_modClass_at (f : Option NoticeClass → NoticeClass → ClassQueue → ClassQueue) {l : List NoticeClass}
    (hl : (l.map classIndex).Nodup) {c : NoticeClass} (hc : c ∈ l) (s : State) :
    (l.foldl (fun s c => modClass c (f s.notices.onLine c) s) s).notices.classes[classIndex c] =
      f s.notices.onLine c s.notices.classes[classIndex c] := by
  induction l generalizing s with
  | nil => cases hc
  | cons d l ih =>
    obtain ⟨hd, hl⟩ := List.nodup_cons.mp hl
    have hother : ∀ e ∈ l, classIndex e ≠ classIndex d := fun e he h => hd (List.mem_map.mpr ⟨e, he, h⟩)
    rw [List.foldl_cons]
    rcases List.mem_cons.mp hc with rfl | hc
    · rw [foldl_modClass_other f hother, modClass_at, if_pos rfl]
    · rw [ih hl hc, modClass_at, if_neg (hother c hc).symm]
      rfl

/-- Every class changed, given what each becomes. -/
theorem modClasses_eq (f : Option NoticeClass → NoticeClass → ClassQueue → ClassQueue) (s : State)
    {v : Vector ClassQueue 12} (hv : ∀ c, v[classIndex c] = f s.notices.onLine c s.notices.classes[classIndex c]) :
    allClasses.foldl (fun s c => modClass c (f s.notices.onLine c) s) s =
      { s with notices := { s.notices with classes := v } } := by
  have hmem : ∀ c, c ∈ allClasses := by intro c; cases c <;> decide
  have hindex : ∀ i : Fin 12, ∃ c, classIndex c = i := by
    have h : ∀ i : Fin 12, i ∈ allClasses.map classIndex := by decide
    exact fun i => (List.mem_map.mp (h i)).imp fun _ h => h.2
  rw [foldl_modClass f allClasses s]
  refine congrArg (fun v => { s with notices := { s.notices with classes := v } }) (Vector.ext fun i hi => ?_)
  obtain ⟨c, hc⟩ := hindex ⟨i, hi⟩
  obtain rfl : (classIndex c).val = i := congrArg Fin.val hc
  exact (foldl_modClass_at f (l := allClasses) (by decide) (hmem c) s).trans (hv c).symm

/-! ### MASK (R186) -/

theorem masks?_octets (m : Vector Bool 12) : masks? (m.map (fun b => if b then 0x01#8 else 0x00#8)) = some m.toList := by
  rw [masks?, Vector.toList_map]
  generalize m.toList = l
  induction l with
  | nil => rfl
  | cons b l ih =>
    rw [List.map_cons, List.mapM_cons, yesNo_octet, ih]
    rfl

theorem flatMap_flag (l : List Bool) : l.flatMap flag = l.map (fun b => if b then 0x01#8 else 0x00#8) :=
  (List.map_eq_flatMap ..).symm

theorem setMasks_eq (m : Vector Bool 12) (s : State) : setMasks m.toList s =
    { s with notices := { s.notices with
        classes := Vector.zipWith (fun q b => { q with masked := b }) s.notices.classes m } } := by
  refine modClasses_eq (fun _ c q => { q with masked := m.toList.getD (classIndex c).val false }) s fun c => ?_
  have hmask : m.toList.getD (classIndex c).val false = m[classIndex c] := by
    rw [List.getD_eq_getElem?_getD, List.getElem?_eq_getElem (by simp)]
    exact Vector.getElem_toList ..
  rw [hmask]
  exact Vector.getElem_zipWith (classIndex c).isLt

/-! ### DRILL STEP (R196, R197) -/

/-- A drill detail without the more marker goes (R197). -/
def stays (d : Detail) : Bool := !d.drill || d.more

/-- The details of a class that the discard leaves, the one on the line among them. -/
def keptDetails (s : State) (i : Fin 12) : List Detail :=
  let l := s.notices.classes[i].details
  if s.notices.onLine.map classIndex = some i then l.take 1 ++ (l.drop 1).filter stays else l.filter stays

theorem undrilled_onLine (l : List Detail) : undrilled true l = l.take 1 ++ (l.drop 1).filter stays := by
  have hkept : (fun e : Detail => !discardable e) = stays := by
    funext d
    rw [discardable, Bool.not_and, Bool.not_not, stays]
  cases l with
  | nil => rfl
  | cons d l =>
    rw [undrilled, hkept]
    rfl

theorem undrilled_waiting (l : List Detail) : undrilled false l = l.filter stays := by
  have hkept : (fun e : Detail => !discardable e) = stays := by
    funext d
    rw [discardable, Bool.not_and, Bool.not_not, stays]
  rw [← hkept]
  cases l <;> rfl

theorem classIndex_injective : Function.Injective classIndex := by
  intro c d
  cases c <;> cases d <;> decide

theorem undrilled_eq (s : State) (c : NoticeClass) :
    undrilled (s.notices.onLine == some c) s.notices.classes[classIndex c].details = keptDetails s (classIndex c) := by
  have honLine : s.notices.onLine = some c ↔ s.notices.onLine.map classIndex = some (classIndex c) :=
    ⟨congrArg (Option.map classIndex), fun h => Option.map_injective classIndex_injective (h.trans rfl)⟩
  rw [keptDetails]
  by_cases h : s.notices.onLine = some c
  · rw [beq_iff_eq.mpr h, if_pos (honLine.mp h), undrilled_onLine]
  · rw [beq_eq_false_iff_ne.mpr h, if_neg (mt honLine.mpr h), undrilled_waiting]

theorem discardDrill_eq (s : State) : discardDrill s = { s with notices := { s.notices with
    classes := Vector.ofFn (fun i : Fin 12 =>
      { s.notices.classes[i] with details := keptDetails s i, pending := !(keptDetails s i).isEmpty }) } } := by
  refine modClasses_eq (fun o c => discardClass (o == some c)) s fun c => ?_
  rw [discardClass, undrilled_eq]
  exact Vector.getElem_ofFn (classIndex c).isLt

/-- A step of the drill but the last raises its notice with the drill marker, and its counter (R196). -/
theorem drillNotice_raises {step : Fin 8} {body : NoticeBody} {counters : List Counter}
    (h : (step, body, counters) ∈
        ([(0, .doorAjar 0xFF 0, [.ajar]), (1, .lockFault 0xFF .coilFault 0, [.lockFaults]),
          (2, .tamper 0xFF .loadedOpened, [.tampers]), (3, .integrity .compartment 255, [.integrity]),
          (4, .column 0x00 .absent, [.absences]), (5, .hold true .office, [.holds]), (6, .drill 0x07, [])] :
          List (Fin 8 × NoticeBody × List Counter))) (s : State) :
    drillNotice (step + 1) s = counters.foldl (fun x k => count k x) (raiseMarked body true false s) ∧
      (step + 1).val = step.val + 1 := by
  simp only [List.mem_cons, List.not_mem_nil, or_false, Prod.mk.injEq] at h
  rcases h with ⟨rfl, rfl, rfl⟩ | ⟨rfl, rfl, rfl⟩ | ⟨rfl, rfl, rfl⟩ | ⟨rfl, rfl, rfl⟩ | ⟨rfl, rfl, rfl⟩ |
    ⟨rfl, rfl, rfl⟩ | ⟨rfl, rfl, rfl⟩ <;> exact ⟨rfl, rfl⟩

theorem drillNotice_reserve (step : Fin 8) (s : State) : drillNotice step (reserve s) = reserve (drillNotice step s) := by
  match step with
  | 0 =>
    rw [drillNotice, drillNotice, discardDrill_eq, discardDrill_eq]
    rfl
  | 1 | 2 | 3 | 4 | 5 | 6 | 7 => rfl

/-- Settles O31. Each request is one change of its own part, answered from the place reserved. -/
theorem snapshotIntegrityMaskAndDrillRequests : Obligations.SnapshotIntegrityMaskAndDrillRequests := by
  refine fun s tag hready => ⟨⟨?_, fun t => ?_⟩, ?_, fun m => ?_, fun step body counters hmem hstep => ?_, fun hstep => ?_⟩
  · refine exec_office (r := .snapshot) rfl hready rfl rfl ?_
    exact answer_reserve _ _ { s with counters := { live := Vector.replicate 62 0, snap := s.counters.live } }
  · refine exec_terminal (u := t) (r := .snapshot) rfl hready rfl rfl ?_
    exact congrArg (restartInactivity t) (refuse_reserve _ (c := .notPermitted) (by decide) s)
  · refine exec_office (r := .clearIntegrity) rfl hready rfl rfl ?_
    exact answer_reserve _ _ { s with checker := { s.checker with flag := false } }
  · refine exec_office (r := .mask (m.map (fun b => if b then 0x01#8 else 0x00#8))) rfl hready rfl rfl ?_
    rw [takeRequest, takeMask, fromOffice_office, masks?_octets]
    dsimp only
    rw [flatMap_flag, setMasks_eq]
    exact answer_reserve _ _ { s with notices := { s.notices with
      classes := Vector.zipWith (fun q b => { q with masked := b }) s.notices.classes m } }
  · refine exec_office (r := .drillStep) rfl hready rfl rfl ?_
    subst hstep
    rw [takeRequest, takeDrillStep, fromOffice_office]
    obtain ⟨hraises, hval⟩ := drillNotice_raises hmem { s with notices := { s.notices with drillStep := s.notices.drillStep + 1 } }
    dsimp only
    refine (congrArg (answer _ _) (drillNotice_reserve (s.notices.drillStep + 1)
      { s with notices := { s.notices with drillStep := s.notices.drillStep + 1 } })).trans ?_
    refine (answer_reserve _ _ _).trans ?_
    rw [hraises, show ((reserve s).notices.drillStep + 1).val = s.notices.drillStep.val + 1 from hval]
    rfl
  · refine exec_office (r := .drillStep) rfl hready rfl rfl ?_
    rw [takeRequest, takeDrillStep, fromOffice_office]
    have hnext : (reserve s).notices.drillStep + 1 = 0 := congrArg (· + 1) hstep
    dsimp only
    rw [hnext]
    refine (congrArg (answer _ _) (drillNotice_reserve 0 { s with notices := { s.notices with drillStep := 0 } })).trans ?_
    refine (answer_reserve _ _ _).trans ?_
    rw [drillNotice, discardDrill_eq]
    rfl

end Sys2Proof.Machine

/-! PROOFS. The table cursor: CURSOR, READ and WRITE (11.1). -/

namespace Sys2Proof.Machine

open Sys2Proof.Wire

variable {s : State} {tag : Byte}

/-! ### The cursor (R198) -/

theorem atLast_iff (s : State) : atLast s = true ↔ lastIndex s.mgmt.cursor.table s ≤ s.mgmt.cursor.index :=
  decide_eq_true_iff

/-- A cursor whose step mode advances moves on, from the last entry not. -/
theorem advancing_eq (adv : Bool) (s : State) : (if adv then advance s else s) =
    if adv = true ∧ s.mgmt.cursor.index < lastIndex s.mgmt.cursor.table s then
      { s with mgmt := { s.mgmt with cursor := { s.mgmt.cursor with index := s.mgmt.cursor.index + 1 } } }
    else s := by
  cases adv with
  | false => exact (if_neg fun h => Bool.false_ne_true h.1).symm
  | true =>
    refine (if_pos rfl).trans ?_
    by_cases h : lastIndex s.mgmt.cursor.table s ≤ s.mgmt.cursor.index
    · rw [if_neg fun hc => Nat.not_lt.mpr h hc.2]
      exact if_pos ((atLast_iff s).mpr h)
    · rw [if_pos ⟨rfl, Nat.not_le.mp h⟩]
      exact if_neg (mt (atLast_iff s).mp h)

theorem lastIndex_reserve (t : TableId) (s : State) : lastIndex t (reserve s) = lastIndex t s := rfl

theorem advancing_reserve (adv : Bool) (s : State) :
    (if adv then advance (reserve s) else reserve s) = reserve (if adv then advance s else s) := by
  rw [advancing_eq, advancing_eq, apply_ite reserve]
  rfl

/-! ### CURSOR (R198) -/

theorem exec_cursor (hready : Ready s) {tb mb : Byte} {table : TableId} {mode : StepMode} {index : BitVec 16}
    (htable : tableId? tb = some table) (hmode : stepMode? mb = some mode) :
    exec (.cursor tag (originOctet .office) tb index mb) s =
      .next (settle (replied tag (originOctet .office) ([0x32, 0x00] ++ flag (beyondLast table index.toNat s))
        (setCursor { table := table, index := min index.toNat (lastIndex table s), mode := mode } s))) := by
  refine exec_office (r := .cursor tb index mb) rfl hready rfl rfl ?_
  rw [takeRequest, takeCursor, fromOffice_office, htable, hmode]
  exact answer_reserve _ _ (setCursor { table := table, index := min index.toNat (lastIndex table s), mode := mode } s)

/-! ### READ (R199) -/

theorem exec_read (hready : Ready s) (hin : s.mgmt.cursor.index ≤ lastIndex s.mgmt.cursor.table s) {entry : List Byte}
    (hread : readAt (headerOf tag .office .read) s.mgmt.cursor.table s.mgmt.cursor.index (reserve s) =
      answerRead (headerOf tag .office .read) false entry (reserve s)) :
    exec (.read tag (originOctet .office)) s =
      .next (settle (replied tag (originOctet .office)
        (0x33 :: 0x00 :: tableOctet s.mgmt.cursor.table :: num2 s.mgmt.cursor.index
          ++ flag (decide (s.mgmt.cursor.mode = .each ∧ s.mgmt.cursor.index = lastIndex s.mgmt.cursor.table s)) ++ entry)
        (if s.mgmt.cursor.mode = .each ∧ s.mgmt.cursor.index < lastIndex s.mgmt.cursor.table s then
          { s with mgmt := { s.mgmt with cursor := { s.mgmt.cursor with index := s.mgmt.cursor.index + 1 } } }
        else s))) := by
  refine exec_office (r := .read) rfl hready rfl rfl (hread.trans ?_)
  have hmarker : (false || (readAdvances s.mgmt.cursor.mode && atLast (reserve s))) =
      decide (s.mgmt.cursor.mode = .each ∧ s.mgmt.cursor.index = lastIndex s.mgmt.cursor.table s) := by
    rw [Bool.eq_iff_iff, Bool.false_or, Bool.and_eq_true, decide_eq_true_iff, readAdvances, beq_iff_eq]
    exact and_congr_right fun _ => ⟨fun h => Nat.le_antisymm hin ((atLast_iff (reserve s)).mp h),
      fun h => (atLast_iff (reserve s)).mpr (Nat.le_of_eq h.symm)⟩
  unfold answerRead
  dsimp only
  rw [show (reserve s).mgmt = s.mgmt from rfl, hmarker, advancing_reserve]
  refine (answer_reserve _ _ _).trans ?_
  rw [advancing_eq, readAdvances]
  simp only [beq_iff_eq]
  rfl

/-- A way that passes its check is read as what it holds. -/
theorem readAt_credential {w : Way} (hgood : wayGood w s = true) (h : Header) :
    readAt h .credential w.val s = answerRead h false (credentialEntry w s) s := by
  rw [readAt, below?_val]
  exact if_pos hgood

theorem readAt_credential_held {w : Way} {e : Credential} (hway : s.creds.ways[w] = some e) (hgood : wayGood w s = true)
    (h : Header) : readAt h .credential w.val s = answerRead h false (0x01 :: credentialOctets e) s := by
  rw [readAt_credential hgood, credentialEntry, hway]
  rfl

/-- A READ of the return queue finds the record at the cursor, brought to the tail (R198, R199). -/
theorem readQueue_found {k : Slot} {p : Parcel} {i : Nat} (hi : min s.mgmt.cursor.index (s.returns.queue.length - 1) = i)
    (hk : s.returns.queue[i]? = some k) (hat : parcelAt k s = some p) (h : Header) :
    readQueue h s = answerRead h (decide (s.returns.queue.length ≤ s.mgmt.cursor.index)) (queueEntry k p s)
      (setCursor { s.mgmt.cursor with index := i } s) := by
  subst hi
  unfold readQueue
  dsimp only
  rw [hk]
  dsimp only
  rw [hat]

theorem readQueue_empty (hqueue : s.returns.queue = []) (h : Header) : readQueue h s = refuse h .noMatch s := by
  unfold readQueue
  rw [hqueue]
  rfl

theorem refuse_noMatch_reserve (h : Header) (s : State) :
    refuse h .noMatch (reserve s) = replied h.tag (originOctet h.origin) [h.kind, 0x04, 0xFF] s :=
  placeReply_reserve _ s

/-- The READ of a shortened return queue stays at the tail it was moved to (R198). -/
theorem answerRead_moved {i : Nat} (hlast : lastIndex s.mgmt.cursor.table s ≤ i) (h : Header) (entry : List Byte) :
    answerRead h true entry (setCursor { s.mgmt.cursor with index := i } (reserve s)) =
      replied h.tag (originOctet h.origin) (h.kind :: 0x00 :: (tableOctet s.mgmt.cursor.table :: num2 i ++ [0x01] ++ entry))
        { s with mgmt := { s.mgmt with cursor := { s.mgmt.cursor with index := i } } } := by
  have hstays : ∀ adv : Bool, (if adv then advance (reserve (setCursor { s.mgmt.cursor with index := i } s))
      else reserve (setCursor { s.mgmt.cursor with index := i } s)) =
        reserve (setCursor { s.mgmt.cursor with index := i } s) := by
    intro adv
    rw [advancing_reserve, advancing_eq, if_neg fun h => Nat.not_lt.mpr hlast h.2]
  refine (congrArg (answer h _) (hstays (readAdvances s.mgmt.cursor.mode))).trans ?_
  rw [Bool.true_or]
  exact answer_reserve h _ (setCursor { s.mgmt.cursor with index := i } s)

/-- Settles O32. READ goes by the cursor's table; each checked entry is verified first. -/
theorem cursorAndReadFollowTheTable : Obligations.CursorAndReadFollowTheTable := by
  refine ⟨fun s tag tb mb table mode index hready htable hmode hqueue => ?_,
    fun s tag tb mb mode index hready htable hmode hqueue => ?_, fun s tag hready hin => ⟨fun p htable hindex => ?_,
      fun w htable hindex => ?_, fun n htable hindex hn => ?_, fun a htable hindex => ?_,
      fun k htable hindex => ⟨fun hnone => ?_, fun p hat hgood => ?_⟩,
      fun w htable hindex => ⟨fun hnone => ?_, fun e hway hgood => ⟨fun k hkind => ?_, fun k hkind => ?_, fun i hkind => ?_⟩⟩,
      fun k p htable hk hat => ?_, fun i htable hindex => ?_, fun i htable hindex => ?_⟩,
    fun s tag hready htable => ⟨fun hqueue => ?_, fun front k p hqueue hlong hat => ?_⟩⟩
  · have hbeyond : beyondLast table index.toNat s = decide (lastIndex table s < index.toNat) := by
      have hsome : (table == .returnQueue && s.returns.queue.isEmpty) = false := by
        rw [Bool.and_eq_false_imp]
        exact fun h => List.isEmpty_eq_false_iff.mpr (hqueue (beq_iff_eq.mp h))
      rw [beyondLast, hsome, Bool.or_false]
    rw [exec_cursor hready htable hmode, hbeyond]
    rfl
  · have hbeyond : beyondLast .returnQueue index.toNat s = true := by
      rw [beyondLast, hqueue, Bool.or_eq_true]
      exact .inr rfl
    have hlast : lastIndex .returnQueue s = 0 := by rw [lastIndex, hqueue]; rfl
    rw [exec_cursor hready htable hmode, hbeyond, hlast, Nat.min_zero]
    rfl
  · refine exec_read hready hin ?_
    rw [htable, hindex, readAt, below?_val]
    rfl
  · refine exec_read hready hin ?_
    rw [htable, hindex, readAt, below?_val]
    rfl
  · refine exec_read hready hin ?_
    rw [htable, hindex, readAt, below?_val]
    exact readingComp_good (s := reserve s) hn _ _
  · refine exec_read hready hin ?_
    rw [htable, hindex, readAt, below?_val]
    rfl
  · have hnone : parcelAt k (reserve s) = none := hnone
    have hgood : parcelGood k (reserve s) = true := by rw [parcelGood, hnone]
    refine exec_read hready hin ?_
    rw [htable, hindex, readAt, below?_val]
    refine (readingRecord_good (s := reserve s) hgood _ _).trans ?_
    rw [parcelEntry, hnone]
    rfl
  · have hat : parcelAt k (reserve s) = some p := hat
    refine exec_read hready hin ?_
    rw [htable, hindex, readAt, below?_val]
    refine (readingRecord_good (s := reserve s) hgood _ _).trans ?_
    rw [parcelEntry, hat]
    rfl
  · have hnone : (reserve s).creds.ways[w] = none := hnone
    have hgood : wayGood w (reserve s) = true := by rw [wayGood, hnone]
    refine exec_read hready hin ?_
    rw [htable, hindex, readAt_credential hgood, credentialEntry, hnone]
    rfl
  · refine exec_read hready hin ?_
    rw [htable, hindex, readAt_credential_held (s := reserve s) hway hgood, credentialOctets, hkind]
    rfl
  · refine exec_read hready hin ?_
    rw [htable, hindex, readAt_credential_held (s := reserve s) hway hgood, credentialOctets, hkind]
    rfl
  · refine exec_read hready hin ?_
    rw [htable, hindex, readAt_credential_held (s := reserve s) hway hgood, credentialOctets, hkind]
    rfl
  · have hlong : s.mgmt.cursor.index < s.returns.queue.length := (List.getElem?_eq_some_iff.mp hk).1
    have hat : parcelAt k (reserve s) = some p := hat
    refine exec_read hready hin ?_
    rw [htable, readAt, readQueue_found (s := reserve s) (Nat.min_eq_left (Nat.le_sub_one_of_lt hlong)) hk hat]
    exact congrArg (fun b => answerRead _ b _ (reserve s)) (decide_eq_false (Nat.not_le.mpr hlong))
  · refine exec_read hready hin ?_
    rw [htable, hindex, readAt, below?_val]
    rfl
  · refine exec_read hready hin ?_
    rw [htable, hindex, readAt, below?_val]
    rfl
  · refine exec_office (r := .read) rfl hready rfl rfl ?_
    have htable : (reserve s).mgmt.cursor.table = .returnQueue := htable
    rw [takeRequest, takeRead, fromOffice_office, htable, readAt, readQueue_empty (s := reserve s) hqueue]
    exact refuse_noMatch_reserve _ s
  · have hlength : s.returns.queue.length = front.length + 1 := by rw [hqueue, List.length_append]; rfl
    have hlast : s.returns.queue.length - 1 = front.length := by omega
    have hk : s.returns.queue[front.length]? = some k := by rw [hqueue]; exact List.getElem?_concat_length
    have hbeyond : s.returns.queue.length ≤ s.mgmt.cursor.index := by omega
    have hmin : min s.mgmt.cursor.index (s.returns.queue.length - 1) = front.length := by omega
    refine exec_office (r := .read) rfl hready rfl rfl ?_
    have htable' : (reserve s).mgmt.cursor.table = .returnQueue := htable
    rw [takeRequest, takeRead, fromOffice_office, htable', readAt,
      readQueue_found (s := reserve s) (i := front.length) hmin hk hat,
      decide_eq_true (show (reserve s).returns.queue.length ≤ (reserve s).mgmt.cursor.index from hbeyond)]
    have hend : lastIndex s.mgmt.cursor.table s ≤ front.length := by rw [htable]; exact Nat.le_of_eq hlast
    refine (answerRead_moved hend _ _).trans ?_
    rw [htable]
    rfl

/-! ### WRITE (R66, R67, R122, R200) -/

theorem writeAdvances_iff (m : StepMode) : writeAdvances m = true ↔ m = .each ∨ m = .writes := by
  rw [writeAdvances, Bool.or_eq_true, beq_iff_eq, beq_iff_eq]

/-- The reply of a taken WRITE, and the advance of the cursor it left alone (R198, R200). -/
theorem answerWrite_reserve {c : TableCursor} (hc : s.mgmt.cursor = c) (h : Header) :
    answerWrite h (reserve s) = replied h.tag (originOctet h.origin)
      (h.kind :: 0x00 :: flag (decide ((c.mode = .each ∨ c.mode = .writes) ∧ lastIndex c.table s ≤ c.index)))
      (if (c.mode = .each ∨ c.mode = .writes) ∧ c.index < lastIndex c.table s then
        { s with mgmt := { s.mgmt with cursor := { c with index := c.index + 1 } } } else s) := by
  subst hc
  have hmarker : (writeAdvances s.mgmt.cursor.mode && atLast (reserve s)) =
      decide ((s.mgmt.cursor.mode = .each ∨ s.mgmt.cursor.mode = .writes) ∧
        lastIndex s.mgmt.cursor.table s ≤ s.mgmt.cursor.index) := by
    rw [Bool.eq_iff_iff, Bool.and_eq_true, decide_eq_true_iff, writeAdvances_iff]
    exact and_congr_right fun _ => atLast_iff (reserve s)
  unfold answerWrite
  dsimp only
  rw [show (reserve s).mgmt = s.mgmt from rfl, hmarker, advancing_reserve]
  refine (answer_reserve _ _ _).trans ?_
  rw [advancing_eq]
  simp only [writeAdvances_iff]

/-- A WRITE that its owner takes, the cursor left to the reply. -/
theorem exec_write {i : Instr} {r : Request} {x : State} (hi : i.request? = some (tag, originOctet .office, r))
    (hready : Ready s) (hwell : r.wellFormed = true) (hfits : fitsTable s.mgmt.cursor.table r = true)
    (hkind : kindOctet r = 0x34) (hx : takeRequest (headerOf tag .office r) r (reserve s) =
      answerWrite (headerOf tag .office r) (reserve x)) (hc : x.mgmt.cursor = s.mgmt.cursor)
    (hlast : lastIndex s.mgmt.cursor.table x = lastIndex s.mgmt.cursor.table s) :
    exec i s = .next (settle (replied tag (originOctet .office)
      ([0x34, 0x00] ++ flag (decide ((s.mgmt.cursor.mode = .each ∨ s.mgmt.cursor.mode = .writes) ∧
        lastIndex s.mgmt.cursor.table s ≤ s.mgmt.cursor.index)))
      (if (s.mgmt.cursor.mode = .each ∨ s.mgmt.cursor.mode = .writes) ∧
          s.mgmt.cursor.index < lastIndex s.mgmt.cursor.table s then
        { x with mgmt := { x.mgmt with cursor := { s.mgmt.cursor with index := s.mgmt.cursor.index + 1 } } }
      else x))) := by
  rw [← hkind, ← hlast]
  exact exec_office hi hready hwell hfits (hx.trans (answerWrite_reserve hc _))

/-- A WRITE stands on the link as its octets, whatever table they are for (R218). -/
theorem entryOf_write {r : Request} (h : kindOctet r = 0x34) (tag o : Byte) :
    entryOf tag o r = entryOf tag o (.write (fieldOctets r)) := by
  cases r with
  | writeTariff _ | writePeak _ _ _ | writeMap _ _ | writeColumn _ _ _ | write _ => rfl
  | _ => simp [kindOctet] at h

/-- Two WRITEs of the same octets are one. -/
theorem exec_write_congr {i j : Instr} {r q : Request} (hi : i.request? = some (tag, originOctet .office, r))
    (hj : j.request? = some (tag, originOctet .office, q)) (hr : kindOctet r = 0x34) (hq : kindOctet q = 0x34)
    (hfields : fieldOctets r = fieldOctets q) (hready : Ready s) : exec i s = exec j s := by
  rw [exec_of_request? hi, exec_of_request? hj, request_ready _ _ _ hready, request_ready _ _ _ hready,
    entryOf_write hr, entryOf_write hq, hfields]

/-- The permissions of the column at the cursor (R122). -/
theorem judgePermissionWrite_stored {col : Col} (l x m : Bool) (s : State) :
    judgePermissionWrite col.val (if l then 0x01#8 else 0x00#8) (if x then 0x01#8 else 0x00#8)
      (if m then 0x01#8 else 0x00#8) s =
    .ok (modConfig (fun r => { r with relay := r.relay.set col.val { lamp := l, text := x, chime := m } col.isLt }) s) := by
  rw [judgePermissionWrite, below?_val, yesNo_octet, yesNo_octet, yesNo_octet]

/-- Settles O33. The table's owner stores the entry; at a table that takes no WRITE none is taken. -/
theorem writesStoreTheirEntry : Obligations.WritesStoreTheirEntry := by
  refine fun s tag hready => ⟨fun f plan p htable hindex hplan => ?_,
    fun first stop mult w htable hindex hfirst hstop hlow hhigh => ?_, fun l x m col htable hindex => ?_,
    fun i r hi hkind htable => ?_⟩
  · refine exec_write (r := .writeTariff f)
      (x := { s with charge := { s.charge with plans := s.charge.plans.set p.val plan p.isLt } })
      rfl hready rfl (by rw [htable]; rfl) rfl ?_ rfl rfl
    have hindex : (reserve s).mgmt.cursor.index = p.val := hindex
    rw [takeRequest, takeWriteTariff, fromOffice_office, judgePlanWrite, hplan, hindex, below?_val]
    rfl
  · refine exec_write (r := .writePeak first stop mult)
      (x := { s with charge := { s.charge with
          peaks := s.charge.peaks.set w.val { first := first.toNat, last := stop.toNat, multiplier := mult.toNat } w.isLt } })
      rfl hready rfl (by rw [htable]; rfl) rfl ?_ rfl rfl
    have hindex : (reserve s).mgmt.cursor.index = w.val := hindex
    rw [takeRequest, takeWritePeak, fromOffice_office, judgePeakWrite, hindex, below?_val]
    dsimp only
    rw [if_pos ⟨hfirst, hstop, hlow, hhigh⟩]
    rfl
  · have hfirst := exec_write (i := .writeColumn tag (originOctet .office) _ _ _) (tag := tag) (r := .writeColumn (if l then 0x01#8 else 0x00#8)
        (if x then 0x01#8 else 0x00#8) (if m then 0x01#8 else 0x00#8))
      (x := modConfig (fun r => { r with relay := r.relay.set col.val { lamp := l, text := x, chime := m } col.isLt }) s)
      rfl hready rfl (by rw [htable]; rfl) rfl
      (by
        have hindex : (reserve s).mgmt.cursor.index = col.val := hindex
        rw [takeRequest, takeWriteColumn, fromOffice_office, hindex, judgePermissionWrite_stored]
        rfl)
      rfl rfl
    refine ⟨hfirst, ?_⟩
    exact (exec_write_congr (i := .write tag (originOctet .office) _) (r := .write _) (q := .writeColumn _ _ _) rfl rfl
      rfl rfl rfl hready).trans hfirst
  · rw [exec_of_request? hi, request_ready _ _ _ hready, entryOf_write hkind]
    have hread : readBody (reserve s).mgmt.cursor.table .mgmt (bodyOctets (.write (fieldOctets r))) =
        .request (.write (fieldOctets r)) := by
      rw [show (reserve s).mgmt.cursor = s.mgmt.cursor from rfl]
      rcases htable with h | h | h | h | h <;> rw [h] <;> rfl
    unfold takeEntry
    rw [show (entryOf tag (originOctet .office) (.write (fieldOctets r))).origin = originOctet .office from rfl, origin_octet]
    dsimp only
    rw [show readBody _ (entryOf tag (originOctet .office) (.write (fieldOctets r))).cls
      (entryOf tag (originOctet .office) (.write (fieldOctets r))).body = _ from hread]
    exact congrArg (fun x => Host.Outcome.next (settle x))
      (refuse_reserve (headerOf tag .office (.write (fieldOctets r))) (c := .notPermitted) (by decide) s)

end Sys2Proof.Machine

/-! PROOFS. The map writes (1.3). -/

namespace Sys2Proof.Machine

open Sys2Proof.Wire

variable {s : State} {n : CompNo} {tag : Byte}

/-! ### The judgement of a map write (R4) -/

@[simp] theorem pos?_octet (p : Pos) : pos? (BitVec.ofNat 8 p.val) = some p := by
  rw [pos?, ofNat8_toNat (by omega), below?_val]

theorem place?_octets (p : MapPlace) :
    place? (some (addressByte p.col, BitVec.ofNat 8 p.pos.val)) = some (some p) := by
  rw [place?, col_octet, pos?_octet]

theorem placeTaken_of_free {p : MapPlace} (h : ∀ m, m ≠ n → s.comps[m].place = some p → s.comps[m].state = .unfitted) :
    placeTaken n p s = false := by
  refine List.any_eq_false.mpr fun m _ hm => ?_
  obtain ⟨hne, hplace⟩ := Bool.and_eq_true_iff.mp hm
  have hplace : fittedPlace m s = some p := beq_iff_eq.mp hplace
  by_cases hunfitted : s.comps[m].state = .unfitted
  · rw [fittedPlace_unfitted m s hunfitted] at hplace
    cases hplace
  · rw [fittedPlace_fitted m s hunfitted] at hplace
    exact hunfitted (h m (bne_iff_ne.mp hne) hplace)

theorem mapWritable_of (h : s.comps[n].state = .unfitted ∨ s.comps[n].state = .vacant ∨
    (s.comps[n].state = .barred ∧ s.comps[n].link = none)) : mapWritable s.comps[n] = true := by
  rcases h with h | h | ⟨h, hlink⟩
  · rw [mapWritable, h]
  · rw [mapWritable, h]
  · rw [mapWritable, h, hlink]

theorem judgeMapWrite_placed {p : MapPlace} {cb : Byte} {cls : SizeClass} (hcls : sizeClass? cb = some cls)
    (hwritable : mapWritable s.comps[n] = true) (hfree : placeTaken n p s = false) :
    judgeMapWrite n (some (addressByte p.col, BitVec.ofNat 8 p.pos.val)) cb s = .ok (writePlace n (some p) cls s) := by
  rw [judgeMapWrite, hwritable, Bool.not_true, if_neg Bool.false_ne_true, place?_octets, hcls]
  dsimp only
  rw [hfree, if_neg Bool.false_ne_true]

theorem judgeMapWrite_unfitted {cb : Byte} {cls : SizeClass} (hcls : sizeClass? cb = some cls)
    (hwritable : mapWritable s.comps[n] = true) : judgeMapWrite n none cb s = .ok (writePlace n none cls s) := by
  rw [judgeMapWrite, hwritable, Bool.not_true, if_neg Bool.false_ne_true, place?, hcls]

theorem exec_writeMap {x : State} {place : Option (Byte × Byte)} {cb : Byte} (hready : Ready s)
    (htable : s.mgmt.cursor.table = .map) (hindex : s.mgmt.cursor.index = n.val) (hn : compGood n s = true)
    (hx : judgeMapWrite n place cb (reserve s) = .ok (reserve x)) (hc : x.mgmt.cursor = s.mgmt.cursor) :
    exec (.writeMap tag (originOctet .office) place cb) s =
      .next (settle (replied tag (originOctet .office)
        ([0x34, 0x00] ++ flag (decide ((s.mgmt.cursor.mode = .each ∨ s.mgmt.cursor.mode = .writes) ∧ n.val = 239)))
        (if (s.mgmt.cursor.mode = .each ∨ s.mgmt.cursor.mode = .writes) ∧ n.val < 239 then
          { x with mgmt := { x.mgmt with cursor := { s.mgmt.cursor with index := n.val + 1 } } }
        else x))) := by
  have hlast : ∀ y : State, lastIndex s.mgmt.cursor.table y = 239 := by
    intro y
    rw [htable]
    rfl
  refine (exec_write (r := .writeMap place cb) (x := x) rfl hready rfl (by rw [htable]; rfl) rfl ?_ hc
    ((hlast x).trans (hlast s).symm)).trans ?_
  · have hindex : (reserve s).mgmt.cursor.index = n.val := hindex
    rw [takeRequest, takeWriteMap, fromOffice_office, hindex, below?_val]
    dsimp only
    rw [readingComp_good (s := reserve s) hn, hx]
    rfl
  · have hend : 239 ≤ n.val ↔ n.val = 239 := by omega
    simp only [hlast, hindex, hend]

/-! ### What a map write leaves (R4, R15, R130) -/

/-- The entry fitted to its new place. -/
def fittedTo (p : MapPlace) (cls : SizeClass) (c : Compartment) : Compartment :=
  { c with place := some p, cls := cls, door := .opened, occ := .uncertain
           state := if c.state = .barred then .barred else .vacant }

/-- A compartment fitted to its new place, out of its list, its door record stopped. -/
def refitted (n : CompNo) (p : MapPlace) (cls : SizeClass) (s : State) : State :=
  stopDoor n (modComp n (fittedTo p cls) (leaveFree n s))

theorem refitted_entry (n : CompNo) (p : MapPlace) (cls : SizeClass) (s : State) :
    (refitted n p cls s).comps[n] = sealCompartment n (fittedTo p cls s.comps[n]) :=
  (modComp_at n n _ _).trans (if_pos rfl)

theorem refitted_state (n : CompNo) (p : MapPlace) (cls : SizeClass) (s : State) :
    (refitted n p cls s).comps[n].state = if s.comps[n].state = .barred then .barred else .vacant := by
  rw [refitted_entry]
  rfl

theorem refitted_fitted (n : CompNo) (p : MapPlace) (cls : SizeClass) (s : State) :
    (refitted n p cls s).comps[n].state = .vacant ∨ (refitted n p cls s).comps[n].state = .barred := by
  rw [refitted_state]
  split
  · exact .inr rfl
  · exact .inl rfl

/-- A bar of a compartment under no job tells no engine (R15). -/
theorem causeBar_idle (h : s.comps[n].state = .vacant ∨ s.comps[n].state = .barred) (cause : BarCause) :
    causeBar n cause s = barWithoutReport n cause s := by
  rw [causeBar]
  unfold tellEngine
  rcases h with h | h <;> rw [h] <;> cases (barWithoutReport n cause s).comps[n].link <;> rfl

theorem barWithoutReport_reserve (cause : BarCause) :
    barWithoutReport n cause (reserve s) = reserve (barWithoutReport n cause s) := by
  unfold barWithoutReport
  dsimp only
  rw [apply_ite reserve, apply_ite reserve]
  rfl

theorem barWithoutReport_mgmt (cause : BarCause) : (barWithoutReport n cause s).mgmt = s.mgmt := by
  unfold barWithoutReport
  dsimp only
  split
  · rfl
  · split <;> rfl

theorem mismatched_refitted (n : CompNo) (p : MapPlace) (cls : SizeClass) (s : State) :
    mismatched n p.col (refitted n p cls s) = decide (s.bus.columns[p.col].count.val ≤ p.pos.val) := by
  have hfitted : (refitted n p cls s).comps[n].state ≠ .unfitted := by
    rcases refitted_fitted n p cls s with h | h <;> rw [h] <;> decide
  have hplace : fittedPlace n (refitted n p cls s) = some p := by
    rw [fittedPlace_fitted _ _ hfitted, refitted_entry]
    rfl
  rw [mismatched, hplace]
  dsimp only
  rw [beq_self_eq_true, Bool.true_and]
  rfl

theorem refit_matched {p : MapPlace} {cls : SizeClass}
    (h : s.bus.columns[p.col].state ≠ .present ∨ p.pos.val < s.bus.columns[p.col].count.val) :
    refit n p cls s = refitted n p cls s := by
  refine if_neg fun hc => ?_
  obtain ⟨hpresent, hcount⟩ := hc
  have hcount := of_decide_eq_true ((mismatched_refitted n p cls s).symm.trans hcount)
  rcases h with h | h
  · exact h (beq_iff_eq.mp hpresent)
  · omega

theorem refit_mismatched {p : MapPlace} {cls : SizeClass} (hpresent : s.bus.columns[p.col].state = .present)
    (hcount : s.bus.columns[p.col].count.val ≤ p.pos.val) :
    refit n p cls s = if s.comps[n].state = .barred then causeBar n .mapMismatch (refitted n p cls s)
      else raise (.column (addressByte p.col) .mapMismatch) (causeBar n .mapMismatch (refitted n p cls s)) := by
  have hmis : mismatched n p.col (refitted n p cls s) = true :=
    (mismatched_refitted n p cls s).trans (decide_eq_true hcount)
  have hnewly : newlyBarred (refitted n p cls s) n = true ↔ s.comps[n].state ≠ .barred := by
    rw [newlyBarred, Bool.and_eq_true, bne_iff_ne, refitted_state]
    rw [compGood, refitted_entry, compartmentOk_seal]
    split
    · next h => exact ⟨fun hc => absurd rfl hc.1, fun hc => absurd h hc⟩
    · next h => exact ⟨fun _ => h, fun _ => ⟨nofun, rfl⟩⟩
  refine (if_pos ⟨beq_iff_eq.mpr hpresent, hmis⟩).trans ?_
  by_cases h : s.comps[n].state = .barred
  · rw [if_pos h]
    exact if_neg (mt hnewly.mp fun hn => hn h)
  · rw [if_neg h]
    exact if_pos (hnewly.mpr h)

theorem refit_reserve (n : CompNo) (p : MapPlace) (cls : SizeClass) (s : State) :
    refit n p cls (reserve s) = reserve (refit n p cls s) := by
  by_cases h : s.bus.columns[p.col].state ≠ .present ∨ p.pos.val < s.bus.columns[p.col].count.val
  · rw [refit_matched (s := reserve s) h, refit_matched h]
    rfl
  · obtain ⟨hpresent, hcount⟩ := not_or.mp h
    have hpresent := not_not.mp hpresent
    have hcount := Nat.not_lt.mp hcount
    have hbar : causeBar n .mapMismatch (refitted n p cls (reserve s)) =
        reserve (causeBar n .mapMismatch (refitted n p cls s)) := by
      rw [causeBar_idle (refitted_fitted n p cls (reserve s)), causeBar_idle (refitted_fitted n p cls s)]
      exact barWithoutReport_reserve (s := refitted n p cls s) _
    rw [refit_mismatched (s := reserve s) hpresent hcount, refit_mismatched hpresent hcount, hbar, apply_ite reserve]
    rfl

theorem refit_cursor (n : CompNo) (p : MapPlace) (cls : SizeClass) (s : State) : (refit n p cls s).mgmt = s.mgmt := by
  by_cases h : s.bus.columns[p.col].state ≠ .present ∨ p.pos.val < s.bus.columns[p.col].count.val
  · rw [refit_matched h]
    rfl
  · obtain ⟨hpresent, hcount⟩ := not_or.mp h
    have hbar : (causeBar n .mapMismatch (refitted n p cls s)).mgmt = s.mgmt := by
      rw [causeBar_idle (refitted_fitted n p cls s)]
      exact barWithoutReport_mgmt (s := refitted n p cls s) _
    rw [refit_mismatched (not_not.mp hpresent) (Nat.not_lt.mp hcount)]
    split
    · exact hbar
    · exact hbar

theorem writePlace_refit {p : MapPlace} (cls : SizeClass) (h : s.comps[n].place ≠ some p ∨ s.comps[n].state = .unfitted) :
    writePlace n (some p) cls s = refit n p cls s := by
  refine if_neg fun hplace => ?_
  rcases h with h | h
  · by_cases hunfitted : s.comps[n].state = .unfitted
    · rw [fittedPlace_unfitted n s hunfitted] at hplace
      cases hplace
    · exact h ((fittedPlace_fitted n s hunfitted).symm.trans hplace)
  · rw [fittedPlace_unfitted n s h] at hplace
    cases hplace

theorem writePlace_reclass {p : MapPlace} (cls : SizeClass) (hplace : s.comps[n].place = some p)
    (hfitted : s.comps[n].state ≠ .unfitted) : writePlace n (some p) cls s = reclass n cls s :=
  if_pos ((fittedPlace_fitted n s hfitted).trans hplace)

/-- A compartment that keeps its class, or stands in no list, is changed alone (R4). -/
theorem reclass_unlisted {cls : SizeClass} (h : s.comps[n].cls = cls ∨ n ∉ listOf s.comps[n].cls s.freeLists) :
    reclass n cls s = modComp n (fun c => { c with cls := cls }) s := by
  unfold reclass
  by_cases hsame : s.comps[n].cls = cls
  · rw [if_pos hsame]
    exact congrArg (fun c => setComp n c s) (by rw [← hsame])
  · rw [if_neg hsame, if_neg (h.resolve_left hsame)]

theorem not_mem_listOf_leaveFree (n : CompNo) (cls : SizeClass) (s : State) : n ∉ listOf cls (leaveFree n s).freeLists := by
  cases cls <;> exact fun h => bne_iff_ne.mp (List.mem_filter.mp h).2 rfl

/-- A listed compartment of another class moves to the tail of its new list (R4). -/
theorem reclass_listed {cls : SizeClass} (hcls : s.comps[n].cls ≠ cls) (hlisted : n ∈ listOf s.comps[n].cls s.freeLists)
    (hvacant : s.comps[n].state = .vacant) (hclosed : s.comps[n].door = .closed) (hpending : s.comps[n].pendingBar = false) :
    reclass n cls s =
      let x := modComp n (fun c => { c with cls := cls }) (leaveFree n s)
      { x with freeLists := setList cls (listOf cls x.freeLists ++ [n]) x.freeLists } := by
  have hentry : (modComp n (fun c => { c with cls := cls }) (leaveFree n s)).comps[n] =
      sealCompartment n { s.comps[n] with cls := cls } := (modComp_at n n _ _).trans (if_pos rfl)
  rw [reclass, if_neg hcls, if_pos hlisted]
  unfold joinFree
  dsimp only
  rw [hentry]
  exact if_pos ⟨hvacant, hclosed, hpending, not_mem_listOf_leaveFree n cls s⟩

/-- Settles O34. The place written decides between the fitting, the class alone and UNFITTED. -/
theorem mapWriteFitsAndUnfits : Obligations.MapWriteFitsAndUnfits := by
  intro s tag n cb cls hready htable hindex hn hcls hwritable
  have hwritable : mapWritable s.comps[n] = true := mapWritable_of hwritable
  have hfits : ∀ place : MapPlace, (s.comps[n].place ≠ some place ∨ s.comps[n].state = .unfitted) →
      (∀ m, m ≠ n → s.comps[m].place = some place → s.comps[m].state = .unfitted) →
      judgeMapWrite n (some (addressByte place.col, BitVec.ofNat 8 place.pos.val)) cb (reserve s) =
        .ok (reserve (refit n place cls s)) := fun place hother hfree => by
    rw [judgeMapWrite_placed (s := reserve s) hcls hwritable (placeTaken_of_free (s := reserve s) hfree),
      writePlace_refit (s := reserve s) cls hother, refit_reserve]
  refine ⟨fun place hother hfree => ⟨fun hmatched => ?_, fun hpresent hcount => ⟨fun hbarred => ?_, fun hbarred => ?_⟩⟩,
      fun place hplace hfitted hfree => ⟨fun hsame => ?_, fun hmoved hlisted hvacant hclosed hpending => ?_⟩, ?_⟩
  · have hrefit := refit_matched (cls := cls) (n := n) hmatched
    exact exec_writeMap hready htable hindex hn ((hfits place hother hfree).trans (congrArg (fun x => Except.ok (reserve x)) hrefit)) rfl
  · have hrefit := (refit_mismatched (cls := cls) (n := n) hpresent hcount).trans (if_pos hbarred)
    exact exec_writeMap hready htable hindex hn
      ((hfits place hother hfree).trans (congrArg (fun x => Except.ok (reserve x)) hrefit))
      (congrArg _ (hrefit ▸ refit_cursor n place cls s))
  · have hrefit := (refit_mismatched (cls := cls) (n := n) hpresent hcount).trans (if_neg hbarred)
    exact exec_writeMap hready htable hindex hn
      ((hfits place hother hfree).trans (congrArg (fun x => Except.ok (reserve x)) hrefit))
      (congrArg _ (hrefit ▸ refit_cursor n place cls s))
  · refine exec_writeMap hready htable hindex hn ?_ rfl
    rw [judgeMapWrite_placed (s := reserve s) hcls hwritable (placeTaken_of_free (s := reserve s) hfree),
      writePlace_reclass (s := reserve s) cls hplace hfitted, reclass_unlisted (s := reserve s) hsame]
    rfl
  · refine exec_writeMap hready htable hindex hn ?_ rfl
    rw [judgeMapWrite_placed (s := reserve s) hcls hwritable (placeTaken_of_free (s := reserve s) hfree),
      writePlace_reclass (s := reserve s) cls hplace hfitted,
      reclass_listed (s := reserve s) hmoved hlisted hvacant hclosed hpending]
    rfl
  · refine exec_writeMap hready htable hindex hn ?_ rfl
    rw [judgeMapWrite_unfitted (s := reserve s) hcls hwritable]
    rfl

end Sys2Proof.Machine

/-! PROOFS. The configuration record: CONFIG SET and CONFIG GET (11.2). -/

namespace Sys2Proof.Machine

open Sys2Proof.Wire

variable {s : State} {tag : Byte}

/-! ### One field (R202) -/

/-- A field stored as R202 says, in its range or at its defined value; else the record stays. -/
def fieldPut (c : ConfigRecord) (f : Byte × BitVec 16) : ConfigRecord :=
  let v := f.2.toNat
  let within := fun (low high : Nat) => if v < low then low else if high < v then high else v
  if f.1 = 0x00 then { c with inactivity := within 60 1800 }
  else if f.1 = 0x01 then { c with depositOpen := within 30 300 }
  else if f.1 = 0x02 then { c with releaseOpen := within 10 120 }
  else if f.1 = 0x03 then { c with reopen := within 0 1800 }
  else if f.1 = 0x04 ∧ v < 2 then { c with expiryScan := decide (v = 1) }
  else if f.1 = 0x05 then { c with pollInterval := within 100 1000 }
  else if f.1 = 0x06 ∧ (v = 50 ∨ v = 100 ∨ v = 400 ∨ v = 1600) then { c with wakeSettle := v }
  else if f.1 = 0x07 then { c with pulseBudget := within 1 4 }
  else if f.1 = 0x08 then { c with pulseLength := within 100 800 / 50 * 50 }
  else if f.1 = 0x09 then { c with confirm := within 500 3000 }
  else if f.1 = 0x0A then { c with ajar := within 30 600 }
  else if f.1 = 0x0B then { c with windowMin := within 0 255 }
  else if f.1 = 0x0C then { c with windowMax := within 0 255 }
  else if f.1 = 0x0D then { c with silence := within 1 10 }
  else if f.1 = 0x0E ∧ v < 2 then { c with scrubber := decide (v = 1) }
  else if f.1 = 0x0F then { c with idle := within 0 3600 }
  else c

/-- A value of an enumerated field that is none of those defined. -/
def fieldUndefined (f : Byte × BitVec 16) : Bool :=
  decide (((f.1 = 0x04 ∨ f.1 = 0x0E) ∧ 2 ≤ f.2.toNat) ∨
    (f.1 = 0x06 ∧ f.2.toNat ≠ 50 ∧ f.2.toNat ≠ 100 ∧ f.2.toNat ≠ 400 ∧ f.2.toNat ≠ 1600))

theorem clamp_eq {low high : Nat} (h : low ≤ high) (v : Nat) :
    clamp low high v = if v < low then low else if high < v then high else v := by
  rw [clamp]
  split
  · omega
  · split <;> omega

/-- A two-valued field (R202). -/
theorem two_valued {α : Type} (v : Nat) (f : Bool → α) :
    (if v = 1 then some (f true) else if v = 0 then some (f false) else none) =
      if v < 2 then some (f (decide (v = 1))) else none := by
  match v with
  | 0 | 1 => rfl
  | v + 2 => simp

theorem writeField_eq (k : Nat) (hk : k < 16) (v : BitVec 16) (c : ConfigRecord) :
    writeField k v.toNat c =
      if fieldUndefined (BitVec.ofNat 8 k, v) then none else some (fieldPut c (BitVec.ofNat 8 k, v)) := by
  match k with
  | 0 | 1 | 2 | 3 | 5 | 7 | 8 | 9 | 10 | 11 | 12 | 13 | 15 =>
    simp [writeField, fieldPut, fieldUndefined, clamp_eq]
  | 4 =>
    refine (two_valued v.toNat fun b => { c with expiryScan := b }).trans ?_
    by_cases h : v.toNat < 2 <;> simp [fieldPut, fieldUndefined, h, Nat.not_le.mpr, Nat.not_lt.mp]
  | 14 =>
    refine (two_valued v.toNat fun b => { c with scrubber := b }).trans ?_
    by_cases h : v.toNat < 2 <;> simp [fieldPut, fieldUndefined, h, Nat.not_le.mpr]
  | 6 =>
    by_cases h : v.toNat = 50 ∨ v.toNat = 100 ∨ v.toNat = 400 ∨ v.toNat = 1600
    · simp only [writeField, fieldPut, fieldUndefined, List.mem_cons, List.not_mem_nil, or_false, h]
      simp
      omega
    · simp only [writeField, fieldPut, fieldUndefined, List.mem_cons, List.not_mem_nil, or_false, h]
      simp
      omega
  | k + 16 => omega

theorem writeField_octet {b : Byte} (hb : b.toNat < 16) (v : BitVec 16) (c : ConfigRecord) :
    writeField b.toNat v.toNat c = if fieldUndefined (b, v) then none else some (fieldPut c (b, v)) := by
  have h := writeField_eq b.toNat hb v c
  rwa [BitVec.ofNat_toNat, BitVec.setWidth_eq] at h

theorem fieldPut_undefined {f : Byte × BitVec 16} (h : fieldUndefined f = true) (c : ConfigRecord) : fieldPut c f = c := by
  obtain ⟨b, v⟩ := f
  rcases of_decide_eq_true h with ⟨rfl | rfl, hv⟩ | ⟨rfl, h50, h100, h400, h1600⟩
  · simp [fieldPut, Nat.not_lt.mpr hv]
  · simp [fieldPut, Nat.not_lt.mpr hv]
  · simp [fieldPut, h50, h100, h400, h1600]

/-- The pairs stored one behind the other, and those not stored (R202). -/
theorem writeFields_eq {fs : List (Byte × BitVec 16)} (h : ∀ f ∈ fs, f.1.toNat ≤ 16) (c : ConfigRecord) :
    writeFields fs c = (fs.foldl fieldPut c, (fs.filter fieldUndefined).map (fun f => f.1.toNat)) := by
  induction fs using List.reverseRecOn with
  | nil => rfl
  | append_singleton fs f ih =>
    obtain ⟨b, v⟩ := f
    have ih := ih fun f hf => h f (List.mem_append_left _ hf)
    unfold writeFields at ih ⊢
    rw [List.foldl_append, ih, List.foldl_append, List.filter_append, List.foldl_cons, List.foldl_nil, List.foldl_cons,
      List.foldl_nil]
    by_cases hb : b.toNat = 16
    · obtain rfl : b = 16 := BitVec.eq_of_toNat_eq hb
      exact congrArg (fun l => (_, l)) (by rw [List.filter_cons_of_neg (show ¬ fieldUndefined (16, v) = true from Bool.false_ne_true), List.filter_nil, List.append_nil])
    · have hb16 : b.toNat < 16 := Nat.lt_of_le_of_ne (h (b, v) (by simp)) hb
      rw [if_neg hb, writeField_octet hb16]
      cases hu : fieldUndefined (b, v) with
      | true =>
        rw [List.filter_cons_of_pos hu, fieldPut_undefined hu, List.map_append]
        rfl
      | false =>
        rw [List.filter_cons_of_neg (by simp [hu]), List.filter_nil, List.append_nil]
        rfl

/-! ### CONFIG SET and CONFIG GET (R202, R203) -/

/-- The idle timer restarts at a new idle time, and the arbiter looks over its list at a raised budget. -/
def configUsed (before r : ConfigRecord) (d : Dormancy) (s : State) : State :=
  let idle := if before.idle ≠ r.idle then { s with dormancy := { d with idle := r.idle } } else s
  if before.pulseBudget < r.pulseBudget then lookOver idle else idle

theorem configUsed_eq (before : ConfigRecord) (s : State) :
    (if before.pulseBudget < (cfg (if before.idle ≠ (cfg s).idle then restartIdle s else s)).pulseBudget then
      lookOver (if before.idle ≠ (cfg s).idle then restartIdle s else s)
    else if before.idle ≠ (cfg s).idle then restartIdle s else s) = configUsed before s.mgmt.config s.dormancy s := by
  have hcfg : cfg (if before.idle ≠ (cfg s).idle then restartIdle s else s) = s.mgmt.config := by split <;> rfl
  rw [hcfg]
  rfl

theorem configChanged_eq (before : ConfigRecord) (s : State) : configChanged before s =
    configUsed before s.mgmt.config s.dormancy (if before.expiryScan = true ∧ s.mgmt.config.expiryScan = false then
      setScanner { s.returns.scanner with due := false } s else s) := by
  have hscan : ((before.expiryScan && !(cfg s).expiryScan) = true) =
      (before.expiryScan = true ∧ s.mgmt.config.expiryScan = false) := by
    rw [Bool.and_eq_true, Bool.not_eq_true']
    rfl
  have hcfg : (if before.expiryScan = true ∧ s.mgmt.config.expiryScan = false then
      setScanner { s.returns.scanner with due := false } s else s).mgmt.config = s.mgmt.config := by split <;> rfl
  have hdormancy : (if before.expiryScan = true ∧ s.mgmt.config.expiryScan = false then
      setScanner { s.returns.scanner with due := false } s else s).dormancy = s.dormancy := by split <;> rfl
  unfold configChanged
  dsimp only
  simp only [hscan]
  rw [configUsed_eq, hcfg, hdormancy]

/-- The changes reach their users, and a scrubber position the scrubber (R102, R150, R191, R209). -/
theorem takeConfigSet_taken {fs : List (Byte × BitVec 16)} (hnamed : ∀ f ∈ fs, f.1.toNat ≤ 16)
    (honce : (fs.map Prod.fst).Nodup) (r : Request) (s : State) :
    takeConfigSet (headerOf tag .office r) fs s =
      answer (headerOf tag .office r)
        (configSetReport (fs.foldl fieldPut s.mgmt.config) ((fs.filter fieldUndefined).map (fun f => f.1.toNat)))
        (((scrubPosition fs).map placeScrubber).getD id
          (configChanged s.mgmt.config (modConfig (fun _ => fs.foldl fieldPut s.mgmt.config) s))) := by
  have hallowed : (fs.all fieldNamed && namedOnce fs) = true :=
    Bool.and_eq_true_iff.mpr ⟨List.all_eq_true.mpr fun f hf => decide_eq_true (hnamed f hf), decide_eq_true honce⟩
  rw [takeConfigSet, fromOffice_office, if_pos hallowed]
  dsimp only
  rw [show (cfg s) = s.mgmt.config from rfl, writeFields_eq hnamed]
  cases scrubPosition fs <;> rfl

theorem takeConfigSet_refused {fs : List (Byte × BitVec 16)} (h : (∃ f ∈ fs, 16 < f.1.toNat) ∨ ¬ (fs.map Prod.fst).Nodup)
    (r : Request) (s : State) :
    takeConfigSet (headerOf tag .office r) fs s = refuse (headerOf tag .office r) .badField s := by
  refine if_neg fun hc => ?_
  obtain ⟨hnamed, honce⟩ := Bool.and_eq_true_iff.mp hc
  rcases h with ⟨f, hf, hbig⟩ | htwice
  · exact Nat.not_le.mpr hbig (of_decide_eq_true (List.all_eq_true.mp hnamed f hf))
  · exact htwice (of_decide_eq_true honce)

/-- Settles O35. The pairs are stored one behind the other, then each change reaches its user. -/
theorem configSetStoresWithinTheRange : Obligations.ConfigSetStoresWithinTheRange := by
  refine fun s tag hready => ⟨?_, fun fs hlo hhi => ⟨fun hnamed honce => ?_, fun hbad => ?_⟩⟩
  · refine exec_office (r := .configGet) rfl hready rfl rfl ?_
    exact answer_reserve _ _ s
  · refine exec_office (r := .configSet fs) rfl hready
      (Bool.and_eq_true_iff.mpr ⟨decide_eq_true hlo, decide_eq_true hhi⟩) rfl ?_
    refine (takeConfigSet_taken hnamed honce _ _).trans ?_
    have hposition : scrubPosition fs = (fs.find? (fun f => f.1 == 0x10#8)).map (fun f => f.2.toNat) := by
      refine congrArg (fun p => (fs.find? p).map _) (funext fun f => ?_)
      rw [Bool.eq_iff_iff, beq_iff_eq, beq_iff_eq]
      exact ⟨fun h => BitVec.eq_of_toNat_eq h, congrArg BitVec.toNat⟩
    rw [configChanged_eq, hposition]
    cases fs.find? (fun f => f.1 == 0x10#8) <;> rfl
  · refine exec_office (r := .configSet fs) rfl hready
      (Bool.and_eq_true_iff.mpr ⟨decide_eq_true hlo, decide_eq_true hhi⟩) rfl ?_
    exact (takeConfigSet_refused hbad _ _).trans (refuse_reserve _ (by decide) s)

end Sys2Proof.Machine

/-! PROOFS. The hold and the broadcasts of the operation queue (7.4, 7.8). -/

namespace Sys2Proof.Machine

open Sys2Proof.Wire

variable {s : State} {tag : Byte}

/-! ### A full queue (R131) -/

theorem takeNewestRelay_none {l : List Op} (h : ∀ op ∈ l, isRelay op = false) : takeNewestRelay l = none := by
  induction l with
  | nil => rfl
  | cons op l ih =>
    rw [takeNewestRelay, ih fun o ho => h o (List.mem_cons_of_mem _ ho)]
    exact if_neg (by rw [h op (List.mem_cons_self ..)]; exact Bool.false_ne_true)

theorem takeNewestRelay_some {op : Op} {before after : List Op} (hop : isRelay op = true)
    (hafter : ∀ o ∈ after, isRelay o = false) :
    takeNewestRelay (before ++ op :: after) = some (op, before ++ after) := by
  induction before with
  | nil =>
    rw [List.nil_append, takeNewestRelay, takeNewestRelay_none hafter]
    exact if_pos hop
  | cons o before ih => rw [List.cons_append, takeNewestRelay, ih]; rfl

theorem enqueueOp_full {op r : Op} {rest : List Op} (hfull : 16 ≤ s.bus.queue.length)
    (hnewest : takeNewestRelay s.bus.queue = some (r, rest)) :
    enqueueOp op s = answerRelay .congested r { s with bus := { s.bus with queue := rest ++ [op] } } := by
  rw [enqueueOp, if_neg (Nat.not_lt.mpr hfull), hnewest]

theorem enqueueOp_overflow {op : Op} (hfull : 16 ≤ s.bus.queue.length) (hnewest : takeNewestRelay s.bus.queue = none) :
    enqueueOp op s = { s with bus := { s.bus with overflow := s.bus.overflow ++ [op] } } := by
  rw [enqueueOp, if_neg (Nat.not_lt.mpr hfull), hnewest]

/-! ### A broadcast joins (R131) -/

/-- The operation queue that a broadcast meets: a WAKE_ALL first removes a queued SLEEP_ALL. -/
def broadcastBus (b : Broadcast) (s : State) : State :=
  if b = .wakeAll then dropOps (fun o => o == .broadcast .sleepAll) s else s

theorem broadcastBus_eq (b : Broadcast) (s : State) : broadcastBus b s = { s with bus :=
    if b = .wakeAll then
      let kept := s.bus.queue.filter (fun op => op != .broadcast .sleepAll)
      let held := s.bus.overflow.filter (fun op => op != .broadcast .sleepAll)
      { s.bus with queue := kept ++ held.take (16 - kept.length), overflow := held.drop (16 - kept.length) }
    else s.bus } := by
  unfold broadcastBus
  split <;> rfl

theorem enqueueBroadcast_queued {b : Broadcast}
    (h : .broadcast b ∈ (broadcastBus b s).bus.queue ++ (broadcastBus b s).bus.overflow) :
    enqueueBroadcast b s = broadcastBus b s := by
  refine if_pos ?_
  rw [Bool.or_eq_true, List.contains_iff_mem, List.contains_iff_mem]
  exact List.mem_append.mp h

theorem enqueueBroadcast_joins {b : Broadcast}
    (h : .broadcast b ∉ (broadcastBus b s).bus.queue ++ (broadcastBus b s).bus.overflow) :
    enqueueBroadcast b s = enqueueOp (.broadcast b) (broadcastBus b s) := by
  refine if_neg ?_
  rw [Bool.or_eq_true, List.contains_iff_mem, List.contains_iff_mem]
  exact mt List.mem_append.mpr h

theorem dropOps_sameBut (p : Op → Bool) (s : State) : SameBut s (dropOps p s) := rfl

theorem enqueueBroadcast_sameBut (b : Broadcast) (s : State) : SameBut s (enqueueBroadcast b s) := by
  have hbus : SameBut s (broadcastBus b s) := by
    unfold broadcastBus
    split
    · exact dropOps_sameBut _ s
    · exact SameBut.refl s
  by_cases h : .broadcast b ∈ (broadcastBus b s).bus.queue ++ (broadcastBus b s).bus.overflow
  · rwa [enqueueBroadcast_queued h]
  · rw [enqueueBroadcast_joins h]
    exact (enqueueOp_sameBut _ _).after hbus

theorem placeReply_arbiter (r : Reply) (s : State) : (placeReply r s).arbiter = s.arbiter := by
  rcases placeReply_cases r s with ⟨-, h⟩ | ⟨-, h⟩ <;> rw [h]

theorem answerRelay_arbiter (c : ReplyCode) (op : Op) (s : State) : (answerRelay c op s).arbiter = s.arbiter := by
  cases op with
  | relay _ _ _ tag origin => exact placeReply_arbiter _ s
  | _ => rfl

theorem enqueueOp_arbiter (op : Op) (s : State) : (enqueueOp op s).arbiter = s.arbiter := by
  unfold enqueueOp
  split
  · rfl
  · split
    · exact answerRelay_arbiter _ _ _
    · rfl

theorem enqueueBroadcast_arbiter (b : Broadcast) (s : State) : (enqueueBroadcast b s).arbiter = s.arbiter := by
  have hbus : (broadcastBus b s).arbiter = s.arbiter := by
    unfold broadcastBus
    split <;> rfl
  by_cases h : .broadcast b ∈ (broadcastBus b s).bus.queue ++ (broadcastBus b s).bus.overflow
  · rwa [enqueueBroadcast_queued h]
  · rwa [enqueueBroadcast_joins h, enqueueOp_arbiter]

/-! ### The onset calls the pulses back (R148) -/

/-- A PULSE on the bus is called back behind its attempt. -/
def recallUse (u : BusUse) : BusUse :=
  match u with
  | .attempt x => .attempt { x with recalled := x.recalled || (pulseComp x.op).isSome }
  | u => u

/-- The bus without the PULSEs queued, held back or between two attempts. -/
def recalledBus (b : ColumnBus) : ColumnBus :=
  let kept := b.queue.filter (fun op => (pulseComp op).isNone)
  let held := b.overflow.filter (fun op => (pulseComp op).isNone)
  { b with
    queue := kept ++ held.take (16 - kept.length)
    overflow := held.drop (16 - kept.length)
    retry := if (b.retry.bind (fun r => pulseComp r.exchange.op)).toList = [] then b.retry else none
    use := recallUse b.use }

theorem dropOps_pulses (s : State) : dropOps isPulse s =
    { s with bus := refill { s.bus with
        queue := s.bus.queue.filter (fun op => (pulseComp op).isNone)
        overflow := s.bus.overflow.filter (fun op => (pulseComp op).isNone) } } := by
  have hnot : (fun o => !isPulse o) = fun op => (pulseComp op).isNone :=
    funext fun op => by rw [isPulse, Option.not_isSome]
  rw [dropOps, hnot]

theorem recallUse_attempt_pulse {x : Exchange} (h : isPulse x.op = true) :
    recallUse (.attempt x) = .attempt { x with recalled := true } := by
  rw [recallUse, show (pulseComp x.op).isSome = true from h, Bool.or_true]

theorem recallUse_attempt_other {x : Exchange} (h : isPulse x.op = false) : recallUse (.attempt x) = .attempt x := by
  rw [recallUse, show (pulseComp x.op).isSome = false from h, Bool.or_false]

/-- The PULSE on the bus is called back after its attempt (R148). -/
def calledBack (s : State) : State :=
  match s.bus.use with
  | .attempt x => if isPulse x.op then setUse (.attempt { x with recalled := true }) s else s
  | _ => s

theorem calledBack_eq (s : State) : calledBack s = setUse (recallUse s.bus.use) s := by
  unfold calledBack
  cases huse : s.bus.use with
  | attempt x =>
    cases hpulse : isPulse x.op with
    | true => rw [recallUse_attempt_pulse hpulse]; exact if_pos hpulse
    | false =>
      refine (if_neg (c := isPulse x.op = true) (by rw [hpulse]; exact Bool.false_ne_true)).trans ?_
      rw [recallUse_attempt_other hpulse, ← huse]
      rfl
  | _ => exact congrArg (fun u => setUse u s) huse

/-- A retry that is a PULSE goes with the rest. -/
def retryRecalled (s : State) : State :=
  if (s.bus.retry.bind (fun r => pulseComp r.exchange.op)).toList = [] then dropOps isPulse s
  else setRetry none (dropOps isPulse s)

theorem retryRecalled_eq (s : State) : setUse (recallUse (retryRecalled s).bus.use) (retryRecalled s) =
    { s with bus := recalledBus s.bus } := by
  unfold retryRecalled recalledBus
  dsimp only
  rw [dropOps_pulses]
  split <;> rfl

theorem recallPulses_eq (s : State) : recallPulses s =
    ((s.bus.queue ++ s.bus.overflow).filterMap pulseComp ++
      (s.bus.retry.bind (fun r => pulseComp r.exchange.op)).toList).foldl (fun y n => takeBack n y)
        { s with bus := recalledBus s.bus } :=
  congrArg (List.foldl _ · _) ((calledBack_eq (retryRecalled s)).trans (retryRecalled_eq s))

/-! ### A change of the hold's sources (R148, R149, R211) -/

/-- A wake cause leaves the arbiter, and what it sees of the hold, as they are. -/
theorem wakeCause_sees (s : State) :
    (wakeCause s).arbiter = s.arbiter ∧ (wakeCause s).lines = s.lines ∧ (wakeCause s).mgmt = s.mgmt := by
  unfold wakeCause
  split
  · refine ⟨enqueueBroadcast_arbiter _ _, ?_, ?_⟩ <;> rw [enqueueBroadcast_sameBut] <;> rfl
  · exact ⟨rfl, rfl, rfl⟩

theorem judgeHold_onset {src : HoldSource} (hwanted : holdWanted s = true) (hactive : s.arbiter.holdActive = false) :
    judgeHold src s = holdOnset src s := by
  rw [judgeHold, hwanted, hactive]

theorem judgeHold_release {src : HoldSource} (hwanted : holdWanted s = false) (hactive : s.arbiter.holdActive = true) :
    judgeHold src s = holdRelease src s := by
  rw [judgeHold, hwanted, hactive]

theorem judgeHold_stands {src : HoldSource} (h : holdWanted s = s.arbiter.holdActive) : judgeHold src s = s := by
  unfold judgeHold
  rw [h]
  cases s.arbiter.holdActive <;> rfl

/-- A changed flag is a wake cause, then judged (R204). -/
theorem requestHold_changed {level : Bool} (h : s.mgmt.config.hold ≠ level) :
    requestHold level s = judgeHold .office (wakeCause (modConfig (fun c => { c with hold := level }) s)) := if_neg h

theorem senseHold_changed {level : Bool} (h : s.lines.hold ≠ level) :
    senseHold level s = judgeHold .line (wakeCause { s with lines := { s.lines with hold := level } }) := if_neg h

theorem holdWanted_wakeCause (s : State) : holdWanted (wakeCause s) = holdWanted s := by
  obtain ⟨-, hlines, hmgmt⟩ := wakeCause_sees s
  rw [holdWanted, hlines, cfg, hmgmt]
  rfl

theorem holdActive_wakeCause (s : State) : (wakeCause s).arbiter.holdActive = s.arbiter.holdActive := by
  rw [(wakeCause_sees s).1]

theorem exec_hold {x : State} (hready : Ready s) (hx : requestHold true (reserve s) = x) :
    exec (.hold tag (originOctet .office)) s = .next (settle (filled tag (originOctet .office) [0x37, 0x00] x)) := by
  subst hx
  exact exec_office (r := .hold) rfl hready rfl rfl rfl

theorem exec_unhold {x : State} (hready : Ready s) (hx : requestHold false (reserve s) = x) :
    exec (.unhold tag (originOctet .office)) s = .next (settle (filled tag (originOctet .office) [0x38, 0x00] x)) := by
  subst hx
  exact exec_office (r := .unhold) rfl hready rfl rfl rfl

/-- The onset, with what it calls back (R148). -/
theorem holdOnset_eq (src : HoldSource) (s : State) : holdOnset src s =
    stopSweep .hold (count .holds (raise (.hold true src) (enqueueBroadcast .holdAll
      (((s.bus.queue ++ s.bus.overflow).filterMap pulseComp ++
        (s.bus.retry.bind (fun r => pulseComp r.exchange.op)).toList).foldl (fun y n => takeBack n y)
          { s with arbiter := { s.arbiter with holdActive := true }, bus := recalledBus s.bus })))) := by
  rw [holdOnset, recallPulses_eq]
  rfl

theorem holdLine_running {level : Bool} {x : State} (hrun : running s = true) (hx : senseHold level s = x) :
    holdLine level s = .next (conclude x) :=
  (if_pos hrun).trans (act_eq hrun hx)

/-- Settles O36. A change is judged by the sources that stand behind it; a broadcast by the room it meets. -/
theorem holdFollowsLineAndFlag : Obligations.HoldFollowsLineAndFlag := by
  refine fun s tag => ⟨fun hready => ⟨fun hflag => ?_, fun hflag hactive => ?_, fun hflag hactive => ?_, fun hflag => ?_,
      fun hflag hactive hline => ?_, fun hflag hactive hline => ?_⟩,
    fun hrun => ⟨fun hline hactive => ?_, fun hline hactive => ?_, fun hline hactive hflag => ?_,
      fun hline hactive hflag => ?_⟩,
    fun b => ⟨fun hqueued => ?_, fun hqueued => ⟨fun hroom => ?_, fun hfull hrelay => ?_,
      fun before after c kind message tag o hfull hqueue hrelay => ?_⟩⟩⟩
  · exact exec_hold hready (if_pos hflag)
  · have hactive : (reserve s).arbiter.holdActive = true := hactive
    refine exec_hold hready ?_
    rw [requestHold_changed (by rw [show (reserve s).mgmt.config.hold = false from hflag]; decide), judgeHold_stands]
    · rfl
    · rw [holdWanted_wakeCause, holdActive_wakeCause]
      exact (Bool.or_true _).trans hactive.symm
  · have hactive : (reserve s).arbiter.holdActive = false := hactive
    refine exec_hold hready ?_
    rw [requestHold_changed (by rw [show (reserve s).mgmt.config.hold = false from hflag]; decide), judgeHold_onset,
      holdOnset_eq]
    · rfl
    · exact (holdWanted_wakeCause _).trans (Bool.or_true _)
    · exact (holdActive_wakeCause _).trans hactive
  · exact exec_unhold hready (if_pos hflag)
  · have hactive : (reserve s).arbiter.holdActive = true := hactive
    have hline : (reserve s).lines.hold = true := hline
    refine exec_unhold hready ?_
    rw [requestHold_changed (by rw [show (reserve s).mgmt.config.hold = true from hflag]; decide), judgeHold_stands]
    · rfl
    · rw [holdWanted_wakeCause, holdActive_wakeCause]
      exact (congrArg (· || false) hline).trans hactive.symm
  · have hactive : (reserve s).arbiter.holdActive = true := hactive
    have hline : (reserve s).lines.hold = false := hline
    refine exec_unhold hready ?_
    rw [requestHold_changed (by rw [show (reserve s).mgmt.config.hold = true from hflag]; decide), judgeHold_release]
    · rfl
    · exact (holdWanted_wakeCause _).trans (congrArg (· || false) hline)
    · exact (holdActive_wakeCause _).trans hactive
  · refine holdLine_running hrun ?_
    rw [senseHold_changed (by rw [hline]; decide), judgeHold_onset, holdOnset_eq]
    · rfl
    · exact (holdWanted_wakeCause _).trans (Bool.true_or _)
    · exact (holdActive_wakeCause _).trans hactive
  · refine holdLine_running hrun ?_
    rw [senseHold_changed (by rw [hline]; decide), judgeHold_stands]
    · rfl
    · rw [holdWanted_wakeCause, holdActive_wakeCause]
      exact (Bool.true_or _).trans hactive.symm
  · refine holdLine_running hrun ?_
    rw [senseHold_changed (by rw [hline]; decide), judgeHold_release]
    · rfl
    · exact (holdWanted_wakeCause _).trans hflag
    · exact (holdActive_wakeCause _).trans hactive
  · refine holdLine_running hrun ?_
    rw [senseHold_changed (by rw [hline]; decide), judgeHold_stands]
    · rfl
    · rw [holdWanted_wakeCause, holdActive_wakeCause]
      exact hflag.trans hactive.symm
  · exact (enqueueBroadcast_queued (by rw [broadcastBus_eq]; exact hqueued)).trans (broadcastBus_eq b s)
  · rw [enqueueBroadcast_joins (by rw [broadcastBus_eq]; exact hqueued), broadcastBus_eq]
    exact enqueueOp_of_room hroom
  · rw [enqueueBroadcast_joins (by rw [broadcastBus_eq]; exact hqueued), broadcastBus_eq]
    exact enqueueOp_overflow hfull (takeNewestRelay_none hrelay)
  · rw [enqueueBroadcast_joins (by rw [broadcastBus_eq]; exact hqueued), broadcastBus_eq]
    refine enqueueOp_full (r := .relay c kind message tag o) (rest := before ++ after) hfull ?_
    exact (congrArg takeNewestRelay hqueue).trans (takeNewestRelay_some rfl hrelay)

end Sys2Proof.Machine

/-! PROOFS. The request FIFO's refusals and the transmitter (9.3, 9.4). -/

namespace Sys2Proof.Wire

variable {f : List Byte} {kind : Byte} {table : TableId}

/-! ### Which kinds are of a class (R178) -/

theorem read0_known (r : Request) (f : List Byte) : read0 r f ≠ .unknownKind := by
  unfold read0
  split <;> exact nofun

theorem read1_known (k : Byte → Request) (f : List Byte) : read1 k f ≠ .unknownKind := by
  unfold read1
  split <;> exact nofun

theorem read4_known (k : BitVec 32 → Request) (f : List Byte) : read4 k f ≠ .unknownKind := by
  unfold read4
  split <;> exact nofun

theorem readPlan_known (f : List Byte) : readPlan f ≠ .unknownKind := by
  have htail : ∀ a b c d e g l, readPlanTail a b c d e g l ≠ .unknownKind := by
    intro a b c d e g l
    unfold readPlanTail
    repeat' split
    all_goals exact nofun
  unfold readPlan
  split
  · exact htail _ _ _ _ _ _ _
  · exact nofun

theorem readWrite_known (table : TableId) (f : List Byte) : readWrite table f ≠ .unknownKind := by
  unfold readWrite
  repeat' split
  all_goals first | exact readPlan_known f | exact nofun

theorem readRequestClass_known (hlo : 0x01 ≤ kind.toNat) (hhi : kind.toNat ≤ 0x0C) :
    readRequestClass kind f ≠ .unknownKind := by
  unfold readRequestClass
  split
  case h_13 => simp only [imp_false] at *; omega
  case h_7 | h_11 | h_12 => repeat' split
                            all_goals exact nofun
  all_goals first | exact read0_known _ _ | exact read4_known _ _

theorem readMgmtClass_known (hlo : 0x20 ≤ kind.toNat) (hhi : kind.toNat ≤ 0x3C) :
    readMgmtClass table kind f ≠ .unknownKind := by
  unfold readMgmtClass
  split
  case h_30 => simp only [imp_false] at *; omega
  case h_21 => exact readWrite_known _ _
  case h_1 | h_3 | h_4 | h_6 | h_17 | h_19 | h_22 | h_26 | h_27 =>
    split <;> exact nofun
  all_goals first | exact read0_known _ _ | exact read1_known _ _ | exact read4_known _ _

theorem readRequestClass_unknown (h : ¬ (0x01 ≤ kind.toNat ∧ kind.toNat ≤ 0x0C)) :
    readRequestClass kind f = .unknownKind := by
  unfold readRequestClass
  split <;> first | rfl | omega

theorem readMgmtClass_unknown (h : ¬ (0x20 ≤ kind.toNat ∧ kind.toNat ≤ 0x3C)) :
    readMgmtClass table kind f = .unknownKind := by
  unfold readMgmtClass
  split <;> first | rfl | omega

end Sys2Proof.Wire

namespace Sys2Proof.Machine

open Sys2Proof.Wire

variable {s : State} {e : FifoEntry}

/-! ### The FIFO and the hand-off (R176, R178, R218) -/

theorem origin_of_octet {o : Byte} (h : o.toNat < 4 ∨ o = 0x0F) : ∃ x, origin? o = some x := by
  rcases h with h | rfl
  · exact ⟨.terminal ⟨o.toNat, h⟩, dif_pos h⟩
  · exact ⟨.office, rfl⟩

/-- The kinds of each class (R178). -/
theorem readBody_unknown {cls : FrameClass} {kind : Byte} {fields : List Byte} {table : TableId}
    (h : ¬ match cls with
      | .request => 0x01 ≤ kind.toNat ∧ kind.toNat ≤ 0x0C
      | .mgmt => 0x20 ≤ kind.toNat ∧ kind.toNat ≤ 0x3C) : readBody table cls (kind :: fields) = .unknownKind := by
  cases cls with
  | request => exact readRequestClass_unknown h
  | mgmt => exact readMgmtClass_unknown h

theorem readBody_known {cls : FrameClass} {kind : Byte} {fields : List Byte} {table : TableId}
    (h : match cls with
      | .request => 0x01 ≤ kind.toNat ∧ kind.toNat ≤ 0x0C
      | .mgmt => 0x20 ≤ kind.toNat ∧ kind.toNat ≤ 0x3C) : readBody table cls (kind :: fields) ≠ .unknownKind := by
  cases cls with
  | request => exact readRequestClass_known h.1 h.2
  | mgmt => exact readMgmtClass_known h.1 h.2

theorem takeEntry_unknown {x : Origin} (ho : origin? e.origin = some x)
    (h : readBody s.mgmt.cursor.table e.cls e.body = .unknownKind) :
    takeEntry e s = placeReply (rawReply e .unknownRequest) s := by
  rw [takeEntry, ho]
  dsimp only
  rw [h]

theorem takeEntry_malformed {x : Origin} (ho : origin? e.origin = some x)
    (h : readBody s.mgmt.cursor.table e.cls e.body = .malformed) :
    takeEntry e s = placeReply (rawReply e .badField) s := by
  rw [takeEntry, ho]
  dsimp only
  rw [h]

/-- Settles O40. A body that reads back as a request is that request's octets, so any other of a known kind is malformed. -/
theorem linkInterfaceRefusesWhatItCannotHandOff : Obligations.LinkInterfaceRefusesWhatItCannotHandOff := by
  refine fun s e => ⟨fun hroom => if_pos hroom, fun hfull hplace => ?_, fun hfull hplace => ?_, fun kind fields hbody =>
    ⟨fun hlow hoffice => ?_, fun horigin => ⟨fun hunknown => ?_, fun hknown hlen hnone => ?_⟩⟩⟩
  · exact (if_neg (Nat.not_lt.mpr hfull)).trans (if_pos hplace)
  · exact (if_neg (Nat.not_lt.mpr hfull)).trans (if_neg (Nat.not_lt.mpr hplace))
  · rw [takeEntry, origin_none hlow hoffice]
    dsimp only
    rw [rawReply, hbody]
    rfl
  · obtain ⟨x, ho⟩ := origin_of_octet horigin
    rw [takeEntry_unknown ho (by rw [hbody]; exact readBody_unknown hunknown), rawReply, hbody]
    rfl
  · obtain ⟨x, ho⟩ := origin_of_octet horigin
    have hmalformed : readBody s.mgmt.cursor.table e.cls e.body = .malformed := by
      cases hread : readBody s.mgmt.cursor.table e.cls e.body with
      | unknownKind =>
        rw [hbody] at hread
        exact absurd hread (readBody_known hknown)
      | malformed => rfl
      | request r =>
        obtain ⟨hoctets, hcls, hwell, hfits⟩ := requestBodyReadsBack.2 _ _ _ r hlen hread
        exact absurd hoctets (hnone r hwell hfits hcls)
    rw [takeEntry_malformed ho hmalformed, rawReply, hbody]
    rfl

/-! ### The transmitter (R180, R181, R185) -/

/-- The class chosen is the highest that is pending and unmasked (R185). -/
theorem nextClass_of_highest {c : NoticeClass} (hpending : s.notices.classes[classIndex c].pending = true)
    (hmasked : s.notices.classes[classIndex c].masked = false)
    (hhigher : ∀ i : Fin 12, i < classIndex c →
      s.notices.classes[i].pending = false ∨ s.notices.classes[i].masked = true) :
    allClasses.find? (sendable s) = some c := by
  have hlow : ∀ i : Fin 12, i < classIndex c → (s.notices.classes[i].pending && !s.notices.classes[i].masked) = false := by
    intro i hi
    rcases hhigher i hi with h | h
    · rw [h, Bool.false_and]
    · rw [h, Bool.not_true, Bool.and_false]
  have hfirst := find?_finRange_eq_some (p := fun i => s.notices.classes[i].pending && !s.notices.classes[i].masked)
    (i := classIndex c) (by rw [hpending, hmasked]; rfl) hlow
  have hclasses : List.finRange 12 = allClasses.map classIndex := by decide
  rw [hclasses, List.find?_map] at hfirst
  exact Option.map_injective classIndex_injective hfirst

theorem nextNotice_of_highest {c : NoticeClass} {d : Detail} {rest : List Detail}
    (hclass : allClasses.find? (sendable s) = some c) (hdetails : s.notices.classes[classIndex c].details = d :: rest) :
    nextNotice s = some (c, d) := by
  have hdetails : (classQueue c s).details = d :: rest := hdetails
  rw [nextNotice, hclass, Option.bind_some, hdetails]
  rfl

theorem chooseTx_busy (h : s.link.tx ≠ .idle) : chooseTx s = s := by
  unfold chooseTx
  cases htx : s.link.tx with
  | idle => exact absurd htx h
  | _ => rfl

theorem chooseTx_reply {r : Reply} {rest : List Reply} (htx : s.link.tx = .idle) (h : s.link.replies = r :: rest) :
    chooseTx s = setTx (.reply (replyFrame r)) s := by
  unfold chooseTx
  rw [htx]
  dsimp only
  rw [h]

theorem chooseTx_noReply (htx : s.link.tx = .idle) (h : s.link.replies = []) {x : State}
    (hx : s.link.state = .up → (nextNotice s = none ∧ x = s) ∨
      ∃ c d, nextNotice s = some (c, d) ∧ x = setTx (.notice (noticeFrame d)) (setOnLine (some c) s))
    (hdown : s.link.state ≠ .up → x = s) : chooseTx s = x := by
  unfold chooseTx
  rw [htx]
  dsimp only
  rw [h]
  dsimp only
  by_cases hup : s.link.state = .up
  · rw [if_pos hup]
    rcases hx hup with ⟨hnone, rfl⟩ | ⟨c, d, hsome, rfl⟩
    · rw [hnone]
    · rw [hsome]
  · rw [if_neg hup, hdown hup]

theorem replySent_idle (h : ∀ b, s.link.tx ≠ .reply b) : replySent s = s := by
  unfold replySent
  cases htx : s.link.tx with
  | reply b => exact absurd htx (h b)
  | _ => rfl

theorem noticeSent_idle (h : ∀ b, s.link.tx ≠ .notice b) : noticeSent s = s := by
  unfold noticeSent
  cases htx : s.link.tx with
  | notice b => exact absurd htx (h b)
  | _ => rfl

/-- Settles O41. The choice goes by what is on the line, the replies, the link state and the classes; a completion by
what is on the line. -/
theorem transmitterChoosesAndCompletes : Obligations.TransmitterChoosesAndCompletes := by
  refine ⟨fun s => ⟨chooseTx_busy, fun r rest htx hreplies => chooseTx_reply htx hreplies, fun htx hreplies hdown => ?_,
    fun c d rest htx hreplies hup hpending hmasked hdetails hhigher => ?_⟩,
    fun s hrun => ⟨fun b htx => act_eq hrun ?_, fun htx => act_eq hrun (replySent_idle htx),
      fun b c htx honLine => act_eq hrun ?_, fun htx => act_eq hrun (noticeSent_idle htx)⟩⟩
  · exact chooseTx_noReply htx hreplies (fun hup => absurd hup hdown) fun _ => rfl
  · exact chooseTx_noReply htx hreplies
      (fun _ => .inr ⟨c, d, nextNotice_of_highest (nextClass_of_highest hpending hmasked hhigher) hdetails, rfl⟩)
      fun hdown => absurd hup hdown
  · rw [replySent, htx]
  · rw [noticeSent, htx]
    dsimp only
    rw [honLine]
    rfl

end Sys2Proof.Machine

/-! PROOFS. The receiver, the runs and the link state (9.1, 9.2). -/

namespace Sys2Proof.Machine

open Sys2Proof.Wire

variable {s x : State}

/-! ### The link state (R172, R173, R181) -/

/-- A notice on the line of a link that is UP, which a LOST link cuts. -/
def NoticeCut (s : State) : Prop := s.link.state = .up ∧ ∃ b, s.link.tx = .notice b

/-- The link is LOST, whatever is on the line. -/
def lostLink (s : State) : State := { s with link := { s.link with state := .lost } }

/-- The notice on the line is cut off. -/
def noticeOff (s : State) : State :=
  { s with link := { s.link with tx := .idle }, notices := { s.notices with onLine := none } }

theorem cutNotice_notice {b : List Byte} (h : s.link.tx = .notice b) : cutNotice s = noticeOff s := by
  rw [cutNotice, h]
  rfl

theorem cutNotice_other (h : ∀ b, s.link.tx ≠ .notice b) : cutNotice s = s := by
  unfold cutNotice
  cases htx : s.link.tx with
  | notice b => exact absurd htx (h b)
  | _ => rfl

theorem moveLink_lost (s : State) : moveLink .lost s =
    if s.link.state = .lost then s else if s.link.state = .up then cutNotice (lostLink s) else lostLink s := by
  unfold moveLink
  dsimp only
  by_cases h : s.link.state = .lost
  · rw [if_pos h, if_pos h]
  · rw [if_neg h, if_neg h, if_neg nofun, if_neg h]
    rfl

theorem moveLink_lost_cut (h : NoticeCut s) : moveLink .lost s = noticeOff (lostLink s) := by
  obtain ⟨hup, b, htx⟩ := h
  rw [moveLink_lost, if_neg (by rw [hup]; decide), if_pos hup]
  exact cutNotice_notice htx

theorem moveLink_lost_kept (h : ¬ NoticeCut s) : moveLink .lost s = lostLink s := by
  rw [moveLink_lost]
  by_cases hlost : s.link.state = .lost
  · rw [if_pos hlost, lostLink, ← hlost]
  · rw [if_neg hlost]
    by_cases hup : s.link.state = .up
    · rw [if_pos hup]
      exact cutNotice_other fun b hb => h ⟨hup, b, hb⟩
    · rw [if_neg hup]

/-! ### The receiver's own fields -/

/-- The receiver's phase, its buffer and the octets still to be searched. -/
def receiving (p : RxPhase) (b l : List Byte) (s : State) : State :=
  { s with link := { s.link with phase := p, buffer := b, again := l } }

theorem moveLink_receiving (p : RxPhase) (b l : List Byte) (s : State) :
    moveLink .lost (receiving p b l s) = receiving p b l (moveLink .lost s) := by
  by_cases h : NoticeCut s
  · rw [moveLink_lost_cut h, moveLink_lost_cut (s := receiving p b l s) h]
    rfl
  · rw [moveLink_lost_kept h, moveLink_lost_kept (s := receiving p b l s) h]
    rfl

/-- A run one higher, up to its last value (R172). -/
def runNext {n : Nat} (r : Fin (n + 1)) : Fin (n + 1) := ⟨min n (r.val + 1), by omega⟩

/-- The discard run one higher, and the good run cleared (R172). -/
def discardCounted (s : State) : State :=
  { s with link := { s.link with discardRun := runNext s.link.discardRun, goodRun := 0 } }

/-- The good run one higher, and the discard run cleared (R172). -/
def goodCounted (s : State) : State :=
  { s with link := { s.link with goodRun := runNext s.link.goodRun, discardRun := 0 } }

theorem discardRun_eq (s : State) : discardRun s =
    if 2 ≤ s.link.discardRun.val then moveLink .lost (discardCounted s) else discardCounted s := by
  unfold discardRun discardCounted
  dsimp only
  split
  all_goals next h => rw [h]; rfl

theorem goodRun_eq (s : State) : goodRun s =
    if 1 ≤ s.link.goodRun.val then moveLink .up (goodCounted s) else goodCounted s := by
  unfold goodRun goodCounted
  dsimp only
  split
  all_goals next h => rw [h]; rfl

theorem discardRun_receiving (p : RxPhase) (b l : List Byte) (s : State) :
    discardRun (receiving p b l s) = receiving p b l (discardRun s) := by
  rw [discardRun_eq, discardRun_eq, apply_ite (receiving p b l), ← moveLink_receiving]
  rfl

/-! ### One octet at a time (R169, R170) -/

theorem hearOctets_done (fuel : Nat) (p : RxPhase) (b : List Byte) (x : State) :
    hearOctets fuel (receiving p b [] x) = receiving p b [] x := by
  cases fuel <;> rfl

theorem hearOctets_passed {o : Byte} (ho : o ≠ mark) (fuel : Nat) (b l : List Byte) (x : State) :
    hearOctets (fuel + 1) (receiving .hunting b (o :: l) x) = hearOctets fuel (receiving .hunting b l x) := by
  rw [hearOctets]
  dsimp only [receiving, setAgain]
  rw [show hearOctet .hunting b o = .passed from if_neg ho]

theorem hearOctets_started (fuel : Nat) (b l : List Byte) (x : State) :
    hearOctets (fuel + 1) (receiving .hunting b (mark :: l) x) = hearOctets fuel (receiving .collecting [mark] l x) := by
  rw [hearOctets]
  dsimp only [receiving, setAgain]
  rw [show hearOctet .hunting b mark = .started by rw [hearOctet, if_pos rfl]]
  rfl

theorem hearOctets_collected {o : Byte} {b c : List Byte} (h : hearOctet .collecting b o = .collected c) (fuel : Nat)
    (l : List Byte) (x : State) :
    hearOctets (fuel + 1) (receiving .collecting b (o :: l) x) = hearOctets fuel (receiving .collecting c l x) := by
  rw [hearOctets]
  dsimp only [receiving, setAgain]
  rw [h]
  rfl

/-- A discard, with the counter of its step (R170). -/
def discarded (step : Option Counter) (x : State) : State :=
  discardRun (count .discards (step.elim x (fun k => count k x)))

theorem discarded_receiving (step : Option Counter) (p : RxPhase) (b l : List Byte) (x : State) :
    discardRun (count .discards (step.elim (receiving p b l x) (fun k => count k (receiving p b l x)))) =
      receiving p b l (discarded step x) := by
  cases step with
  | none => exact discardRun_receiving p b l (count .discards x)
  | some k => exact discardRun_receiving p b l (count .discards (count k x))

theorem hearOctets_discarded {o : Byte} {b again : List Byte} {step : Option Counter}
    (h : hearOctet .collecting b o = .discarded step again) (fuel : Nat) (l : List Byte) (x : State) :
    hearOctets (fuel + 1) (receiving .collecting b (o :: l) x) =
      hearOctets fuel (receiving .hunting [] (again ++ l) (discarded step x)) := by
  have hframe : discardFrame step (receiving .collecting b l x) = receiving .hunting [] l (discarded step x) := by
    rw [← discarded_receiving]
    cases step <;> rfl
  rw [hearOctets]
  dsimp only [receiving, setAgain]
  rw [h]
  exact congrArg (fun y => hearOctets fuel (setAgain (again ++ l) y)) hframe

theorem hearOctets_good {o : Byte} {b : List Byte} {e : FifoEntry} (h : hearOctet .collecting b o = .good e) (fuel : Nat)
    (l : List Byte) (x : State) :
    hearOctets (fuel + 1) (receiving .collecting b (o :: l) x) = hearOctets fuel (goodFrame e (receiving .collecting b l x)) := by
  rw [hearOctets]
  dsimp only [receiving, setAgain]
  rw [h]

/-! ### Runs of octets (R169) -/

/-- Octets without a mark are passed over. -/
theorem hearOctets_unmarked {l : List Byte} (hl : mark ∉ l) {fuel : Nat} (hfuel : l.length ≤ fuel) (b : List Byte)
    (x : State) : hearOctets fuel (receiving .hunting b l x) = receiving .hunting b [] x := by
  induction l generalizing fuel with
  | nil => exact hearOctets_done ..
  | cons o l ih =>
    obtain ⟨fuel, rfl⟩ := Nat.exists_eq_add_one.mpr (Nat.zero_lt_of_lt hfuel)
    rw [hearOctets_passed fun h => hl (h ▸ List.mem_cons_self ..)]
    exact ih (fun h => hl (List.mem_cons_of_mem _ h)) (Nat.le_of_succ_le_succ hfuel)

/-- The first mark starts a frame. -/
theorem hearOctets_marked {before after : List Byte} (hb : mark ∉ before) {fuel : Nat}
    (hfuel : (before ++ mark :: after).length ≤ fuel) (b : List Byte) (x : State) :
    ∃ left, after.length ≤ left ∧ hearOctets fuel (receiving .hunting b (before ++ mark :: after) x) =
      hearOctets left (receiving .collecting [mark] after x) := by
  induction before generalizing fuel with
  | nil =>
    obtain ⟨fuel, rfl⟩ := Nat.exists_eq_add_one.mpr (Nat.zero_lt_of_lt hfuel)
    exact ⟨fuel, Nat.le_of_succ_le_succ hfuel, hearOctets_started ..⟩
  | cons o before ih =>
    obtain ⟨fuel, rfl⟩ := Nat.exists_eq_add_one.mpr (Nat.zero_lt_of_lt hfuel)
    rw [List.cons_append, hearOctets_passed fun h => hb (h ▸ List.mem_cons_self ..)]
    exact ih (fun h => hb (List.mem_cons_of_mem _ h)) (Nat.le_of_succ_le_succ hfuel)

/-- An octet of an incomplete frame joins the buffer (R169). -/
theorem hearOctet_collected {len o : Byte} {rest : List Byte} (hlo : 8 ≤ len.toNat) (hhi : len.toNat ≤ 128)
    (hshort : rest.length + 3 < len.toNat) :
    hearOctet .collecting (mark :: len :: rest) o = .collected (mark :: len :: rest ++ [o]) := by
  have hlength : (mark :: len :: rest ++ [o]).length < len.toNat := by simpa using hshort
  unfold hearOctet
  dsimp only [List.cons_append, List.getD_cons_succ, List.getD_cons_zero]
  refine (if_neg (show ¬ (len.toNat < 8 ∨ 128 < len.toNat) by omega)).trans ?_
  exact if_pos hlength

/-- The length octet in range joins the mark (R169). -/
theorem hearOctet_length {len : Byte} (hlo : 8 ≤ len.toNat) (hhi : len.toNat ≤ 128) :
    hearOctet .collecting [mark] len = .collected [mark, len] := by
  unfold hearOctet
  dsimp only [List.cons_append, List.nil_append, List.getD_cons_succ, List.getD_cons_zero]
  refine (if_neg (show ¬ (len.toNat < 8 ∨ 128 < len.toNat) by omega)).trans ?_
  exact if_pos (show 2 < len.toNat by omega)

theorem hearOctet_lengthError {len : Byte} (h : len.toNat < 8 ∨ 128 < len.toNat) :
    hearOctet .collecting [mark] len = .discarded (some .lengthErrors) [len] := by
  unfold hearOctet
  dsimp only [List.cons_append, List.nil_append, List.getD_cons_succ, List.getD_cons_zero]
  exact if_pos h

/-- Octets that leave the frame incomplete join the buffer (R169). -/
theorem hearOctets_collecting {len : Byte} {rest l : List Byte} (hlo : 8 ≤ len.toNat) (hhi : len.toNat ≤ 128)
    (hshort : rest.length + l.length + 2 < len.toNat) {fuel : Nat} (hfuel : l.length ≤ fuel) (x : State) :
    hearOctets fuel (receiving .collecting (mark :: len :: rest) l x) =
      receiving .collecting (mark :: len :: (rest ++ l)) [] x := by
  induction l generalizing fuel rest with
  | nil => rw [List.append_nil]; exact hearOctets_done ..
  | cons o l ih =>
    obtain ⟨fuel, rfl⟩ := Nat.exists_eq_add_one.mpr (Nat.zero_lt_of_lt hfuel)
    rw [List.length_cons] at hshort
    rw [hearOctets_collected (hearOctet_collected hlo hhi (by omega))]
    refine (ih (rest := rest ++ [o]) (by rw [List.length_append, List.length_singleton]; omega)
      (Nat.le_of_succ_le_succ hfuel)).trans ?_
    rw [List.append_assoc]
    rfl

/-- What stands behind the first mark is the buffer of a frame still incomplete (R169). -/
theorem hearOctets_again {before after : List Byte} (hb : mark ∉ before)
    (hafter : after = [] ∨ ∃ l more, after = l :: more ∧ 8 ≤ l.toNat ∧ l.toNat ≤ 128 ∧ more.length + 2 < l.toNat)
    {fuel : Nat} (hfuel : (before ++ mark :: after).length ≤ fuel) (b : List Byte) (x : State) :
    hearOctets fuel (receiving .hunting b (before ++ mark :: after) x) = receiving .collecting (mark :: after) [] x := by
  obtain ⟨left, hleft, heard⟩ := hearOctets_marked hb hfuel b x
  rw [heard]
  rcases hafter with rfl | ⟨l, more, rfl, hlo, hhi, hshort⟩
  · exact hearOctets_done ..
  · obtain ⟨left, rfl⟩ := Nat.exists_eq_add_one.mpr (Nat.zero_lt_of_lt hleft)
    rw [hearOctets_collected (hearOctet_length hlo hhi)]
    exact hearOctets_collecting (rest := []) hlo hhi (by simpa using hshort) (Nat.le_of_succ_le_succ hleft) x

/-! ### A frame is complete (R169, R170) -/

/-- The octet that completes a frame has it judged. -/
theorem hearOctet_complete {len o : Byte} {rest : List Byte} (hlo : 8 ≤ len.toNat) (hhi : len.toNat ≤ 128)
    (hlast : rest.length + 3 = len.toNat) :
    hearOctet .collecting (mark :: len :: rest) o = judgeFrame (mark :: len :: (rest ++ [o])) := by
  have hlength : ¬ (mark :: len :: rest ++ [o]).length < len.toNat := by simp; omega
  unfold hearOctet
  dsimp only [List.cons_append, List.getD_cons_succ, List.getD_cons_zero]
  refine (if_neg (show ¬ (len.toNat < 8 ∨ 128 < len.toNat) by omega)).trans ?_
  exact if_neg hlength

section
variable {len cls : Byte} {body check : List Byte}

theorem frame_parts (hcheck : check.length = 2) :
    (mark :: len :: (cls :: body ++ check)).drop ((mark :: len :: (cls :: body ++ check)).length - 2) = check ∧
      ((mark :: len :: (cls :: body ++ check)).drop 1).take ((mark :: len :: (cls :: body ++ check)).length - 3) =
        len :: cls :: body := by
  have hlength : (mark :: len :: (cls :: body ++ check)).length = (mark :: len :: cls :: body).length + 2 := by
    simp [hcheck]
  constructor
  · rw [hlength, Nat.add_sub_cancel]
    exact List.drop_left (l₁ := mark :: len :: cls :: body)
  · rw [hlength]
    exact List.take_left (l₁ := len :: cls :: body)

theorem judgeFrame_unsound (hcheck : check.length = 2) (h : check ≠ oct2 (crc16 (len :: cls :: body))) :
    judgeFrame (mark :: len :: (cls :: body ++ check)) = .discarded (some .checkErrors) (len :: (cls :: body ++ check)) := by
  obtain ⟨hdrop, htake⟩ := frame_parts (len := len) (cls := cls) (body := body) hcheck
  unfold judgeFrame
  dsimp only
  rw [hdrop, htake]
  exact if_pos h

theorem classOf_none (h51 : cls ≠ 0x51) (h52 : cls ≠ 0x52) : classOf cls = none := by
  exact (if_neg h51).trans (if_neg h52)

theorem judgeFrame_unclassed (hcheck : check.length = 2) (h : check = oct2 (crc16 (len :: cls :: body)))
    (hcls : classOf cls = none) :
    judgeFrame (mark :: len :: (cls :: body ++ check)) = .discarded none (len :: (cls :: body ++ check)) := by
  obtain ⟨hdrop, htake⟩ := frame_parts (len := len) (cls := cls) (body := body) hcheck
  unfold judgeFrame
  dsimp only
  rw [hdrop, htake, if_neg (not_not.mpr h)]
  match body with
  | [] | [_] => rfl
  | _ :: _ :: _ => dsimp only; rw [hcls]; rfl

end

/-! ### One octet received (R169 to R171) -/

theorem exec_octetReceived {p : RxPhase} {b : List Byte} {o : Byte} {t : State} (hrun : running s = true)
    (hphase : s.link.phase = p) (hbuffer : s.link.buffer = b)
    (ht : hearOctets (hearBound (b.length + 1)) (receiving p b [o] (restartSilence s)) = t) :
    exec (.octetReceived o) s = .next (conclude t) := by
  subst hphase hbuffer
  exact act_eq (f := fun s => receiveOctet s o) hrun ht

theorem hearBound_succ (n : Nat) : ∃ f, hearBound n = f + 1 ∧ n ≤ f := by
  refine ⟨n * n + 2 * n, ?_, by omega⟩
  rw [hearBound]
  ring

/-- Behind a discarded frame the octets behind its mark are hunted again (R169, R170). -/
theorem discarded_again {len o : Byte} {rest : List Byte} {step : Option Counter} (hrun : running s = true)
    (hx : discardRun (count .discards x) = receiving .hunting [] [] (discarded step (restartSilence s)))
    (hlo : 8 ≤ len.toNat) (hhi : len.toNat ≤ 128) (hphase : s.link.phase = .collecting)
    (hbuffer : s.link.buffer = mark :: len :: rest)
    (hheard : hearOctet .collecting (mark :: len :: rest) o = .discarded step (len :: (rest ++ [o]))) :
    (mark ∉ rest ++ [o] → exec (.octetReceived o) s = .next (conclude (discardRun (count .discards x)))) ∧
    ∀ before after, rest ++ [o] = before ++ mark :: after → mark ∉ before →
      after = [] ∨ (∃ l more, after = l :: more ∧ 8 ≤ l.toNat ∧ l.toNat ≤ 128 ∧ more.length + 2 < l.toNat) →
      exec (.octetReceived o) s = .next (conclude (setRx .collecting (mark :: after) (discardRun (count .discards x)))) := by
  rw [hx]
  have hlen : mark ≠ len := by
    rintro rfl
    exact absurd hhi (by decide)
  obtain ⟨fuel, hfuel, hroom⟩ := hearBound_succ ((mark :: len :: rest).length + 1)
  have hagain : (len :: (rest ++ [o])).length ≤ fuel := by
    simp only [List.length_cons, List.length_append, List.length_nil] at hroom ⊢
    omega
  have hstep : ∀ t, hearOctets fuel (receiving .hunting [] (len :: (rest ++ [o])) (discarded step (restartSilence s))) = t →
      exec (.octetReceived o) s = .next (conclude t) := by
    intro t ht
    refine exec_octetReceived hrun hphase hbuffer ?_
    rw [hfuel, hearOctets_discarded hheard, List.append_nil]
    exact ht
  constructor
  · intro hmark
    refine hstep _ (hearOctets_unmarked (fun h => ?_) hagain _ _)
    rcases List.mem_cons.mp h with h | h
    · exact hlen h
    · exact hmark h
  · intro before after hsplit hbefore hafter
    refine hstep _ ?_
    rw [hsplit] at hagain ⊢
    refine hearOctets_again (before := len :: before) (fun h => ?_) hafter hagain _ _
    rcases List.mem_cons.mp h with h | h
    · exact hlen h
    · exact hbefore h

/-- Settles O37. -/
theorem octetIsHuntedOrCollected : Obligations.OctetIsHuntedOrCollected := by
  refine fun s o hrun => ⟨fun hphase ho => ?_, fun hphase ho => ?_, fun hphase hbuffer => ⟨fun hlo hhi => ?_,
    fun ho hrange => ?_, fun ho => ?_⟩, fun len rest hphase hbuffer hlo hhi hshort => ?_,
    fun len cls rest body check hphase hbuffer hlo hhi hlast hparts hcheck => ⟨fun hunsound => ?_, fun hsound h51 h52 => ?_⟩⟩
  · refine exec_octetReceived hrun hphase rfl ?_
    obtain ⟨fuel, hfuel, -⟩ := hearBound_succ (s.link.buffer.length + 1)
    rw [hfuel]
    exact hearOctets_unmarked (fun h => ho (List.mem_singleton.mp h).symm) (Nat.succ_le_succ (Nat.zero_le _)) _ _
  · subst ho
    refine exec_octetReceived hrun hphase rfl ?_
    obtain ⟨fuel, hfuel, -⟩ := hearBound_succ (s.link.buffer.length + 1)
    rw [hfuel]
    exact (hearOctets_started ..).trans (hearOctets_done ..)
  · refine exec_octetReceived hrun hphase hbuffer ?_
    exact (hearOctets_collected (hearOctet_length hlo hhi) ..).trans (hearOctets_done ..)
  · refine exec_octetReceived hrun hphase hbuffer ?_
    refine (hearOctets_discarded (hearOctet_lengthError hrange) 8 _ _).trans ?_
    refine (hearOctets_unmarked (l := [o]) (fun h => ho (List.mem_singleton.mp h).symm)
      (show 1 ≤ 8 by decide) _ _).trans ?_
    exact (discardRun_receiving .hunting [] [] (count .discards (count .lengthErrors (restartSilence s)))).symm
  · subst ho
    refine exec_octetReceived hrun hphase hbuffer ?_
    refine (hearOctets_discarded (hearOctet_lengthError (.inr (by decide))) 8 _ _).trans ?_
    refine ((hearOctets_started 7 [] [] _).trans (hearOctets_done ..)).trans ?_
    exact congrArg (setRx .collecting [mark])
      (discardRun_receiving .hunting [] [] (count .discards (count .lengthErrors (restartSilence s)))).symm
  · refine exec_octetReceived hrun hphase hbuffer ?_
    obtain ⟨fuel, hfuel, -⟩ := hearBound_succ ((0xA7 :: len :: rest).length + 1)
    rw [hfuel]
    exact (hearOctets_collected (hearOctet_collected hlo hhi hshort) ..).trans (hearOctets_done ..)
  · have hheard : hearOctet .collecting (mark :: len :: rest) o = .discarded (some .checkErrors) (len :: (rest ++ [o])) := by
      rw [hearOctet_complete hlo hhi hlast, hparts]
      exact judgeFrame_unsound hcheck hunsound
    exact discarded_again hrun
      (discarded_receiving (some .checkErrors) .hunting [] [] (restartSilence s)) hlo hhi hphase
      hbuffer hheard
  · have hheard : hearOctet .collecting (mark :: len :: rest) o = .discarded none (len :: (rest ++ [o])) := by
      rw [hearOctet_complete hlo hhi hlast, hparts]
      exact judgeFrame_unclassed hcheck hsound (classOf_none h51 h52)
    exact discarded_again hrun (discarded_receiving none .hunting [] [] (restartSilence s)) hlo hhi hphase
      hbuffer hheard

/-! ### A whole frame received (R169, R170, R176) -/

theorem hearOctets_empty (h : x.link.again = []) (fuel : Nat) : hearOctets fuel x = x := by
  cases fuel with
  | zero => rfl
  | succ fuel => rw [hearOctets, h]

theorem offer_again (e : FifoEntry) (s : State) : (offer e s).link.again = s.link.again := by
  unfold offer
  split
  · rfl
  · split <;> rfl

/-- A taking leaves no octet to be hunted. -/
theorem goodFrame_again (e : FifoEntry) (h : x.link.again = []) : (goodFrame e x).link.again = [] := by
  have hrun : (goodRun (setRx .hunting [] x)).link.again = [] :=
    (keeps_goodRun (taking := True) (Keeps.refl (setRx .hunting [] x))).hunted trivial h
  have hoffered : (offer e (goodRun (setRx .hunting [] x))).link.again = [] := (offer_again _ _).trans hrun
  have hwoken := (keeps_restartIdle (keeps_wakeCause (taking := True) (quoting := False) (Keeps.refl _))).hunted trivial
    hoffered
  exact (keeps_conclude (taking := True) (Keeps.refl _)).hunted trivial hwoken

/-- The octets of a frame still incomplete join the buffer one by one. -/
theorem receiveOctets_collecting {len : Byte} {rest l : List Byte} (hlo : 8 ≤ len.toNat) (hhi : len.toNat ≤ 128)
    (hshort : rest.length + l.length + 2 < len.toNat) :
    l.foldl receiveOctet (receiving .collecting (mark :: len :: rest) [] (restartSilence s)) =
      receiving .collecting (mark :: len :: (rest ++ l)) [] (restartSilence s) := by
  induction l generalizing rest with
  | nil => rw [List.append_nil]; rfl
  | cons o l ih =>
    rw [List.length_cons] at hshort
    have hone : receiveOctet (receiving .collecting (mark :: len :: rest) [] (restartSilence s)) o =
        receiving .collecting (mark :: len :: rest ++ [o]) [] (restartSilence s) := by
      obtain ⟨fuel, hfuel, -⟩ := hearBound_succ ((mark :: len :: rest).length + 1)
      refine (congrArg (fun f => hearOctets f (receiving .collecting (mark :: len :: rest) [o] (restartSilence s)))
        hfuel).trans ?_
      exact (hearOctets_collected (hearOctet_collected hlo hhi (by omega)) ..).trans (hearOctets_done ..)
    rw [List.foldl_cons, hone]
    refine (ih (rest := rest ++ [o]) (by rw [List.length_append, List.length_singleton]; omega)).trans ?_
    rw [List.append_assoc]
    rfl

/-- The octet that completes a good frame has it taken. -/
theorem receiveOctet_good {len o : Byte} {rest : List Byte} {e : FifoEntry}
    (hheard : hearOctet .collecting (mark :: len :: rest) o = .good e) :
    receiveOctet (receiving .collecting (mark :: len :: rest) [] (restartSilence s)) o =
      goodFrame e (receiving .collecting (mark :: len :: rest) [] (restartSilence s)) := by
  obtain ⟨fuel, hfuel, -⟩ := hearBound_succ ((mark :: len :: rest).length + 1)
  refine (congrArg (fun f => hearOctets f (receiving .collecting (mark :: len :: rest) [o] (restartSilence s)))
    hfuel).trans ?_
  exact (hearOctets_good hheard ..).trans (hearOctets_empty (goodFrame_again e rfl) fuel)

theorem judgeFrame_good {len tag o : Byte} {c : FrameClass} {body : List Byte} :
    judgeFrame (mark :: len :: (classOctet c :: (tag :: o :: body) ++ oct2 (crc16 (len :: classOctet c :: tag :: o :: body)))) =
      .good { cls := c, tag := tag, origin := o, body := body } := by
  obtain ⟨hdrop, htake⟩ := frame_parts (len := len) (cls := classOctet c) (body := tag :: o :: body)
    (check := oct2 (crc16 (len :: classOctet c :: tag :: o :: body))) rfl
  have hcls : classOf (classOctet c) = some c := by cases c <;> rfl
  unfold judgeFrame
  dsimp only
  rw [hdrop, htake, if_neg (not_not.mpr rfl)]
  dsimp only
  rw [hcls]

/-- Settles O38. The mark starts the frame, its octets join the buffer, and the last has it judged good. -/
theorem frameDeliversItsEntry : Obligations.FrameDeliversItsEntry := by
  refine fun s c tag o body hrun hphase hlo hhi => act_eq hrun ?_
  obtain ⟨len, hlen⟩ : ∃ len, len = BitVec.ofNat 8 (body.length + 7) := ⟨_, rfl⟩
  have hval : len.toNat = body.length + 7 := by rw [hlen]; exact ofNat8_toNat (by omega)
  obtain ⟨hi, lo, hcheck⟩ : ∃ hi lo, oct2 (crc16 (len :: classOctet c :: tag :: o :: body)) = [hi, lo] := ⟨_, _, rfl⟩
  have hframe : frame (classOctet c) tag o body =
      mark :: len :: ((classOctet c :: tag :: o :: body ++ [hi]) ++ [lo]) := by
    rw [frame, ← hlen, List.append_assoc]
    rw [hcheck]
    rfl
  have hstart : receiveOctet s mark = receiving .collecting [mark] [] (restartSilence s) := by
    obtain ⟨fuel, hfuel, -⟩ := hearBound_succ (s.link.buffer.length + 1)
    have hheard : receiveOctet s mark = hearOctets (fuel + 1) (receiving .hunting s.link.buffer [mark] (restartSilence s)) := by
      rw [← hfuel, ← hphase]
      rfl
    rw [hheard]
    exact (hearOctets_started ..).trans (hearOctets_done ..)
  have hlength : receiveOctet (receiving .collecting [mark] [] (restartSilence s)) len =
      receiving .collecting [mark, len] [] (restartSilence s) :=
    (hearOctets_collected (hearOctet_length (by omega) (by omega)) 8 [] (restartSilence s)).trans (hearOctets_done ..)
  have hlast : hearOctet .collecting (mark :: len :: (classOctet c :: tag :: o :: body ++ [hi])) lo =
      .good { cls := c, tag := tag, origin := o, body := body } := by
    rw [hearOctet_complete (by omega) (by omega) (by simp; omega), List.append_assoc]
    have hgood := judgeFrame_good (len := len) (tag := tag) (o := o) (c := c) (body := body)
    rw [hcheck] at hgood
    exact hgood
  rw [receiveOctets, hframe, List.foldl_cons, hstart, List.foldl_cons, hlength, List.foldl_append,
    receiveOctets_collecting (rest := []) (by omega) (by omega) (by simp; omega), List.nil_append, List.foldl_cons,
    List.foldl_nil, receiveOctet_good hlast]
  rfl

end Sys2Proof.Machine

/-! PROOFS. The runs, the silence timer and the link state (9.1, 9.2). -/

namespace Sys2Proof.Machine

open Sys2Proof.Wire

variable {s x : State}

/-! ### The link comes UP (R87, R173) -/

/-- The state of the link alone. -/
def atLinkState (l : LinkState) (s : State) : State := { s with link := { s.link with state := l } }

theorem moveLink_up_stays (h : s.link.state = .up) : moveLink .up s = s := if_pos h

theorem moveLink_up_enters (h : s.link.state ≠ .up) : moveLink .up s =
    raise (.link .up) (if s.link.state = .lost then rewriteWindowEnds (atLinkState .up s) else atLinkState .up s) := by
  refine (if_neg h).trans ((if_pos rfl).trans ?_)
  rw [if_neg h]
  rfl

/-- Window ends are records' own: runs and state of the link stand (R87). -/
theorem linkRuns_rewriteWindowEnds (s : State) : linkRuns (rewriteWindowEnds s) = linkRuns s :=
  (keeps_rewriteWindowEnds (taking := True) (quoting := True) (Keeps.refl s)).runs trivial

theorem linkRuns_moveLink_up (s : State) : linkRuns (moveLink .up s) = (.up, s.link.goodRun, s.link.discardRun) := by
  by_cases h : s.link.state = .up
  · rw [moveLink_up_stays h, linkRuns, h]
  · rw [moveLink_up_enters h]
    show linkRuns (if s.link.state = .lost then rewriteWindowEnds (atLinkState .up s) else atLinkState .up s) = _
    split
    · exact linkRuns_rewriteWindowEnds _
    · rfl

theorem linkRuns_moveLink_lost (s : State) : linkRuns (moveLink .lost s) = (.lost, s.link.goodRun, s.link.discardRun) := by
  by_cases h : NoticeCut s
  · rw [moveLink_lost_cut h]
    rfl
  · rw [moveLink_lost_kept h]
    rfl

theorem linkRuns_goodRun (s : State) : linkRuns (goodRun s) =
    (if 1 ≤ s.link.goodRun.val then .up else s.link.state, runNext s.link.goodRun, 0) := by
  rw [goodRun_eq]
  split
  · exact linkRuns_moveLink_up _
  · rfl

theorem linkRuns_discardRun (s : State) : linkRuns (discardRun s) =
    (if 2 ≤ s.link.discardRun.val then .lost else s.link.state, 0, runNext s.link.discardRun) := by
  rw [discardRun_eq]
  split
  · exact linkRuns_moveLink_lost _
  · rfl

/-! ### The window ends of good records (R87) -/

/-- What a rewritten window end leaves: every part but the records, and the records that pass their checks. -/
structure WindowsRewritten (s x : State) : Prop where
  notices : x.notices = s.notices
  collection : x.collection = s.collection
  good : ∀ k, parcelGood k s = true → parcelGood k x = true

theorem windowsRewritten_modParcel (k : Slot) (f : Parcel → Parcel) (h : WindowsRewritten s x) :
    WindowsRewritten s (modParcel k f x) := by
  obtain ⟨hnotices, hcollection, hgood⟩ := h
  unfold modParcel
  split
  · exact ⟨hnotices, hcollection, fun j hj => parcelGood_setParcel (hgood j hj)⟩
  · exact ⟨hnotices, hcollection, hgood⟩

theorem windowsRewritten_onRecord {k : Slot} {l : List ParcelState} {f : Parcel → State → State}
    (hk : parcelGood k s = true) (hf : ∀ p, WindowsRewritten s (f p x)) (h : WindowsRewritten s x) :
    WindowsRewritten s (onRecord k l f x) := by
  unfold onRecord onRecordElse
  split
  · exact h
  · rw [if_pos (h.good k hk)]
    split
    · exact hf _
    · exact h

theorem windowsRewritten_fold (hdue : ∀ (t : Term) k w l, s.collection.contexts[t] = .due k w l → parcelGood k s = true) :
    WindowsRewritten s (rewriteWindowEnds s) := by
  unfold rewriteWindowEnds
  suffices h : ∀ (l : List Term) {x : State}, WindowsRewritten s x → WindowsRewritten s (l.foldl _ x) from
    h allTerms ⟨rfl, rfl, fun _ => id⟩
  intro l
  induction l with
  | nil => exact id
  | cons t l ih =>
    intro x hx
    rw [List.foldl_cons]
    refine ih ?_
    dsimp only
    split
    · next k w e hcontext =>
      rw [hx.collection] at hcontext
      exact windowsRewritten_onRecord (hdue t k w e hcontext) (fun _ => windowsRewritten_modParcel _ _ hx) hx
    · exact hx

/-! ### A silence (R171 to R173) -/

/-- The good run cleared and the timer at 0. -/
def silenced (s : State) : State := { s with link := { s.link with goodRun := 0, silence := 0 } }

/-- A discard that has LOST the link has cut its notice already. -/
theorem silenced_discardRun (s : State) : moveLink .lost (silenced (discardRun s)) = lostLink (silenced (discardRun s)) ∧
    ¬ NoticeCut s ∨ moveLink .lost (silenced (discardRun s)) = noticeOff (lostLink (silenced (discardRun s))) ∧ NoticeCut s := by
  rw [discardRun_eq]
  by_cases hcut : NoticeCut s
  · refine .inr ⟨?_, hcut⟩
    split
    · rw [moveLink_lost_cut (s := discardCounted s) hcut,
        moveLink_lost_kept (s := silenced (noticeOff (lostLink (discardCounted s)))) (fun h => by cases h.1)]
      rfl
    · exact moveLink_lost_cut (s := silenced (discardCounted s)) hcut
  · refine .inl ⟨?_, hcut⟩
    split
    · rw [moveLink_lost_kept (s := discardCounted s) hcut,
        moveLink_lost_kept (s := silenced (lostLink (discardCounted s))) (fun h => by cases h.1)]
    · exact moveLink_lost_kept (s := silenced (discardCounted s)) hcut

theorem lost_receiving (p : RxPhase) (b l : List Byte) (s : State) :
    moveLink .lost (silenced (discardRun (receiving p b l s))) =
      receiving p b l (moveLink .lost (silenced (discardRun s))) := by
  rw [discardRun_receiving]
  exact moveLink_receiving p b l (silenced (discardRun s))

/-- A silence hunts what stands behind the mark of an unfinished frame. -/
def heardOut (s : State) : State := count .discards (count .silences (receiving .hunting [] [] s))

theorem silenceExpires_hunting (h : s.link.phase = .hunting) :
    silenceExpires s = moveLink .lost (silenced (count .silences s)) := by
  unfold silenceExpires
  dsimp only
  split
  · next hphase => exact nomatch h.symm.trans hphase
  · rfl

theorem silenceExpires_begun (h : s.link.phase = .collecting ∧ ∃ rest, s.link.buffer = mark :: rest ∧ mark ∉ rest) :
    silenceExpires s = moveLink .lost (silenced (discardRun (heardOut s))) := by
  obtain ⟨hphase, rest, hbuffer, hmark⟩ := h
  obtain ⟨fuel, hfuel, hroom⟩ := hearBound_succ rest.length
  unfold silenceExpires
  dsimp only
  split
  · rw [show (count .silences s).link.buffer.drop 1 = rest from congrArg (List.drop 1) hbuffer]
    refine (congrArg (hear rest) (lost_receiving .hunting [] s.link.again (count .discards (count .silences s)))).trans ?_
    have hheard : hear rest (receiving .hunting [] s.link.again
        (moveLink .lost (silenced (discardRun (count .discards (count .silences s)))))) =
        hearOctets (hearBound rest.length) (receiving .hunting [] rest
          (moveLink .lost (silenced (discardRun (count .discards (count .silences s)))))) :=
      congrArg (fun n => hearOctets (hearBound n) (receiving .hunting [] rest
          (moveLink .lost (silenced (discardRun (count .discards (count .silences s))))))) (Nat.zero_add _)
    rw [hheard, hfuel, hearOctets_unmarked hmark (Nat.le_succ_of_le hroom)]
    exact (lost_receiving .hunting [] [] (count .discards (count .silences s))).symm
  · next h => exact nomatch h.symm.trans hphase

theorem exec_silence {t : State} (hrun : running s = true) (hsilence : s.link.silence ≠ 0) (ht : silenceExpires s = t) :
    exec .silenceExpiry s = .next (conclude t) :=
  act_eq (f := fun s => if s.link.silence = 0 then s else silenceExpires s) hrun ((if_neg hsilence).trans ht)

theorem raise_notices_congr {b : NoticeBody} (h : x.notices = s.notices) :
    (raise b x).notices = (raise b s).notices := by
  show (modClass (bodyClass b) _ x).notices = (modClass (bodyClass b) _ s).notices
  unfold modClass
  dsimp only
  rw [h]

/-- Settles O39. The runs and the state are read off each move of the link; a silence that LOSES the link cuts the notice
on the line, once. -/
theorem runsAndSilenceDecideTheLinkState : Obligations.RunsAndSilenceDecideTheLinkState := by
  intro s
  obtain ⟨hgoodState, hgoodRun, hgoodDiscard⟩ : (goodRun s).link.state = _ ∧ (goodRun s).link.goodRun = _ ∧
      (goodRun s).link.discardRun = _ := by simpa only [linkRuns, Prod.mk.injEq] using linkRuns_goodRun s
  obtain ⟨hdiscardState, hdiscardGood, hdiscardRun⟩ : (discardRun s).link.state = _ ∧ (discardRun s).link.goodRun = _ ∧
      (discardRun s).link.discardRun = _ := by simpa only [linkRuns, Prod.mk.injEq] using linkRuns_discardRun s
  refine ⟨⟨congrArg Fin.val hgoodRun, hgoodDiscard, congrArg Fin.val hdiscardRun, hdiscardGood⟩,
    fun h => hgoodState.trans (if_pos h), fun h => ⟨hgoodState.trans (if_neg (by rw [h]; decide)), ?_⟩,
    fun hdue hrun hstate => ?_, fun h => hdiscardState.trans (if_pos h),
    fun h => hdiscardState.trans (if_neg (Nat.not_le.mpr h)),
    fun hrun => ⟨fun hsilence hphase => ⟨fun hkept => ?_, fun hcut => ?_⟩,
      fun hsilence hbegun => ⟨fun hkept => ?_, fun hcut => ?_⟩, fun hsilence => ?_⟩⟩
  · rw [goodRun_eq, if_neg (by rw [h]; decide)]
    rfl
  · have hwindows := windowsRewritten_fold (s := atLinkState .up (goodCounted s)) hdue
    rw [goodRun_eq, if_pos hrun, moveLink_up_enters (s := goodCounted s) hstate]
    have hnotices : (if (goodCounted s).link.state = .lost then rewriteWindowEnds (atLinkState .up (goodCounted s))
        else atLinkState .up (goodCounted s)).notices = s.notices := by
      split
      · exact hwindows.notices
      · rfl
    exact raise_notices_congr hnotices
  · exact exec_silence hrun hsilence ((silenceExpires_hunting hphase).trans (moveLink_lost_kept (s := silenced (count .silences s)) hkept))
  · exact exec_silence hrun hsilence ((silenceExpires_hunting hphase).trans (moveLink_lost_cut (s := silenced (count .silences s)) hcut))
  · rcases silenced_discardRun (heardOut s) with ⟨hlost, -⟩ | ⟨-, hcut⟩
    · exact exec_silence hrun hsilence ((silenceExpires_begun hbegun).trans hlost)
    · exact absurd hcut hkept
  · rcases silenced_discardRun (heardOut s) with ⟨-, hkept⟩ | ⟨hlost, -⟩
    · exact absurd hcut hkept
    · exact exec_silence hrun hsilence ((silenceExpires_begun hbegun).trans hlost)
  · exact act_eq (f := fun s => if s.link.silence = 0 then s else silenceExpires s) hrun (if_pos hsilence)

end Sys2Proof.Machine

/-! PROOFS. Seconds, minutes and the timers that count in seconds (2.6, 2.7, 4.1, 10.4, 11.5). -/

namespace Sys2Proof.Machine

open Sys2Proof.Wire

variable {s : State}

/-! ### The clock (R62) -/

theorem clockSecond_below {tb : TimeBase} (h : tb.seconds.val < 59) :
    clockSecond tb = { tb with seconds := ⟨tb.seconds.val + 1, by omega⟩ } := dif_pos h

theorem clockSecond_last (m : Minute) (b : Bool) : clockSecond { minute := m, seconds := 59, clockSet := b } =
    { minute := if m = 0xFFFFFFFF#32 then m else m + 1, seconds := 0, clockSet := b } := rfl

theorem isBoundary_below {tb : TimeBase} (h : tb.seconds.val < 59) : isBoundary tb = false := by
  rw [isBoundary, lastSecond, beq_eq_false_iff_ne.mpr (Nat.ne_of_lt h), Bool.false_and]

theorem isBoundary_last {m : Minute} {b : Bool} :
    isBoundary { minute := m, seconds := 59, clockSet := b } = (m != 0xFFFFFFFF#32) := Bool.true_and _

/-! ### A quiet bank has no second to count (R35, R39, R87, R96, R165, R209) -/

/-- Nothing counts in seconds. -/
def NothingCounts (s : State) : Prop :=
  (∀ t : Term, s.creds.terms[t].lockRemaining = 0 ∧ ∀ i, s.creds.terms[t].mode ≠ .courier i) ∧
    (∀ t : Term, ∀ k w l, s.collection.contexts[t] ≠ .due k w l) ∧ s.collection.reopen = [] ∧
    (∀ n : CompNo, s.doors.records[n].ajar = none) ∧ s.mgmt.config.idle = 0

theorem termSecond_quiet {c : TermContext} (counts : Bool) (hlock : c.lockRemaining = 0) (hmode : ∀ i, c.mode ≠ .courier i) :
    termSecond counts c = c := by
  obtain ⟨mode, failed, level, lockRemaining, inactivity, openJob, pending⟩ := c
  subst hlock
  cases mode with
  | courier i => exact absurd rfl (hmode i)
  | _ => rfl

theorem contextSecond_quiet {c : QuoteContext} (h : ∀ k w l, c ≠ .due k w l) : contextSecond c = c := by
  cases c with
  | due k w l => exact absurd rfl (h k w l)
  | _ => rfl

theorem ajarSecond_quiet {d : DoorRecord} (h : d.ajar = none) : ajarSecond d = d := by rw [ajarSecond, h]

theorem vector_map_fixed {α : Type} {n : Nat} {v : Vector α n} {f : α → α} (h : ∀ i : Fin n, f v[i] = v[i]) : v.map f = v :=
  Vector.ext fun i hi => (Vector.getElem_map f hi).trans (h ⟨i, hi⟩)

theorem table_at {α : Type} {n : Nat} (f : Fin n → α) (i : Fin n) : (table n f)[i] = f i := by
  show (table n f)[i.val] = _
  simp [table]

theorem secondEvents_quiet (h : NothingCounts s) : secondEvents s = s := by
  obtain ⟨hterms, hcontexts, hreopen, hajar, hidle⟩ := h
  have hcreds : s.creds.terms.map (termSecond (linkCounts s)) = s.creds.terms :=
    vector_map_fixed fun t => termSecond_quiet _ (hterms t).1 (hterms t).2
  have hwindows : windowSecond s.collection = s.collection := by
    rw [windowSecond, vector_map_fixed fun t => contextSecond_quiet (hcontexts t), hreopen]
    exact congrArg (fun l => { s.collection with reopen := l }) hreopen.symm
  have hdoors : table 240 (fun n => if doorRuns n s then ajarSecond s.doors.records[n] else s.doors.records[n]) =
      s.doors.records := Vector.ext fun i hi => by
    refine (table_at _ ⟨i, hi⟩).trans ?_
    rw [ajarSecond_quiet (hajar ⟨i, hi⟩), ite_self]
    rfl
  have hidles : idleRuns s = false := by
    rw [idleRuns, Bool.and_eq_false_iff]
    exact .inr (decide_eq_false (by rw [cfg, hidle]; decide))
  rw [secondEvents, hcreds, hwindows, hdoors, hidles, ite_self]
  rfl

/-! ### SECOND_TICK and MINUTE_BOUNDARY (R62, R102) -/

/-- The scanner at a minute boundary: a scan starts, or is marked due (R102). -/
def scanAtMinute (c : Scanner) (m : Minute) : Scanner :=
  if c.scanning then { c with due := true } else { c with scanning := true, minute := m, cursor := 0 }

theorem boundary_scans {c : Scanner} (m : Minute) (hc : s.returns.scanner = c) (hscan : s.mgmt.config.expiryScan = true) (hset : s.time.clockSet = true) :
    boundary m s = setScanner (scanAtMinute c m) s := by
  subst hc
  unfold boundary scanAtMinute
  dsimp only
  rw [cfg, hscan, hset]
  refine (if_neg Bool.false_ne_true).trans ?_
  exact (apply_ite (fun c => setScanner c s) _ _ _).symm

theorem boundary_rests (m : Minute) (h : s.mgmt.config.expiryScan = false ∨ s.time.clockSet = false) :
    boundary m s = s := by
  refine if_pos ?_
  rw [cfg]
  rcases h with h | h <;> rw [h]
  · rfl
  · exact Bool.or_true _

theorem exec_secondTick (hrun : running s = true) (h : s.time.seconds.val < 59) : exec .secondTick s =
    .next (conclude (secondEvents { s with time := { s.time with seconds := ⟨s.time.seconds.val + 1, by omega⟩ } })) := by
  refine (if_pos hrun).trans (act_eq hrun ?_)
  unfold second
  dsimp only
  rw [isBoundary_below h, clockSecond_below h]
  rfl

theorem exec_minuteBoundary (hrun : running s = true) {m : Minute}
    (hm : m = if s.time.minute = 0xFFFFFFFF#32 then s.time.minute else s.time.minute + 1) :
    exec .minuteBoundary s = .next (conclude
      (if (s.time.minute != 0xFFFFFFFF#32) = true then
        boundary m (secondEvents { s with time := { s.time with minute := m, seconds := 0 } })
      else secondEvents { s with time := { s.time with minute := m, seconds := 0 } })) := by
  subst hm
  exact (if_pos hrun).trans (act_eq (s := { s with time := { s.time with seconds := 59 } }) hrun rfl)

/-- What the events of a second leave to the clock and the scanner. -/
theorem clockAdvances (hrun : running s = true) {events : State → State}
    (hevents : ∀ tb, secondEvents { s with time := tb } = events { s with time := tb }) :
    (∀ h : s.time.seconds.val < 59, exec .secondTick s =
      .next (conclude (events { s with time := { s.time with seconds := ⟨s.time.seconds.val + 1, by omega⟩ } }))) ∧
    (s.time.minute = 4294967295#32 → exec .minuteBoundary s =
      .next (conclude (events { s with time := { s.time with minute := 4294967295#32, seconds := 0 } }))) ∧
    (s.time.minute ≠ 4294967295#32 → s.mgmt.config.expiryScan = false ∨ s.time.clockSet = false →
      exec .minuteBoundary s =
        .next (conclude (events { s with time := { s.time with minute := s.time.minute + 1, seconds := 0 } }))) ∧
    (s.time.minute ≠ 4294967295#32 → s.mgmt.config.expiryScan = true → s.time.clockSet = true →
      exec .minuteBoundary s = .next (conclude (setScanner (scanAtMinute s.returns.scanner (s.time.minute + 1))
        (events { s with time := { s.time with minute := s.time.minute + 1, seconds := 0 } })))) := by
  refine ⟨fun h => ?_, fun h => ?_, fun h hrests => ?_, fun h hscan hset => ?_⟩
  · rw [exec_secondTick hrun h, hevents]
  · rw [exec_minuteBoundary hrun (m := 4294967295#32) (by rw [if_pos h, h]), hevents, h]
    rfl
  · rw [exec_minuteBoundary hrun (m := s.time.minute + 1) (by rw [if_neg h]), if_pos (bne_iff_ne.mpr h),
      boundary_rests (s := secondEvents { s with time := { s.time with minute := s.time.minute + 1, seconds := 0 } }) _ hrests,
      hevents]
  · rw [exec_minuteBoundary hrun (m := s.time.minute + 1) (by rw [if_neg h]), if_pos (bne_iff_ne.mpr h),
      boundary_scans (c := s.returns.scanner) (s := secondEvents { s with time := { s.time with minute := s.time.minute + 1, seconds := 0 } })
        _ rfl hscan hset, hevents]

/-- Settles O45. -/
theorem secondsAndMinutesAdvanceTheClock : Obligations.SecondsAndMinutesAdvanceTheClock := by
  refine fun s => ⟨fun hrun => ⟨clockAdvances hrun fun _ => rfl, fun hquiet => ?_⟩, fun hlast => ?_,
    fun hstopped => ⟨fun h => ?_, fun h => ?_⟩⟩
  · exact clockAdvances hrun (events := fun x => x) fun tb => secondEvents_quiet (s := { s with time := tb }) hquiet
  · have hclock : { s with time := { s.time with seconds := 59 } } = s := by
      rw [show (59 : Fin 60) = s.time.seconds from Fin.ext hlast.symm]
    exact congrArg elapse hclock.symm
  · refine (if_neg (by rw [hstopped]; exact Bool.false_ne_true)).trans ?_
    rw [clockSecond_below h]
  · refine (if_neg (by rw [show running { s with time := { s.time with seconds := 59 } } = running s from rfl, hstopped]
                       exact Bool.false_ne_true)).trans ?_
    rw [clockSecond_last, if_neg h]

/-! ### What a second counts (R35, R39, R80, R87, R165, R209) -/

theorem linkCounts_iff (s : State) : linkCounts s = true ↔ s.link.state ≠ .lost := bne_iff_ne

theorem secondEvents_term (s : State) (t : Term) :
    (secondEvents s).creds.terms[t] = termSecond (linkCounts s) s.creds.terms[t] := Vector.getElem_map _ t.isLt

theorem secondEvents_door (s : State) (n : CompNo) : (secondEvents s).doors.records[n] =
    if doorRuns n s then ajarSecond s.doors.records[n] else s.doors.records[n] := table_at _ n

theorem secondEvents_windows (h : s.link.state ≠ .lost) : (secondEvents s).collection = windowSecond s.collection :=
  if_pos ((linkCounts_iff s).mpr h)

theorem secondEvents_lost (h : s.link.state = .lost) : (secondEvents s).collection = s.collection :=
  if_neg fun hc => (linkCounts_iff s).mp hc h

theorem doorRuns_iff (n : CompNo) (s : State) : doorRuns n s = true ↔
    ∃ a, columnOf n s = some a ∧ s.bus.columns[a].state = .present ∧ s.doors.firstPoll[a] = false := by
  unfold doorRuns
  cases hcolumn : columnOf n s with
  | none => exact ⟨nofun, fun ⟨_, h, _⟩ => nomatch h⟩
  | some a =>
    simp only [columnRuns, columnPresent, Bool.and_eq_true, Bool.not_eq_true', beq_iff_eq]
    exact ⟨fun h => ⟨a, rfl, h⟩, fun ⟨_, hb, h⟩ => by cases hb; exact h⟩

theorem idleRuns_iff (s : State) :
    idleRuns s = true ↔ s.dormancy.state = .awake ∧ isQuiet s = true ∧ 0 < s.mgmt.config.idle := by
  have hidle : decide (0 < (cfg s).idle) = true ↔ 0 < s.mgmt.config.idle := decide_eq_true_iff
  rw [idleRuns, Bool.and_eq_true, Bool.and_eq_true, beq_iff_eq, hidle, and_assoc]

theorem termSecond_counts {c : TermContext} {i : CourierInfo} (hmode : c.mode = .courier i) (hjob : c.openJob = none) :
    (termSecond true c).inactivity = c.inactivity - 1 := by
  rw [termSecond, hmode, hjob]
  rfl

theorem termSecond_stands {c : TermContext} {counts : Bool}
    (h : counts = false ∨ c.openJob ≠ none ∨ ∀ i, c.mode ≠ .courier i) : (termSecond counts c).inactivity = c.inactivity := by
  unfold termSecond
  dsimp only
  cases hmode : c.mode with
  | courier i =>
    have hstands : (c.openJob.isNone && counts) = false := by
      rcases h with h | h | h
      · rw [h, Bool.and_false]
      · rw [Option.isNone_eq_false_iff.mpr (Option.isSome_iff_ne_none.mpr h), Bool.false_and]
      · exact absurd hmode (h i)
    exact if_neg (by rw [hstands]; exact Bool.false_ne_true)
  | _ => rfl

theorem inactivityOver_iff (t : Term) (s : State) : inactivityOver t s = true ↔
    (∃ i, s.creds.terms[t].mode = .courier i) ∧ s.creds.terms[t].openJob = none ∧ s.creds.terms[t].inactivity = 0 := by
  rw [inactivityOver, Bool.and_eq_true, Bool.and_eq_true, Option.isSome_iff_exists, Option.isNone_iff_eq_none, beq_iff_eq,
    and_assoc]
  simp only [courierAt_eq_some]

/-- Settles O46. Each block's part of the second is read off its own timer. -/
theorem terminalTimersCountAndEnd : Obligations.TerminalTimersCountAndEnd := by
  refine fun s t => ⟨⟨?_, fun i hmode hjob hlink => ?_, fun h => ?_, ?_, fun k w l hdue hlink => ?_, fun hdue => ?_,
      fun hlost => ?_, fun hlink => ?_⟩,
    fun n => ⟨fun left hajar hruns => ?_, fun h => ?_⟩, fun hidles => ?_, fun hidles => ?_, rfl,
    fun hrun => ⟨?_, fun i hmode hjob hover hsweep => ?_, fun h => ?_⟩⟩
  · rw [secondEvents_term]; rfl
  · rw [secondEvents_term, (linkCounts_iff s).mpr hlink, termSecond_counts hmode hjob]
  · rw [secondEvents_term, termSecond_stands]
    exact h.imp_left fun hlost => Bool.eq_false_iff.mpr fun hc => (linkCounts_iff s).mp hc hlost
  · rw [secondEvents_term]; rfl
  · rw [secondEvents_windows hlink]
    exact (Vector.getElem_map contextSecond t.isLt).trans (congrArg contextSecond hdue)
  · by_cases hlost : s.link.state = .lost
    · rw [secondEvents_lost hlost]
    · rw [secondEvents_windows hlost]
      exact (Vector.getElem_map contextSecond t.isLt).trans (contextSecond_quiet hdue)
  · exact secondEvents_lost hlost
  · rw [secondEvents_windows hlink]
    rfl
  · rw [secondEvents_door, if_pos ((doorRuns_iff n s).mpr hruns), ajarSecond, hajar]
  · rw [secondEvents_door]
    rcases h with h | h
    · rw [ajarSecond_quiet h, ite_self]
    · exact if_neg (mt (doorRuns_iff n s).mp h)
  · exact if_pos ((idleRuns_iff s).mpr hidles)
  · exact if_neg (mt (idleRuns_iff s).mp hidles)
  · exact act_eq hrun rfl
  · refine act_eq (f := fun s => if inactivityOver t s then signOff t s else s) hrun ?_
    exact (if_pos ((inactivityOver_iff t s).mpr ⟨⟨i, hmode⟩, hjob, hover⟩)).trans (signOff_of_no_sweep hsweep)
  · refine act_eq (f := fun s => if inactivityOver t s then signOff t s else s) hrun (if_neg fun hover => ?_)
    obtain ⟨⟨i, hmode⟩, -, hzero⟩ := (inactivityOver_iff t s).mp hover
    rcases h with h | h
    · exact h i hmode
    · exact h hzero

/-! ### The scrubber and the idle timer (R191, R209, R210) -/

theorem scrubEntry_good (h : TablesGood s) (c : Nat) : scrubEntry c s = s := by
  obtain ⟨hcomps, hparcels, hways⟩ := h
  unfold scrubEntry
  split
  · exact verifyComp_good (hcomps _)
  · split
    · exact if_pos (hparcels _)
    · split
      · exact if_pos (hways _)
      · rfl

/-- Settles O56. Good entries stay as they are; the idle timer ends the day of a quiet bank alone. -/
theorem scrubberAndIdleTimer : Obligations.ScrubberAndIdleTimer := by
  refine fun s hrun => ⟨fun hon hgood => act_eq hrun ?_, fun hoff => act_eq hrun (if_neg ?_),
    fun hawake hquiet hidle hzero => ?_, fun h => ?_⟩
  · rw [scrubVisit, cfg, if_pos hon]
    dsimp only
    rw [scrubEntry_good hgood]
    exact congrArg (fun c => { s with checker := { s.checker with cursor := c, timer := 100 } }) (Fin.ext rfl)
  · rw [cfg, hoff]
    exact Bool.false_ne_true
  · refine act_eq (f := fun s => if idleRuns s && s.dormancy.idle == 0 then enterDormant s else s) hrun (if_pos ?_)
    rw [(idleRuns_iff s).mpr ⟨hawake, hquiet, hidle⟩, hzero]
    rfl
  · refine act_eq (f := fun s => if idleRuns s && s.dormancy.idle == 0 then enterDormant s else s) hrun (if_neg ?_)
    rw [Bool.and_eq_true, idleRuns_iff, beq_iff_eq]
    rintro ⟨⟨hawake, hquiet, hidle⟩, hzero⟩
    rcases h with h | h | h | h
    · exact h hawake
    · exact nomatch hquiet.symm.trans h
    · omega
    · exact h hzero

end Sys2Proof.Machine

/-! PROOFS. What uses a free bus (7.4). -/

namespace Sys2Proof.Machine

open Sys2Proof.Wire

variable {s : State} {op : Op}

/-! ### Broadcasts first (R132) -/

/-- The broadcast an operation is. -/
def broadcast? : Op → Option Broadcast
  | .broadcast b => some b
  | _ => none

theorem broadcast?_none : broadcast? op = none ↔ ∀ d, op ≠ .broadcast d := by
  cases op with
  | broadcast b => exact ⟨nofun, fun h => absurd rfl (h b)⟩
  | _ => exact ⟨fun _ _ => nofun, fun _ => rfl⟩

theorem nextBroadcast_eq (s : State) : nextBroadcast s = (s.bus.queue ++ s.bus.overflow).findSome? broadcast? :=
  congrArg (fun f => (s.bus.queue ++ s.bus.overflow).findSome? f) (funext fun op => by cases op <;> rfl)

theorem nextBroadcast_first {before after : List Op} {b : Broadcast} (hoverflow : s.bus.overflow = [])
    (hqueue : s.bus.queue = before ++ .broadcast b :: after) (hbefore : ∀ o ∈ before, ∀ d, o ≠ .broadcast d) :
    nextBroadcast s = some b := by
  have hnone : before.findSome? broadcast? = none :=
    List.findSome?_eq_none_iff.mpr fun o ho => broadcast?_none.mpr (hbefore o ho)
  rw [nextBroadcast_eq, hoverflow, hqueue, List.append_nil, List.findSome?_append, hnone]
  rfl

theorem nextBroadcast_none (hoverflow : s.bus.overflow = []) (h : ∀ o ∈ s.bus.queue, ∀ d, o ≠ .broadcast d) :
    nextBroadcast s = none := by
  rw [nextBroadcast_eq, hoverflow, List.append_nil]
  exact List.findSome?_eq_none_iff.mpr fun o ho => broadcast?_none.mpr (h o ho)

/-- The operation chosen leaves the queue, with nothing held back to take its place (R131). -/
theorem takeOp_split {before after : List Op} (hoverflow : s.bus.overflow = []) (hqueue : s.bus.queue = before ++ op :: after)
    (hbefore : op ∉ before) : takeOp op s = { s with bus := { s.bus with queue := before ++ after } } := by
  have hmem : op ∈ s.bus.queue := by rw [hqueue]; exact List.mem_append_right _ (List.mem_cons_self ..)
  have herase : s.bus.queue.erase op = before ++ after := by
    rw [hqueue, List.erase_append_right _ hbefore, List.erase_cons_head]
  rw [takeOp, if_pos hmem, herase]
  exact congrArg (fun b => { s with bus := b })
    (refill_of_no_overflow (b := { s.bus with queue := before ++ after }) hoverflow)

/-! ### The operations, by rank and age (R132) -/

theorem oldestOfRank_none {r : Nat} (h : ∀ o ∈ s.bus.queue, placeable s o = true → opRank o ≠ r) : oldestOfRank r s = none := by
  refine List.find?_eq_none.mpr fun o ho hp => ?_
  obtain ⟨hrank, hplaced⟩ := Bool.and_eq_true_iff.mp hp
  exact h o ho hplaced (beq_iff_eq.mp hrank)

theorem oldestOfRank_some {before after : List Op} (hqueue : s.bus.queue = before ++ op :: after)
    (hplaced : placeable s op = true) (hbefore : ∀ o ∈ before, placeable s o = true → opRank o ≠ opRank op) :
    oldestOfRank (opRank op) s = some op := by
  have hnone : before.find? (fun o => opRank o == opRank op && placeable s o) = none :=
    List.find?_eq_none.mpr fun o ho hp =>
      hbefore o ho (Bool.and_eq_true_iff.mp hp).2 (beq_iff_eq.mp (Bool.and_eq_true_iff.mp hp).1)
  rw [oldestOfRank, hqueue, List.find?_append, hnone, Option.none_or]
  exact List.find?_cons_of_pos (Bool.and_eq_true_iff.mpr ⟨beq_iff_eq.mpr rfl, hplaced⟩)

theorem opRank_of_placeable (h : placeable s op = true) : 1 ≤ opRank op ∧ opRank op ≤ 5 := by
  cases op with
  | broadcast b => cases h
  | _ => simp [opRank]

theorem nextOp_of_rank {r : Nat} (hr : 1 ≤ r ∧ r ≤ 5) (hnone : ∀ q < r, oldestOfRank q s = none)
    (hsome : oldestOfRank r s = some op) : nextOp s = some op := by
  obtain ⟨hlo, hhi⟩ := hr
  interval_cases r <;> simp [nextOp, hsome, hnone]

theorem nextOp_none (h : ∀ o ∈ s.bus.queue, placeable s o = false) : nextOp s = none := by
  refine List.findSome?_eq_none_iff.mpr fun r _ => oldestOfRank_none fun o ho hp => ?_
  exact nomatch (h o ho).symm.trans hp

/-! ### The choice (R132) -/

theorem chooseBus_retry (hfree : s.bus.use = .free) (hnone : nextBroadcast s = none) {r : Retry} (hr : s.bus.retry = some r) :
    chooseBus s = if r.wait = .ready then setUse (.attempt r.exchange) (setRetry none s) else s := by
  unfold chooseBus
  rw [hfree]
  dsimp only
  rw [hnone]
  dsimp only
  rw [hr]

theorem chooseBus_op (hfree : s.bus.use = .free) (hnone : nextBroadcast s = none) (hr : s.bus.retry = none) :
    chooseBus s = (nextOp s).elim s (fun op =>
      setUse (.attempt { op := op, busy := 0, silence := 0, woke := false, recalled := false }) (takeOp op s)) := by
  unfold chooseBus
  rw [hfree]
  dsimp only
  rw [hnone]
  dsimp only
  rw [hr]
  dsimp only
  cases nextOp s <;> rfl

theorem chooseBus_broadcast (hfree : s.bus.use = .free) {b : Broadcast} (hb : nextBroadcast s = some b) :
    chooseBus s = setUse (.sending b) (takeOp (.broadcast b) s) := by
  unfold chooseBus
  rw [hfree]
  dsimp only
  rw [hb]

/-- Settles O52. The queue is searched by rank, and in a rank by age. -/
theorem freeBusChoosesByKind : Obligations.FreeBusChoosesByKind := by
  intro s hfree hoverflow placed rank
  have placed_iff : ∀ o, placeable s o = true ↔ placed o := fun o => by
    cases o <;> simp [placeable, isProbe, opColumn, columnPresent, placed]
  refine ⟨fun before b after hqueue hbefore => ?_, fun hnone => ⟨fun r hr hready => ?_, fun r hr hwait => ?_,
    fun hr hplaced => ?_, fun before op after hr hqueue hplaced hbefore hafter => ?_⟩⟩
  · rw [chooseBus_broadcast hfree (nextBroadcast_first hoverflow hqueue hbefore),
      takeOp_split hoverflow hqueue fun h => hbefore _ h b rfl]
    rfl
  · rw [chooseBus_retry hfree (nextBroadcast_none hoverflow hnone) hr, if_pos hready]
    rfl
  · rw [chooseBus_retry hfree (nextBroadcast_none hoverflow hnone) hr, if_neg hwait]
  · rw [chooseBus_op hfree (nextBroadcast_none hoverflow hnone) hr, nextOp_none]
    · rfl
    · exact fun o ho => Bool.eq_false_iff.mpr fun h => hplaced o ho ((placed_iff o).mp h)
  · have hop : placeable s op = true := (placed_iff op).mpr hplaced
    have hlower : ∀ o ∈ before, placeable s o = true → opRank op < opRank o := fun o ho h =>
      hbefore o ho ((placed_iff o).mp h)
    have hupper : ∀ o ∈ after, placeable s o = true → opRank op ≤ opRank o := fun o ho h =>
      hafter o ho ((placed_iff o).mp h)
    have hlowest : ∀ o ∈ s.bus.queue, placeable s o = true → opRank op ≤ opRank o := by
      intro o ho h
      rw [hqueue] at ho
      rcases List.mem_append.mp ho with ho | ho
      · exact Nat.le_of_lt (hlower o ho h)
      · rcases List.mem_cons.mp ho with rfl | ho
        · exact Nat.le_refl _
        · exact hupper o ho h
    have hnext : nextOp s = some op :=
      nextOp_of_rank (opRank_of_placeable hop)
        (fun q hq => oldestOfRank_none fun o ho h e => absurd (hlowest o ho h) (by omega))
        (oldestOfRank_some hqueue hop fun o ho h => Nat.ne_of_gt (hlower o ho h))
    rw [chooseBus_op hfree (nextBroadcast_none hoverflow hnone) hr, hnext, Option.elim_some,
      takeOp_split hoverflow hqueue fun h => Nat.lt_irrefl _ (hlower op h hop)]
    rfl

end Sys2Proof.Machine

/-! PROOFS. How an attempt on the bus ends (7.2, 7.4). -/

namespace Sys2Proof.Machine

open Sys2Proof.Wire

variable {s : State} {x : Exchange} {c : Col}

/-! ### What meets the attempt (R124) -/

theorem attempt?_eq (huse : s.bus.use = .attempt x) : attempt? s = some x := by rw [attempt?, huse]

theorem onAttempt_eq (huse : s.bus.use = .attempt x) (f : Exchange → State → State) : onAttempt f s = f x s := by
  rw [onAttempt, attempt?_eq huse]

theorem answered_eq (huse : s.bus.use = .attempt x) (hc : opColumn x.op = some c) (f : Exchange → Col → State → State) :
    answered (addressByte c) f s = f x c s := by
  rw [answered, onBus, attempt?_eq huse]
  dsimp only
  rw [hc]
  exact if_pos rfl

theorem heardNothing_eq (hc : opColumn x.op = some c) (s : State) : heardNothing x s = silent x (count (.noAnswer c) s) := by
  rw [heardNothing, hc]

theorem stalled_eq (hc : opColumn x.op = some c) (s : State) : stalled x s = silent x (count (.stall c) s) := by
  rw [stalled, hc]

theorem busyHeard_eq (hc : opColumn x.op = some c) (s : State) : busyHeard x s =
    if x.busy < 3 ∨ x.recalled = true then
      attemptAgain { x with busy := x.busy + 1 } (.afterBusy Config.busyWait) (count (.busy c) s)
    else busyFailure x (setUse .free (count (.busy c) s)) := by
  rw [busyHeard, hc]

theorem wakeHeard_eq (hc : opColumn x.op = some c) (s : State) : wakeHeard x s =
    if x.woke then silent x (count (.wake c) s)
    else attemptAgain { x with woke := true } (.afterWake s.mgmt.config.wakeSettle) (count (.wake c) s) := by
  rw [wakeHeard, hc]
  rfl

theorem endRetryWait_ends {r : Retry} {kind : RetryWait → Bool} (hr : s.bus.retry = some r) (hk : kind r.wait = true) :
    endRetryWait kind s = setRetry (some { r with wait := .ready }) s := by
  rw [endRetryWait, hr]
  exact if_pos hk

theorem endRetryWait_stands {r : Retry} {kind : RetryWait → Bool} (hr : s.bus.retry = some r) (hk : kind r.wait = false) :
    endRetryWait kind s = s := by
  rw [endRetryWait, hr]
  exact if_neg (by rw [hk]; exact Bool.false_ne_true)

/-- Settles O50. An attempt counts what it met, then goes on, fails, or, called back, returns its grant. -/
theorem failedAttemptsAreCountedAndRetried : Obligations.FailedAttemptsAreCountedAndRetried := by
  refine ⟨fun s x c hrun huse hc => ?_, fun s r ms hrun hr => ⟨fun hwait => ⟨?_, ?_⟩, fun hwait => ⟨?_, ?_⟩⟩⟩
  · intro free again unheard
    have hagain : ∀ (k : Counter) (y : Exchange) (wait : RetryWait), y.recalled = x.recalled → y.op = x.op →
        attemptAgain y wait (count k s) = again k y wait := by
      rintro k ⟨op, busy, silence, woke, recalled⟩ wait hrecalled hop
      obtain ⟨op, _, _, _, recalled⟩ := x
      obtain rfl : _ = recalled := hrecalled
      obtain rfl : _ = op := hop
      cases recalled with
      | false => rfl
      | true => cases op <;> rfl
    have hsilent : ∀ cmd k, exec cmd s = .next (conclude (silent x (count k s))) → unheard cmd k := by
      refine fun cmd k hexec => ⟨fun hfew => ?_, fun hmany => ?_⟩
      · rw [hexec, silent, if_pos hfew, hagain k { x with silence := x.silence + 1 } .ready rfl rfl]
      · rw [hexec, silent, if_neg (Nat.not_lt.mpr hmany)]
        rfl
    refine ⟨hsilent _ _ (act_eq hrun ?_), hsilent _ _ (act_eq hrun ?_), fun hwoke => hsilent _ _ (act_eq hrun ?_),
      fun hwoke => act_eq hrun ?_, fun hbusy => act_eq hrun ?_, fun hbusy hrecalled => act_eq hrun ?_⟩
    · rw [onAttempt_eq huse, heardNothing_eq hc]
    · rw [onAttempt_eq huse, stalled_eq hc]
    · rw [answered_eq huse hc, wakeHeard_eq hc, if_pos hwoke]
    · rw [answered_eq huse hc, wakeHeard_eq hc, hwoke, if_neg Bool.false_ne_true,
        hagain _ { x with woke := true } _ rfl rfl]
    · rw [answered_eq huse hc, busyHeard_eq hc, if_pos hbusy,
        hagain _ { x with busy := x.busy + 1 } _ rfl rfl]
      rfl
    · rw [answered_eq huse hc, busyHeard_eq hc, if_neg]
      · rfl
      · rintro (h | h)
        · omega
        · exact nomatch hrecalled.symm.trans h
  · exact act_eq hrun (endRetryWait_ends hr (by rw [hwait]; rfl))
  · exact act_eq hrun (endRetryWait_stands hr (by rw [hwait]; rfl))
  · exact act_eq hrun (endRetryWait_ends hr (by rw [hwait]; rfl))
  · exact act_eq hrun (endRetryWait_stands hr (by rw [hwait]; rfl))

end Sys2Proof.Machine

/-! PROOFS. What an accepted PULSE, RELAY and PROBE lead to (7.3, 7.6, 7.7). -/

namespace Sys2Proof.Machine

open Sys2Proof.Wire

variable {s : State} {x : Exchange} {c : Col} {n : CompNo}

/-! ### A delivery (R11, R143, R157) -/

theorem onComp_good (h : compGood n s = true) (f : State → State) : onComp n f s = f s := if_pos h

theorem deliver_stale {length : Nat} (h : s.comps[n].phase = .none ∨ (s.comps[n].phase = .awaitGrant ∧ isWaiting n s = true)) :
    deliver n length s = count .pulses (goInFlight n length s) := by
  refine if_pos ?_
  show (s.comps[n].phase == .none || (s.comps[n].phase == .awaitGrant && isWaiting n s)) = true
  rcases h with h | ⟨h, hw⟩
  · rw [h]; rfl
  · rw [h, hw]; rfl

theorem deliver_taken {length : Nat} (hgood : compGood n s = true)
    (h : s.comps[n].phase = .opened ∨ s.comps[n].phase = .awaitOpen ∨ (s.comps[n].phase = .awaitGrant ∧ isWaiting n s = false)) :
    deliver n length s = takeDelivery n (count .pulses (goInFlight n length s)) := by
  refine (if_neg (c := deliveryIsStale n (count .pulses (goInFlight n length s)) = true) ?_).trans (if_pos hgood)
  show ¬ (s.comps[n].phase == .none || (s.comps[n].phase == .awaitGrant && isWaiting n s)) = true
  rcases h with h | h | ⟨h, hw⟩
  · rw [h]; exact Bool.false_ne_true
  · rw [h]; exact Bool.false_ne_true
  · rw [h, hw]; exact Bool.false_ne_true

/-- The entry of a delivery that is awaited (R11). -/
def openAwaited (c : Compartment) : Compartment :=
  { c with state := if c.state = .held then .loading else c.state, phase := .awaitOpen }

theorem takeDelivery_awaited (h : s.comps[n].phase = .awaitOpen ∨ s.comps[n].phase = .awaitGrant) :
    takeDelivery n s = startTimers n (modComp n openAwaited s) := by
  have hphase : (deliveredComp s.comps[n]).phase = .awaitOpen := by
    rcases h with h | h <;> rw [deliveredComp, h] <;> rfl
  have hcomp : deliveredComp s.comps[n] = openAwaited s.comps[n] := by
    rw [openAwaited, ← hphase]
    rfl
  have hmod : modComp n deliveredComp s = modComp n openAwaited s := by
    rw [modComp, hcomp]
    rfl
  rw [takeDelivery, hmod]
  refine if_pos ?_
  rw [modComp_at, if_pos rfl]
  rfl

theorem takeDelivery_open (h : s.comps[n].phase = .opened) :
    takeDelivery n s = modComp n (fun k => { k with state := if k.state = .held then .loading else k.state }) s := by
  have hcomp : deliveredComp s.comps[n] =
      { s.comps[n] with state := if s.comps[n].state = .held then .loading else s.comps[n].state } := by
    rw [deliveredComp, if_neg (c := s.comps[n].phase = .awaitGrant) (by rw [h]; decide)]
  have hmod : modComp n deliveredComp s =
      modComp n (fun k => { k with state := if k.state = .held then .loading else k.state }) s := by
    rw [modComp, hcomp]
    rfl
  rw [takeDelivery, hmod]
  refine if_neg ?_
  rw [modComp_at, if_pos rfl]
  show ¬ s.comps[n].phase = .awaitOpen
  rw [h]
  decide

/-! ### The map check (R122, R130) -/

theorem clampCount_eq (b : Byte) : clampCount b = ⟨min b.toNat 20, by omega⟩ := by
  unfold clampCount
  split
  · exact Fin.ext (by show b.toNat = min b.toNat 20; omega)
  · exact Fin.ext (by show 20 = min b.toNat 20; omega)

theorem mismatched_eq (n : CompNo) (c : Col) (s : State) : mismatched n c s =
    (s.comps[n].place.any (fun p => p.col == c && decide (s.bus.columns[c].count.val ≤ p.pos.val))
      && s.comps[n].state != .unfitted) := by
  by_cases h : s.comps[n].state = .unfitted
  · rw [mismatched, fittedPlace_unfitted _ _ h, h]
    exact (Bool.and_false _).symm
  · rw [mismatched, fittedPlace_fitted _ _ h, bne_iff_ne.mpr h, Bool.and_true]
    cases s.comps[n].place <;> rfl

theorem causeBar_tablesGood (n : CompNo) (cause : BarCause) (h : TablesGood s) : TablesGood (causeBar n cause s) :=
  (keeps_causeBar n cause (.refl (taking := True) (quoting := True) s)).good h

/-- Where entries are good, a fold of requests at entries is a fold of what they do. -/
theorem foldl_onComp {f : CompNo → State → State} (hf : ∀ n s, TablesGood s → TablesGood (f n s)) (l : List CompNo)
    (h : TablesGood s) : l.foldl (fun s n => onComp n (f n) s) s = l.foldl (fun s n => f n s) s := by
  induction l generalizing s with
  | nil => rfl
  | cons n l ih => rw [List.foldl_cons, List.foldl_cons, onComp_good (h.1 n), ih (hf n s h)]

theorem mapCheck_eq (c : Col) (h : TablesGood s) : mapCheck c s =
    let bad := (List.finRange 240).filter (fun n => mismatched n c s)
    let barred := bad.foldl (fun y n => causeBar n .mapMismatch y) s
    if ∃ n ∈ bad, s.comps[n].state ≠ .barred then raise (.column (addressByte c) .mapMismatch) barred else barred := by
  dsimp only [mapCheck]
  rw [foldl_onComp (f := fun n => causeBar n .mapMismatch) (fun n s => causeBar_tablesGood n _) _ h]
  refine if_congr ?_ rfl rfl
  rw [List.any_eq_true]
  refine exists_congr fun n => and_congr_right fun _ => ?_
  rw [newlyBarred, h.1 n, Bool.and_true, bne_iff_ne]

/-! ### The end of a probe (R128, R129) -/

theorem probeOver_idle (h : s.bus.enumeration = none) (en : Bool) :
    probeOver c en s = modColumn c (fun e => { e with probeDue := false }) s := by
  unfold probeOver
  rw [h]

theorem probeOver_own {e : Enumeration} (h : s.bus.enumeration = some e) : probeOver c true s =
    let unmarked := modColumn c (fun e => { e with probeDue := false }) s
    let todo := e.todo.filter (fun d => d != c)
    if todo = [] then
      let ended := { unmarked with bus := { unmarked.bus with enumeration := none } }
      e.reply.elim ended fun r =>
        placeReply { tag := r.1, origin := r.2, body := 0x2D#8 :: replyOctet .ok :: enumerationFields ended } ended
    else { unmarked with bus := { unmarked.bus with enumeration := some { e with todo := todo } } } := by
  obtain ⟨todo, reply⟩ := e
  unfold probeOver
  rw [h]
  cases reply <;> rfl

theorem probeOver_other {e : Enumeration} (h : s.bus.enumeration = some e) : probeOver c false s =
    if c ∈ e.todo then s else modColumn c (fun e => { e with probeDue := false }) s := by
  unfold probeOver
  rw [h]
  rfl

/-- A probe's marker takes no part in what an enumeration answers. -/
theorem enumerationFields_unmarked (e : Option Enumeration) :
    let unmarked := modColumn c (fun e => { e with probeDue := false }) s
    enumerationFields { unmarked with bus := { unmarked.bus with enumeration := e } } = enumerationFields s := by
  have hcol : ∀ d : Col, let e := (modColumn c (fun e => { e with probeDue := false }) s).bus.columns[d]
      e.state = s.bus.columns[d].state ∧ e.count = s.bus.columns[d].count := by
    intro d
    dsimp only
    rw [modColumn_at]
    split
    · next h => subst h; exact ⟨rfl, rfl⟩
    · exact ⟨rfl, rfl⟩
  intro unmarked
  refine congrArg (fun f => allCols.flatMap f) (funext fun d => ?_)
  obtain ⟨hstate, hcount⟩ := hcol d
  exact congr (congrArg _ (congrArg columnStateCode hstate)) (congrArg (fun k : Fin 21 => num2 k.val) hcount)

/-- Settles O48. A stale PULSE goes in flight alone; the map check bars what lies at or beyond the count. -/
theorem acceptEndsTheExchange : Obligations.AcceptEndsTheExchange := by
  refine ⟨fun s x c hrun huse => ?_, fun s n => rfl, fun s c => ?_⟩
  · intro free
    have haccept : ∀ f : Exchange → Col → State → State, opColumn x.op = some c → answered (addressByte c) f s = f x c s :=
      fun f hc => answered_eq huse hc f
    refine ⟨fun n pos length hop => ?_, fun kind message tag o hop => ?_, fun number en hop htables => ?_⟩
    · have hpulse : answered (addressByte c) acceptPulse s = deliver n length free := by
        rw [haccept _ (by rw [hop]; rfl), acceptPulse, hop]
        rfl
      refine ⟨fun hphase hgood => act_eq hrun ?_, fun hphase hgood => act_eq hrun ?_, fun hphase => act_eq hrun ?_⟩
      · rw [hpulse, deliver_taken (s := free) hgood (.inr hphase)]
        exact takeDelivery_awaited (hphase.imp id And.left)
      · rw [hpulse, deliver_taken (s := free) hgood (.inl hphase)]
        exact takeDelivery_open hphase
      · rw [hpulse]
        exact deliver_stale hphase
    · refine act_eq hrun ?_
      rw [haccept _ (by rw [hop]; rfl), acceptRelay, hop]
      rfl
    · intro reported present beyond barred checked back
      refine act_eq hrun ?_
      rw [haccept _ (by rw [hop]; rfl), acceptProbe, hop]
      refine congrArg (probeOver c en) ?_
      rw [probeAnswer]
      have hcount : clampCount number = reported := clampCount_eq number
      have hpresent : modColumn c (fun e => { e with state := .present, count := clampCount number, pollDue := true })
          (setUse .free s) = present := by rw [hcount]; rfl
      have hbeyond : (List.finRange 240).filter (fun n => mismatched n c present) = beyond := by
        refine congrArg (fun f => List.filter f _) (funext fun n => ?_)
        rw [mismatched_eq]
        refine congrArg (fun k : Fin 21 => s.comps[n].place.any (fun p => p.col == c && decide (k.val ≤ p.pos.val))
          && s.comps[n].state != .unfitted) ?_
        rw [modColumn_at, if_pos rfl]
      rw [hpresent, mapCheck_eq c (s := present) htables, hbeyond]
      rfl
  · refine ⟨fun h en => probeOver_idle h en, fun e h => ?_⟩
    intro todo
    refine ⟨fun hc => (probeOver_other h).trans (if_pos hc), fun hc => (probeOver_other h).trans (if_neg hc),
      fun ht => (probeOver_own h).trans (if_neg ht), fun ht hr => ?_, fun tag o ht hr => ?_⟩
    · refine (probeOver_own h).trans ((if_pos ht).trans ?_)
      rw [hr]
      rfl
    · refine (probeOver_own h).trans ((if_pos ht).trans ?_)
      rw [hr]
      dsimp only [Option.elim]
      rw [enumerationFields_unmarked]
      rfl

end Sys2Proof.Machine

/-! PROOFS. How a bolt trace is classified and acted on (8.4). -/

namespace Sys2Proof.Machine

open Sys2Proof.Wire

variable {s : State} {x : Exchange} {c : Col} {n : CompNo}

theorem inWindow_iff (s : State) (e : Edge) : inWindow s e = true ↔
    s.mgmt.config.windowMin ≤ e.offset.toNat ∧ e.offset.toNat ≤ s.mgmt.config.windowMax := by
  rw [inWindow, Bool.and_eq_true, decide_eq_true_iff, decide_eq_true_iff]
  rfl

theorem fallsInside_iff (s : State) (edges : List Edge) :
    edges.any (fun e => e.dir == .fall && inWindow s e) = true ↔ ∃ e ∈ edges, e.dir = .fall ∧
      (s.mgmt.config.windowMin ≤ e.offset.toNat ∧ e.offset.toNat ≤ s.mgmt.config.windowMax) := by
  rw [List.any_eq_true]
  exact exists_congr fun e => and_congr_right fun _ => by rw [Bool.and_eq_true, beq_iff_eq, inWindow_iff]

theorem classify_edges {edges : List Edge} (h : edges ≠ []) : classify s edges false =
    if edges.any (fun e => e.dir == .fall && inWindow s e) then .boltMoved else .boltSlow := by
  rw [classify, if_neg Bool.false_ne_true, if_neg h]

theorem traceAction_maint {cls : TraceClass} (h : s.comps[n].state = .maint) :
    traceAction n cls s = stopJobTimers n (modComp n (fun k => { k with phase := .none }) s) := if_pos h

theorem not_maint_of_isJob {st : CompState} (h : isJob st = true) : st ≠ .maint := by
  rintro rfl
  exact nomatch h

theorem traceAction_moved (h : isJob s.comps[n].state = true) : traceAction n .boltMoved s = s :=
  if_neg (not_maint_of_isJob h)

theorem traceAction_coil (h : isJob s.comps[n].state = true) : traceAction n .coilFault s = lockFault n .coilFault s :=
  if_neg (not_maint_of_isJob h)

theorem traceAction_stuck {cls : TraceClass} (h : isJob s.comps[n].state = true) (hcls : cls = .boltStuck ∨ cls = .boltSlow) :
    traceAction n cls s =
      if s.doors.records[n].pulseEnd = PulseEnd.cut then retry n false s
      else if s.comps[n].attempts = 2 then lockFault n cls s
      else retry n true s := by
  refine (if_neg (not_maint_of_isJob h)).trans ?_
  rcases hcls with rfl | rfl <;> rfl

theorem raiseAttempts_eq (a : Fin 3) : raiseAttempts a = if a = 0 then 1 else 2 := by
  revert a
  decide

theorem actOnTrace_unqueued {cls : TraceClass} (h : s.doors.records[n].traceStep ≠ .queued) : actOnTrace n cls s = s :=
  if_neg h

theorem actOnTrace_queued {cls : TraceClass} (h : s.doors.records[n].traceStep = .queued) (hgood : s.comps[n].phase = .awaitOpen → compGood n s = true) :
    actOnTrace n cls s =
      if s.comps[n].phase = .awaitOpen then traceAction n cls (modDoor n (fun d => { d with traceStep := .none }) s)
      else modDoor n (fun d => { d with traceStep := .none }) s := by
  refine (if_pos h).trans ?_
  by_cases hphase : s.comps[n].phase = .awaitOpen
  · rw [if_pos hphase]
    exact (if_pos (c := s.comps[n].phase = .awaitOpen) hphase).trans
      (onComp_good (s := modDoor n (fun d => { d with traceStep := .none }) s) (hgood hphase) _)
  · rw [if_neg hphase]
    exact if_neg (c := s.comps[n].phase = .awaitOpen) hphase

/-- Settles O49. The class of a trace, and what each class leads to on a maintained and on a job's compartment. -/
theorem traceReadIsClassifiedAndActedOn : Obligations.TraceReadIsClassifiedAndActedOn := by
  refine ⟨fun s edges failed => ?_, fun s n cls => ?_, fun s x c n traces place hrun huse hop hplace hfitted => ?_⟩
  · refine ⟨fun hf => if_pos hf, fun hf he => ?_, fun hf hedge => ?_, fun hf he hnone => ?_⟩
    · rw [hf, he]
      rfl
    · obtain ⟨e, he, hin⟩ := hedge
      rw [hf, classify_edges (List.ne_nil_of_mem he), if_pos ((fallsInside_iff s edges).mpr ⟨e, he, hin⟩)]
    · rw [hf, classify_edges he]
      exact if_neg (mt (fallsInside_iff s edges).mp fun ⟨e, hmem, hin⟩ => hnone e hmem hin)
  · intro asked
    refine ⟨traceAction_maint, fun hjob => ⟨?_, ?_, fun hcls => ?_⟩⟩
    · exact fun hcls => hcls ▸ traceAction_moved hjob
    · exact fun hcls => hcls ▸ traceAction_coil hjob
    · have hasked : grantClassOf s.comps[n].state = asked := by
        revert hjob
        dsimp only [asked]
        cases s.comps[n].state <;> simp [isJob, grantClassOf]
      have hact := traceAction_stuck (s := s) hjob hcls
      refine ⟨fun hcut => ?_, fun hcut htwo => ?_, fun hcut htwo => ?_⟩
      · rw [hact, if_pos hcut, retry, hasked]
        rfl
      · rw [hact, if_neg hcut, if_pos htwo]
      · rw [hact, if_neg hcut, if_neg htwo, retry, hasked]
        rw [if_pos rfl]
        simp only [raiseAttempts_eq]
  · intro found edges failed cls kept stepped leaves
    have hanswer : exec (.traceReadAccept (addressByte c) traces) s = .next (conclude (actOnTrace n cls kept)) := by
      refine act_eq hrun ?_
      rw [answered_eq huse (by rw [hop]; rfl), acceptTrace, hop]
      have hfind : fittedPlace n (setUse .free s) = some place := (fittedPlace_fitted n s hfitted).trans hplace
      dsimp only
      rw [traceAnswer, hfind]
      rfl
    refine ⟨fun hstep => ?_, fun hstep hphase => ?_, fun hstep hphase hgood => ?_⟩
    · exact hanswer.trans (congrArg (fun t => Host.Outcome.next (conclude t)) (actOnTrace_unqueued (s := kept) hstep))
    · refine hanswer.trans (congrArg (fun t => Host.Outcome.next (conclude t)) ?_)
      exact (actOnTrace_queued (s := kept) hstep fun h => absurd h hphase).trans (if_neg (c := s.comps[n].phase = .awaitOpen) hphase)
    · refine hanswer.trans (congrArg (fun t => Host.Outcome.next (conclude t)) ?_)
      exact (actOnTrace_queued (s := kept) hstep fun _ => hgood).trans (if_pos (c := s.comps[n].phase = .awaitOpen) hphase)

end Sys2Proof.Machine

/-! PROOFS. What a failed operation leads to (7.2, 7.3, 7.7, 8.4). -/

namespace Sys2Proof.Machine

open Sys2Proof.Wire

variable {s : State} {x : Exchange} {c : Col} {n : CompNo}

/-! ### A grant taken back (R140, R144) -/

theorem find?_committed_none (h : isCommitted n s = false) : s.arbiter.committed.find? (fun g => g.comp == n) = none := by
  rw [List.find?_eq_none]
  exact fun g hg hn => Bool.false_ne_true (h.symm.trans (List.any_eq_true.mpr ⟨g, hg, hn⟩))

theorem takeBack_uncommitted (h : isCommitted n s = false) : takeBack n s = s := by
  rw [takeBack, find?_committed_none h]

theorem takeBack_waiting (h : isCommitted n s = true) (hw : isWaiting n s = true) : takeBack n s =
    { s with arbiter := { s.arbiter with committed := s.arbiter.committed.filter (fun g => g.comp != n) } } := by
  obtain ⟨g, hg⟩ := Option.isSome_iff_exists.mp ((List.find?_isSome (p := fun g : Committed => g.comp == n)).mpr
    (List.any_eq_true.mp h))
  rw [takeBack, hg]
  exact if_pos hw

theorem takeBack_arbiter (n : CompNo) (s : State) : ∃ a, takeBack n s = { s with arbiter := a } := by
  unfold takeBack
  split
  · exact ⟨s.arbiter, rfl⟩
  · dsimp only
    split
    · exact ⟨_, rfl⟩
    · exact ⟨_, rfl⟩

theorem takeBack_bus (n : CompNo) (s : State) : (takeBack n s).bus = s.bus := by
  obtain ⟨a, h⟩ := takeBack_arbiter n s
  rw [h]

theorem takeBack_sameBut (n : CompNo) (s : State) : SameBut s (takeBack n s) := by
  obtain ⟨a, h⟩ := takeBack_arbiter n s
  rw [h]
  rfl

theorem insertByAge_between {older younger : List GrantRequest} {r : GrantRequest} (hold : ∀ q ∈ older, q.age ≤ r.age)
    (hyoung : ∀ q ∈ younger, r.age < q.age) : insertByAge r (older ++ younger) = older ++ r :: younger := by
  induction older with
  | nil =>
    cases younger with
    | nil => rfl
    | cons q qs => exact if_pos (hyoung q (List.mem_cons_self ..))
  | cons q older ih =>
    rw [List.cons_append, insertByAge, if_neg (Nat.not_lt.mpr (hold q (List.mem_cons_self ..))),
      ih fun p hp => hold p (List.mem_cons_of_mem _ hp)]
    rfl

theorem takeBack_rejoins {before after : List Committed} {g : Committed} (hset : s.arbiter.committed = before ++ g :: after)
    (hg : g.comp = n) (hfirst : ∀ h ∈ before, h.comp ≠ n) (hw : isWaiting n s = false) : takeBack n s =
    { s with arbiter := { s.arbiter with
      committed := s.arbiter.committed.filter (fun g => g.comp != n)
      waiting := insertByAge { comp := n, col := g.col, cls := g.cls, age := g.age } s.arbiter.waiting } } := by
  have hfind : s.arbiter.committed.find? (fun g => g.comp == n) = some g := by
    rw [hset, List.find?_append, List.find?_eq_none.mpr fun h hmem hn => hfirst h hmem (beq_iff_eq.mp hn)]
    exact List.find?_cons_of_pos (p := fun g : Committed => g.comp == n) (beq_iff_eq.mpr hg)
  rw [takeBack, hfind]
  exact if_neg (by rw [hw]; exact Bool.false_ne_true)

/-! ### Columns lost (R127) -/

theorem dropOps_of_no_overflow (p : Op → Bool) (h : s.bus.overflow = []) :
    dropOps p s = { s with bus := { s.bus with queue := s.bus.queue.filter (fun o => !p o) } } := by
  have hempty : s.bus.overflow.filter (fun o => !p o) = s.bus.overflow := by rw [h, List.filter_nil]
  rw [dropOps, hempty]
  exact congrArg (fun b => { s with bus := b })
    (refill_of_no_overflow (b := { s.bus with queue := s.bus.queue.filter (fun o => !p o) }) h)

theorem disposeOp_bus (op : Op) (s : State) : (disposeOp op s).bus = s.bus := by
  cases op with
  | relay _ _ _ tag o =>
    show (placeReply { tag := tag, origin := o, body := [0x0C, 0x13] } s).bus = s.bus
    rcases placeReply_cases { tag := tag, origin := o, body := [0x0C, 0x13] } s with ⟨_, h⟩ | ⟨_, h⟩ <;> rw [h]
  | traceRead n _ =>
    show (traceOwed n s).bus = s.bus
    rw [traceOwed, apply_ite State.bus]
    exact ite_self s.bus
  | pulse n =>
    exact takeBack_bus n s
  | _ => rfl

theorem foldl_disposeOp_bus (l : List Op) (s : State) : (l.foldl (fun s op => disposeOp op s) s).bus = s.bus := by
  induction l generalizing s with
  | nil => rfl
  | cons op l ih => rw [List.foldl_cons, ih, disposeOp_bus]

/-- The operations are dealt with, then the lost column's return and poll are over (R127, R134). -/
def disposeAll (c : Col) (l : List Op) (y : State) : State :=
  let z := l.foldl (fun s op => disposeOp op s) y
  lookOver (pollOver c { z with bus := { z.bus with returning := z.bus.returning.filter (fun d => d != c) } })

theorem columnAbsent_eq (c : Col) (failed : Option Op) (s : State) : columnAbsent c failed s =
    disposeAll c (failed.toList ++ (s.bus.queue ++ s.bus.overflow).filter (leavesWith c))
      (dropOps (leavesWith c) (columnAway c (raiseAbsent c (modColumn c (fun e => { e with state := .absent }) s)))) := rfl

theorem noAnswerFailure_eq (hc : opColumn x.op = some c) (hop : isProbe x.op = false) : noAnswerFailure x s =
    if s.bus.columns[c].state = .present ∨ s.bus.columns[c].state = .asleep then columnAbsent c (some x.op) s
    else lookOver (disposeOp x.op s) := by
  obtain ⟨op, _, _, _, _⟩ := x
  cases op with
  | broadcast => cases hc
  | probe => cases hop
  | _ =>
    cases hc
    dsimp only [noAnswerFailure, opColumn]
    cases s.bus.columns[c].state <;> rfl

/-! ### COLUMN_BUSY (R125, R144, R160) -/

theorem busyFailure_trace {n : CompNo} (hop : x.op = .traceRead n c) : busyFailure x s = traceBusy n c s := by
  rw [busyFailure, hop]

theorem traceBusy_first (hfitted : s.comps[n].state ≠ .unfitted) (h : s.doors.records[n].readFailed = false) :
    traceBusy n c s = enqueueOp (.traceRead n c) (modDoor n (fun d => { d with readFailed := true }) s) := by
  rw [traceBusy, if_neg hfitted, if_neg (by rw [h]; exact Bool.false_ne_true)]

theorem traceBusy_second (hfitted : s.comps[n].state ≠ .unfitted) (h : s.doors.records[n].readFailed = true) :
    traceBusy n c s = actOnTrace n .boltStuck s := by
  rw [traceBusy, if_neg hfitted, if_pos h]
  rfl

theorem returnGrant_busy (hgood : compGood n s = true) : returnGrant n true s =
    if isCommitted n s = true ∧ isWaiting n s = false then
      lookOver (modComp n (fun k => { k with attempts := if k.attempts = 0 then 1 else 2 }) (takeBack n s))
    else lookOver (takeBack n s) := by
  have hgood : compGood n (takeBack n s) = true :=
    (congrArg (fun v : Vector Compartment 240 => compartmentOk n v[n]) (takeBack_sameBut n s).comps).trans hgood
  have hrejoins : (isCommitted n s && !isWaiting n s) = true ↔ isCommitted n s = true ∧ isWaiting n s = false := by
    rw [Bool.and_eq_true, Bool.not_eq_true']
  by_cases h : isCommitted n s = true ∧ isWaiting n s = false
  · rw [returnGrant, if_pos h, hrejoins.mpr h]
    refine congrArg lookOver ((if_pos rfl).trans ?_)
    rw [onComp_good hgood]
    simp only [raiseAttempts_eq]
  · rw [returnGrant, if_neg h]
    exact congrArg lookOver (if_neg fun hc => h (hrejoins.mp hc))

/-- Settles O51. A lost column's operations are dealt with one after another, none of which touches the bus. -/
theorem failedOperationsAreDisposedOf : Obligations.FailedOperationsAreDisposedOf := by
  unfold Obligations.FailedOperationsAreDisposedOf
  intro dispose pollEnded lost
  have hdispose : ∀ op y, disposeOp op y = dispose y op := by
    intro op y
    cases op <;> rfl
  refine ⟨fun s x c hc hover => ?_, fun s x c => ?_, fun s n => ?_⟩
  · have hlost : ∀ failed, columnAbsent c failed s = lost c failed.toList s := by
      intro failed
      have hgone : (s.bus.queue ++ s.bus.overflow).filter (leavesWith c) = s.bus.queue.filter (leavesWith c) := by
        rw [hover, List.append_nil]
      have hfold : (fun (y : State) (op : Op) => disposeOp op y) = dispose := funext fun y => funext fun op => hdispose op y
      let away := columnAway c (raiseAbsent c (modColumn c (fun e => { e with state := .absent }) s))
      have haway : dropOps (leavesWith c) away =
          { away with bus := { away.bus with queue := s.bus.queue.filter (fun op => !leavesWith c op) } } :=
        dropOps_of_no_overflow (s := away) (leavesWith c) hover
      have hreturning : ∀ (l : List Op) (y : State), (l.foldl dispose y).bus.returning = y.bus.returning := fun l y => by
        rw [← hfold, foldl_disposeOp_bus]
      rw [columnAbsent_eq, hgone, haway, disposeAll, hfold, hreturning]
      rfl
    refine ⟨fun hprobe hstate => ?_, fun hprobe hstate => ?_, fun en hop => ?_⟩
    · rw [noAnswerFailure_eq hc hprobe, if_pos hstate, hlost]
      rfl
    · rw [noAnswerFailure_eq hc hprobe, if_neg (by rcases hstate with h | h <;> rw [h] <;> decide), hdispose]
    · intro absent
      have hprobe : noAnswerFailure x s = probeOver c en (probeNoAnswer c s) := by rw [noAnswerFailure, hop]
      refine ⟨fun h => ?_, fun h => ?_, fun h => ?_⟩
      · rw [hprobe, probeNoAnswer, h]
      · rw [hprobe, probeNoAnswer, h]
        refine congrArg (probeOver c en) (if_congr ?_ rfl rfl)
        rw [List.any_eq_true]
        exact exists_congr fun n => ⟨fun hn => beq_iff_eq.mp hn.2, fun hn => ⟨List.mem_finRange n, beq_iff_eq.mpr hn⟩⟩
      · have hmissing : probeNoAnswer c s = columnAbsent c none s := by
          rw [probeNoAnswer]
          rcases h with h | h <;> rw [h]
        rw [hprobe, hmissing, hlost]
        rfl
  · refine ⟨fun hop => ?_, fun en hop => ?_, fun kind message tag o hop => ?_, fun n hop hfitted => ⟨fun h => ?_, fun h hstep hphase hgood => ?_⟩,
      fun n pos length hop hgood => ⟨fun hcommitted hw => ?_, fun h => ?_⟩⟩
    · rw [busyFailure, hop]
      rfl
    · rw [busyFailure, hop]
    · rw [busyFailure, hop]
      rfl
    · rw [busyFailure_trace hop, traceBusy_first hfitted h]
    · rw [busyFailure_trace hop, traceBusy_second hfitted h, actOnTrace_queued hstep fun _ => hgood, if_pos hphase]
    · rw [busyFailure, hop]
      exact (returnGrant_busy hgood).trans (if_pos ⟨hcommitted, hw⟩)
    · rw [busyFailure, hop]
      refine (returnGrant_busy hgood).trans (if_neg ?_)
      rintro ⟨hcommitted, hw⟩
      rcases h with h | h
      · exact nomatch h.symm.trans hcommitted
      · exact nomatch h.symm.trans hw
  · intro left
    refine ⟨takeBack_uncommitted, takeBack_waiting, fun before after g older younger hset hg hfirst hw hwait hold hyoung => ?_⟩
    rw [takeBack_rejoins hset hg hfirst hw, hwait, insertByAge_between hold hyoung]

end Sys2Proof.Machine

/-! PROOFS. The ends of pulses and broadcasts, and what the arbiter grants (7.4, 7.7, 8.3, 11.5). -/

namespace Sys2Proof.Machine

open Sys2Proof.Wire

variable {s : State} {n : CompNo}

/-! ### The end of a pulse, told to the door supervisor (R157, R158, R166) -/

/-- A trace read of the compartment, at this place, waits for the end of its pulse and can be queued (R158, R166). -/
def TraceWaits (n : CompNo) (p : MapPlace) (s : State) : Prop :=
  s.comps[n].state ≠ .unfitted ∧ s.doors.records[n].traceStep = .atPulseEnd ∧ s.comps[n].phase = .awaitOpen ∧
    s.bus.columns[p.col].state = .present ∧ s.doors.firstPoll[p.col] = false

theorem columnOf_fitted {p : MapPlace} (hplace : s.comps[n].place = some p) (hfitted : s.comps[n].state ≠ .unfitted) :
    columnOf n s = some p.col := by
  rw [columnOf, fittedPlace_fitted n s hfitted, hplace]
  rfl

theorem columnOf_eq_some {c : Col} (h : columnOf n s = some c) :
    s.comps[n].state ≠ .unfitted ∧ ∃ p, s.comps[n].place = some p ∧ p.col = c := by
  have hfitted : s.comps[n].state ≠ .unfitted := fun hu => by
    rw [columnOf, fittedPlace_unfitted n s hu] at h
    cases h
  rw [columnOf, fittedPlace_fitted n s hfitted] at h
  exact ⟨hfitted, Option.map_eq_some_iff.mp h⟩

theorem queueTrace_eq {c : Col} (h : columnOf n s = some c) :
    queueTrace n s = enqueueOp (.traceRead n c) (modDoor n (fun d => { d with traceStep := .queued }) s) := by
  rw [queueTrace, h]

theorem notePulseEnd_queues {p : MapPlace} (e : PulseEnd) (hplace : s.comps[n].place = some p) (h : TraceWaits n p s) :
    notePulseEnd n e s = enqueueOp (.traceRead n p.col)
      (modDoor n (fun d => { d with traceStep := .queued }) (modDoor n (fun d => { d with pulseEnd := e }) s)) := by
  obtain ⟨hfitted, hstep, hphase, hpresent, hpolled⟩ := h
  have hcolumn : columnOf n (modDoor n (fun d => { d with pulseEnd := e }) s) = some p.col := columnOf_fitted hplace hfitted
  refine (if_pos ?_).trans (queueTrace_eq hcolumn)
  rw [Bool.and_eq_true, Bool.and_eq_true]
  refine ⟨⟨?_, beq_iff_eq.mpr hphase⟩, (doorRuns_iff n _).mpr ⟨p.col, hcolumn, hpresent, hpolled⟩⟩
  rw [modDoor_fitted n _ s hfitted]
  exact beq_iff_eq.mpr hstep

theorem notePulseEnd_stands (e : PulseEnd) (h : ∀ p, s.comps[n].place = some p → ¬ TraceWaits n p s) :
    notePulseEnd n e s = modDoor n (fun d => { d with pulseEnd := e }) s := by
  refine if_neg fun hc => ?_
  obtain ⟨hc, hruns⟩ := Bool.and_eq_true_iff.mp hc
  obtain ⟨hstep, hphase⟩ := Bool.and_eq_true_iff.mp hc
  obtain ⟨c, hcolumn, hpresent, hpolled⟩ := (doorRuns_iff n _).mp hruns
  obtain ⟨hfitted, p, hplace, rfl⟩ := columnOf_eq_some (s := s) hcolumn
  rw [modDoor_fitted n _ s hfitted] at hstep
  exact h p hplace ⟨hfitted, beq_iff_eq.mp hstep, beq_iff_eq.mp hphase, hpresent, hpolled⟩

/-! ### Pulses in flight (R133, R145) -/

/-- The compartment of a pulse in flight. -/
def flyingComp (g : Committed) : Option CompNo :=
  match g.stage with
  | .inFlight _ => some g.comp
  | .sent => none

theorem map_filter_flying (l : List Committed) :
    (l.filter (fun g => isInFlight g.stage)).map Committed.comp = l.filterMap flyingComp := by
  induction l with
  | nil => rfl
  | cons g l ih =>
    cases h : g.stage with
    | sent =>
      rw [List.filter_cons_of_neg (by rw [h]; exact Bool.false_ne_true), ih, List.filterMap_cons_none (by rw [flyingComp, h])]
    | inFlight length =>
      rw [List.filter_cons_of_pos (by rw [h]; rfl), List.map_cons, ih,
        List.filterMap_cons_some (b := g.comp) (by rw [flyingComp, h])]

theorem pulseFlies_iff : pulseFlies n s = true ↔ ∃ g ∈ s.arbiter.committed, g.comp = n ∧ g.stage ≠ .sent := by
  rw [pulseFlies, List.any_eq_true]
  refine exists_congr fun g => and_congr_right fun _ => ?_
  rw [Bool.and_eq_true, beq_iff_eq]
  refine and_congr_right fun _ => ?_
  cases g.stage with
  | sent => exact ⟨nofun, fun h => absurd rfl h⟩
  | inFlight length => exact ⟨fun _ => nofun, fun _ => rfl⟩

/-! ### Columns put to sleep (R133, R166) -/

theorem foldl_columnAway (l : List Col) (s : State) : l.foldl (fun s c => columnAway c s) s =
    { s with doors := { s.doors with firstPoll := Vector.ofFn (fun c : Col => s.doors.firstPoll[c] || decide (c ∈ l)) } } := by
  have hpoint : ∀ (l : List Col) (s : State),
      (l.foldl (fun s c => columnAway c s) s) = { s with doors := { s.doors with
        firstPoll := (l.foldl (fun s c => columnAway c s) s).doors.firstPoll } } ∧
      ∀ d : Col, (l.foldl (fun s c => columnAway c s) s).doors.firstPoll[d] = (s.doors.firstPoll[d] || decide (d ∈ l)) := by
    intro l
    induction l with
    | nil => exact fun s => ⟨rfl, fun d => by simp⟩
    | cons c l ih =>
      intro s
      obtain ⟨hframe, hat⟩ := ih (columnAway c s)
      refine ⟨hframe, fun d => ?_⟩
      rw [List.foldl_cons, hat]
      show ((s.doors.firstPoll.set c.val true c.isLt)[d.val] || decide (d ∈ l)) = _
      rw [Vector.getElem_set]
      by_cases h : c = d
      · subst h
        simp
      · rw [if_neg (Fin.val_ne_of_ne h)]
        simp [Ne.symm h]
  obtain ⟨hframe, hat⟩ := hpoint l s
  have hmarkers : (l.foldl (fun s c => columnAway c s) s).doors.firstPoll =
      Vector.ofFn (fun c : Col => s.doors.firstPoll[c] || decide (c ∈ l)) :=
    Vector.ext fun i hi => (hat ⟨i, hi⟩).trans
      (Vector.getElem_ofFn (f := fun c : Col => s.doors.firstPoll[c] || decide (c ∈ l)) hi).symm
  rw [hframe, hmarkers]

theorem sleepColumns_eq (hrelay : ∀ o ∈ s.bus.queue ++ s.bus.overflow, isRelay o = false) (hover : s.bus.overflow = []) :
    sleepColumns s = { s with
      bus := { s.bus with
        returning := []
        columns := s.bus.columns.map (fun e =>
          { e with pollDue := false, state := if e.state = .present then .asleep else e.state }) }
      doors := { s.doors with
        firstPoll := Vector.ofFn (fun c : Col => s.doors.firstPoll[c] || s.bus.columns[c].state == .present) } } := by
  have hnone : ∀ o ∈ s.bus.queue, relayToPresent s o = false := fun o ho => by
    rw [relayToPresent, hrelay o (List.mem_append_left _ ho), Bool.false_and]
  have hkept : s.bus.queue.filter (fun o => !relayToPresent s o) = s.bus.queue :=
    List.filter_eq_self.mpr fun o ho => by rw [hnone o ho]; rfl
  have hdrop : dropOps (relayToPresent s) s = s := by rw [dropOps_of_no_overflow _ hover, hkept]
  have hrelays : s.bus.queue.filter (relayToPresent s) = [] :=
    List.filter_eq_nil_iff.mpr fun o ho => by rw [hnone o ho]; exact Bool.false_ne_true
  have hmem : ∀ c : Col, decide (c ∈ allCols.filter (fun c => columnPresent c s)) = (s.bus.columns[c].state == .present) :=
    fun c => Bool.eq_iff_iff.mpr (by
      rw [decide_eq_true_iff, List.mem_filter]
      exact and_iff_right (List.mem_finRange c))
  rw [sleepColumns, hdrop, hrelays, List.foldl_nil, modColumns_map, foldl_columnAway]
  simp only [hmem]

theorem wakeSettled_eq (s : State) : wakeSettled s = lookOver { s with
    bus := { s.bus with columns := s.bus.columns.map (fun e =>
      if e.state = .asleep ∨ e.state = .present then { e with state := .present, pollDue := true } else e) }
    dormancy := { s.dormancy with
      settling := none
      wakeRound := some ((List.finRange 12).filter (fun c =>
        s.bus.columns[c].state == .asleep || s.bus.columns[c].state == .present)) } } := by
  let wake := fun (e : ColumnEntry) => if e.state = .asleep then { e with state := .present } else e
  let mark := fun (e : ColumnEntry) => if e.state = .present then { e with pollDue := true } else e
  have hentry : ∀ e : ColumnEntry, mark (wake e) =
      if e.state = .asleep ∨ e.state = .present then { e with state := .present, pollDue := true } else e := by
    rintro ⟨state, count, pollDue, probeDue⟩
    cases state <;> rfl
  have hcolumns : (s.bus.columns.map wake).map mark = s.bus.columns.map (fun e =>
      if e.state = .asleep ∨ e.state = .present then { e with state := .present, pollDue := true } else e) := by
    rw [Vector.map_map]
    exact congrArg (fun f => s.bus.columns.map f) (funext hentry)
  have hpresent : ∀ c : Col, ((s.bus.columns.map (fun e =>
      if e.state = .asleep ∨ e.state = .present then { e with state := .present, pollDue := true } else e))[c].state == .present) =
      (s.bus.columns[c].state == .asleep || s.bus.columns[c].state == .present) := by
    intro c
    rw [Fin.getElem_fin, Vector.getElem_map]
    obtain ⟨state, count, pollDue, probeDue⟩ := s.bus.columns[c.val]
    cases state <;> rfl
  rw [wakeSettled, modColumns_map, markPolls, modColumns_map, hcolumns]
  dsimp only [columnPresent]
  simp only [hpresent, allCols]

/-- Settles O53. A cut pulse is told to its door record; every column is put to sleep, and woken, alike. -/
theorem broadcastsTakeEffectWhenSent : Obligations.BroadcastsTakeEffectWhenSent := by
  intro s hrun free
  refine ⟨fun huse => ?_, fun huse hrelay hover => ?_, fun huse => ?_, fun hsettling => ?_⟩
  · intro flying cut
    refine act_eq hrun ?_
    have hflying : ((setUse .free s).arbiter.committed.filter (fun g => isInFlight g.stage)).map Committed.comp = flying :=
      map_filter_flying s.arbiter.committed
    have hcut : (fun (x : State) (n : CompNo) => notePulseEnd n .cut (leaveCommitted n x)) = cut := by
      refine funext fun x => funext fun n => ?_
      dsimp only [cut]
      split
      · next p hplace =>
        split
        · next h => exact notePulseEnd_queues (s := leaveCommitted n x) .cut hplace h
        · next h => exact notePulseEnd_stands (s := leaveCommitted n x) .cut fun q hq =>
            Option.some.inj (hplace.symm.trans hq) ▸ h
      · next hplace => exact notePulseEnd_stands (s := leaveCommitted n x) .cut fun q hq => nomatch hplace.symm.trans hq
    rw [if_pos (by rw [isSending, huse]; rfl), cutPulses, hflying, hcut]
    rfl
  · refine act_eq hrun ?_
    rw [if_pos (by rw [isSending, huse]; rfl)]
    exact sleepColumns_eq (s := free) hrelay hover
  · refine act_eq hrun ?_
    rw [if_pos (by rw [isSending, huse]; rfl)]
    rfl
  · refine act_eq hrun ?_
    rw [if_pos hsettling]
    exact wakeSettled_eq s

end Sys2Proof.Machine

/-! PROOFS. What the arbiter grants, and the ends of its timers and of the door timers (7.7, 8.3, 8.6). -/

namespace Sys2Proof.Machine

open Sys2Proof.Wire

variable {s : State} {n : CompNo}

/-! ### The next grant (R140, R142) -/

/-- The order of the grant classes, the highest first (R142). -/
def grantRank : GrantClass → Nat
  | .collect => 0
  | .deposit => 1
  | .sweep => 2
  | .maint => 3

theorem grantRank_injective : Function.Injective grantRank := by
  intro a b h
  cases a <;> cases b <;> cases h <;> rfl

theorem oldestEligible_none {cls : GrantClass} (h : ∀ r ∈ s.arbiter.waiting, isEligible s r = true → r.cls ≠ cls) :
    oldestEligible cls s = none :=
  List.find?_eq_none.mpr fun r hr hc => by
    obtain ⟨hcls, hopen⟩ := Bool.and_eq_true_iff.mp hc
    exact h r hr hopen (beq_iff_eq.mp hcls)

theorem oldestEligible_some {before after : List GrantRequest} {r : GrantRequest}
    (hwaiting : s.arbiter.waiting = before ++ r :: after) (hopen : isEligible s r = true)
    (hbefore : ∀ q ∈ before, isEligible s q = true → q.cls ≠ r.cls) : oldestEligible r.cls s = some r := by
  have hnone : before.find? (fun q => q.cls == r.cls && isEligible s q) = none :=
    List.find?_eq_none.mpr fun q hq hc => by
      obtain ⟨hcls, ho⟩ := Bool.and_eq_true_iff.mp hc
      exact hbefore q hq ho (beq_iff_eq.mp hcls)
  rw [oldestEligible, hwaiting, List.find?_append, hnone]
  exact List.find?_cons_of_pos (p := fun q : GrantRequest => q.cls == r.cls && isEligible s q) (by
    rw [hopen, beq_self_eq_true]; rfl)

theorem nextGrant_none (h : ∀ r ∈ s.arbiter.waiting, isEligible s r = false) : nextGrant s = none := by
  have hnone : ∀ cls, oldestEligible cls s = none := fun cls =>
    oldestEligible_none fun r hr ho => nomatch (h r hr).symm.trans ho
  rw [nextGrant, hnone, hnone, hnone, hnone]
  rfl

theorem nextGrant_some {before after : List GrantRequest} {r : GrantRequest}
    (hwaiting : s.arbiter.waiting = before ++ r :: after) (hopen : isEligible s r = true)
    (hbefore : ∀ q ∈ before, isEligible s q = true → grantRank r.cls < grantRank q.cls)
    (hafter : ∀ q ∈ after, isEligible s q = true → grantRank r.cls ≤ grantRank q.cls) : nextGrant s = some r := by
  have hown : oldestEligible r.cls s = some r :=
    oldestEligible_some hwaiting hopen fun q hq ho he => (he ▸ hbefore q hq ho).ne rfl
  have hhigher : ∀ cls, grantRank cls < grantRank r.cls → oldestEligible cls s = none := by
    refine fun cls hcls => oldestEligible_none fun q hq ho he => ?_
    subst he
    rw [hwaiting, List.mem_append, List.mem_cons] at hq
    rcases hq with hq | rfl | hq
    · exact absurd (hbefore q hq ho) (Nat.lt_asymm hcls)
    · exact absurd hcls (Nat.lt_irrefl _)
    · exact absurd (hafter q hq ho) (Nat.not_le.mpr hcls)
  generalize r.cls = cls at hown hhigher
  rw [nextGrant]
  cases cls with
  | collect => rw [hown]; rfl
  | deposit => rw [hhigher .collect (by decide), hown]; rfl
  | sweep => rw [hhigher .collect (by decide), hhigher .deposit (by decide), hown]; rfl
  | maint => rw [hhigher .collect (by decide), hhigher .deposit (by decide), hhigher .sweep (by decide), hown]; rfl

/-! ### A look of the arbiter (R142) -/

theorem grant_waiting (r : GrantRequest) (s : State) :
    (grant r s).arbiter.waiting = s.arbiter.waiting.filter (fun q => q.comp != r.comp) :=
  congrArg Arbiter.waiting (enqueueOp_arbiter _ _)

theorem nextGrant_mem {r : GrantRequest} (h : nextGrant s = some r) : r ∈ s.arbiter.waiting := by
  have hmem : ∀ {cls}, oldestEligible cls s = some r → r ∈ s.arbiter.waiting := fun h => List.mem_of_find?_eq_some h
  simp only [nextGrant, Option.orElse_eq_or, Option.or_eq_some_iff] at h
  rcases h with h | ⟨_, h | ⟨_, h | ⟨_, h⟩⟩⟩ <;> exact hmem h

theorem grant_waiting_length {r : GrantRequest} (h : nextGrant s = some r) :
    (grant r s).arbiter.waiting.length < s.arbiter.waiting.length := by
  rw [grant_waiting]
  exact List.length_filter_lt_length_iff_exists.mpr ⟨r, nextGrant_mem h, by rw [bne_self_eq_false]; exact Bool.false_ne_true⟩

/-- A bound at least the list's length lets every grant be made. -/
theorem lookOverUpTo_of_le {a : Nat} (h : s.arbiter.waiting.length ≤ a) : lookOverUpTo a s = lookOver s := by
  suffices hall : ∀ (a b : Nat) (s : State), s.arbiter.waiting.length ≤ a → s.arbiter.waiting.length ≤ b →
      lookOverUpTo a s = lookOverUpTo b s from hall a _ s h (Nat.le_refl _)
  have hempty : ∀ (b : Nat) (s : State), s.arbiter.waiting.length ≤ 0 → lookOverUpTo b s = s := by
    intro b s hs
    have hnil := List.eq_nil_of_length_eq_zero (Nat.le_zero.mp hs)
    cases b with
    | zero => rfl
    | succ b => rw [lookOverUpTo, nextGrant_none (by rw [hnil]; exact nofun)]
  intro a
  induction a with
  | zero => exact fun b s ha _ => (hempty b s ha).symm
  | succ a ih =>
    intro b s ha hb
    cases b with
    | zero => exact hempty _ s hb
    | succ b =>
      rw [lookOverUpTo, lookOverUpTo]
      cases hnext : nextGrant s with
      | none => rfl
      | some r =>
        have hless := grant_waiting_length hnext
        exact ih b (grant r s) (by omega) (by omega)

theorem lookOver_rests (h : ∀ r ∈ s.arbiter.waiting, isEligible s r = false) : lookOver s = s := by
  cases hfuel : s.arbiter.waiting.length with
  | zero => rw [lookOver, hfuel]; rfl
  | succ k => rw [lookOver, hfuel, lookOverUpTo, nextGrant_none h]

theorem lookOver_grants {r : GrantRequest} (h : nextGrant s = some r) : lookOver s = lookOver (grant r s) := by
  have hless := grant_waiting_length h
  obtain ⟨k, hk⟩ : ∃ k, s.arbiter.waiting.length = k + 1 := ⟨s.arbiter.waiting.length - 1, by omega⟩
  rw [lookOver, hk, lookOverUpTo, h]
  exact lookOverUpTo_of_le (s := grant r s) (by omega)

/-- What the end of the restart guard leaves (R147). -/
def guardEnded (s : State) : State :=
  match s.arbiter.guard with
  | some _ => lookOver { s with arbiter := { s.arbiter with guard := none } }
  | none => s

theorem exec_restartGuard {x : State} (hrun : running s = true) (hx : guardEnded s = x) :
    exec .restartGuardElapsed s = .next (conclude x) := by
  show execRestartGuardElapsed s = _
  unfold execRestartGuardElapsed
  exact act_eq hrun hx

/-- Settles O54. A look grants the first of the highest class again and again, each grant taking it off the list. -/
theorem arbiterGrantsByClassAndAge : Obligations.ArbiterGrantsByClassAndAge := by
  refine ⟨fun s => ?_, fun s op => ⟨enqueueOp_of_room, fun hfull hno => ?_, fun before after c kind message tag o hfull hqueue hafter => ?_⟩,
    fun s n cls => ⟨fun hw => ?_, fun hw => ?_⟩, fun s hrun => ?_⟩
  · intro open_ rank
    have hopen : ∀ r, isEligible s r = true ↔ open_ r := isEligible_iff s
    have hclosed : ∀ r, ¬ open_ r → isEligible s r = false := fun r h => Bool.eq_false_iff.mpr (mt (hopen r).mp h)
    refine ⟨fun h => lookOver_rests fun r hr => hclosed r (h r hr), fun before r after hwaiting hr hbefore hafter => ?_⟩
    intro granted
    have hrank : ∀ q, grantRank q.cls = rank q := fun q => by
      dsimp only [rank]
      cases q.cls <;> rfl
    have hnext : nextGrant s = some r := nextGrant_some hwaiting ((hopen r).mpr hr)
      (fun q hq ho => by rw [hrank, hrank]; exact hbefore q hq ((hopen q).mp ho))
      (fun q hq ho => by rw [hrank, hrank]; exact hafter q hq ((hopen q).mp ho))
    rw [lookOver_grants hnext, grant]
    dsimp only
    cases s.comps[r.comp].place <;> rfl
  · exact enqueueOp_overflow (by omega) (takeNewestRelay_none hno)
  · exact enqueueOp_full (s := s) (Nat.le_of_eq hfull.symm) (by rw [hqueue]; exact takeNewestRelay_some rfl hafter)
  · rw [requestGrant, if_pos hw]
  · exact if_neg (by rw [hw]; exact Bool.false_ne_true)
  · refine ⟨fun n g length hmem hcomp hstage => ?_, fun n hnone => act_eq hrun ?_,
      fun hguard => ?_, fun hguard => ?_⟩
    · intro ended
      have hflies : pulseFlies n s = true :=
        pulseFlies_iff.mpr ⟨g, hmem, hcomp, by rw [hstage]; exact nofun⟩
      refine act_eq hrun ((if_pos hflies).trans (congrArg lookOver ?_))
      split
      · next p hplace =>
        split
        · next h => exact notePulseEnd_queues (s := leaveCommitted n s) .elapsed hplace h
        · next h => exact notePulseEnd_stands (s := leaveCommitted n s) .elapsed fun q hq =>
            Option.some.inj (hplace.symm.trans hq) ▸ h
      · next hplace => exact notePulseEnd_stands (s := leaveCommitted n s) .elapsed fun q hq => nomatch hplace.symm.trans hq
    · refine if_neg fun hf => ?_
      obtain ⟨g, hg, hn, hs⟩ := pulseFlies_iff.mp hf
      exact hs (hnone g hg hn)
    · obtain ⟨t, ht⟩ := Option.isSome_iff_exists.mp hguard
      exact exec_restartGuard hrun (by rw [guardEnded, ht])
    · exact exec_restartGuard hrun (by rw [guardEnded, hguard])

/-! ### The door timers (R158, R159, R165) -/

theorem doorRuns_of {c : Col} (hcolumn : columnOf n s = some c) (hpresent : s.bus.columns[c].state = .present)
    (hpolled : s.doors.firstPoll[c] = false) : doorRuns n s = true := (doorRuns_iff n s).mpr ⟨c, hcolumn, hpresent, hpolled⟩

theorem doorRuns_away {c : Col} (hcolumn : columnOf n s = some c)
    (h : ¬ (s.bus.columns[c].state = .present ∧ s.doors.firstPoll[c] = false)) : doorRuns n s = false := by
  refine Bool.eq_false_iff.mpr fun hruns => ?_
  obtain ⟨a, ha, hrun⟩ := (doorRuns_iff n s).mp hruns
  cases hcolumn.symm.trans ha
  exact h hrun

/-- The confirm time of a compartment in AWAIT_OPEN is over: its read is queued, or waits for the pulse's end (R158). -/
theorem confirmExpired_awaited {c : Col} (hcolumn : columnOf n s = some c) (hphase : s.comps[n].phase = .awaitOpen) :
    confirmExpired n s = if s.doors.records[n].pulseEnd = .none then
        modDoor n (fun d => { d with confirm := none, traceStep := .atPulseEnd }) s
      else enqueueOp (.traceRead n c) (modDoor n (fun d => { d with confirm := none, traceStep := .queued }) s) := by
  obtain ⟨hfitted, _⟩ := columnOf_eq_some hcolumn
  let x := modDoor n (fun d => { d with confirm := none }) s
  have hend : x.doors.records[n].pulseEnd = s.doors.records[n].pulseEnd :=
    (congrArg DoorRecord.pulseEnd (modDoor_fitted n (fun d => { d with confirm := none }) s hfitted)).trans rfl
  have hqueue : queueTrace n x = enqueueOp (.traceRead n c) (modDoor n (fun d => { d with confirm := none, traceStep := .queued }) s) := by
    rw [queueTrace_eq (s := x) hcolumn, modDoor_modDoor]
  have hwait : modDoor n (fun d => { d with traceStep := .atPulseEnd }) x =
      modDoor n (fun d => { d with confirm := none, traceStep := .atPulseEnd }) s := modDoor_modDoor n _ _ s
  refine (if_pos (c := s.comps[n].phase = .awaitOpen) hphase).trans ?_
  rw [← hqueue, ← hwait, ← hend]
  show (match x.doors.records[n].pulseEnd with | .none => _ | _ => _) = _
  cases x.doors.records[n].pulseEnd <;> rfl

/-- How the engine that owns the job of a state ends it as not opened (R57, R97, R115). -/
def notOpened (st : CompState) (n : CompNo) (k : Slot) (s : State) : State :=
  match st with
  | .held | .loading => depositBack n k .notOpened s
  | .releasing => collectionUntaken n k .notOpened s
  | .sweeping => sweepKept n k s
  | _ => s

theorem openLimitExpired_told {k : Slot} (hlink : s.comps[n].link = some k) (hgood : compGood n s = true) :
    openLimitExpired n s = notOpened s.comps[n].state n k (modDoor n (fun d => { d with openLimit := none }) s) := by
  have hlink : (modDoor n (fun d => { d with openLimit := none }) s).comps[n].link = some k := hlink
  rw [openLimitExpired, onComp_good (s := modDoor n (fun d => { d with openLimit := none }) s) hgood, hlink]
  rfl

/-- Settles O55. A timer acts where the door record runs, on a column PRESENT and polled since. -/
theorem doorTimersActAtTheirEnds : Obligations.DoorTimersActAtTheirEnds := by
  intro s n c hrun hcolumn d runs
  refine ⟨fun hr hconfirm hphase hend => act_eq hrun ?_, fun hr hconfirm hphase hend => act_eq hrun ?_,
    fun k hr hlimit hphase hwaiting hsent hstep hlink hgood => ?_, fun hr hajar => act_eq hrun ?_, fun hajar => act_eq hrun ?_, fun hr => ?_⟩
  · have hruns : confirmRuns n s = true := Bool.and_eq_true_iff.mpr ⟨hconfirm, doorRuns_of hcolumn hr.1 hr.2⟩
    rw [if_pos hruns, confirmExpired_awaited hcolumn hphase]
    exact if_neg hend
  · have hruns : confirmRuns n s = true := Bool.and_eq_true_iff.mpr ⟨hconfirm, doorRuns_of hcolumn hr.1 hr.2⟩
    rw [if_pos hruns, confirmExpired_awaited hcolumn hphase]
    exact if_pos hend
  · intro stopped
    have hruns : openLimitRuns n s = true := by
      rw [openLimitRuns, hlimit, hphase, hwaiting, hsent, hstep, doorRuns_of hcolumn hr.1 hr.2]
      rfl
    have hlimited : ∀ st x, s.comps[n].state = st → notOpened st n k stopped = x →
        exec (.openLimitExpiry n) s = .next (conclude x) := fun st x hstate hx =>
      act_eq hrun ((if_pos hruns).trans ((openLimitExpired_told hlink hgood).trans (hstate.symm ▸ hx)))
    exact ⟨fun hstate => hlimited _ _ hstate rfl, fun hstate => hlimited _ _ hstate rfl,
      fun hstate => hlimited _ _ hstate rfl⟩
  · refine if_pos ?_
    rw [Bool.and_eq_true]
    exact ⟨decide_eq_true hajar, doorRuns_of hcolumn hr.1 hr.2⟩
  · refine if_neg fun h => hajar ?_
    exact of_decide_eq_true (Bool.and_eq_true_iff.mp h).1
  · have haway := doorRuns_away hcolumn hr
    refine ⟨act_eq hrun (if_neg ?_), act_eq hrun (if_neg ?_), act_eq hrun (if_neg ?_)⟩
    · rw [confirmRuns, haway, Bool.and_false]
      exact Bool.false_ne_true
    · rw [openLimitRuns, haway, Bool.and_false]
      exact Bool.false_ne_true
    · rw [haway, Bool.and_false]
      exact Bool.false_ne_true

end Sys2Proof.Machine

/-! PROOFS. What the end of a terminal's job leaves alone: the management block, and a good record that is not being
swept (2.5, 6.5). -/

namespace Sys2Proof.Machine

open Sys2Proof.Wire

variable {s x y : State} {n : CompNo} {k j : Slot} {t : Term} {p : Parcel}

/-- A fold of steps that leave a part of the state alone leaves it alone. -/
theorem foldl_leaves {α β : Type} {f : State → α → State} (g : State → β) (hf : ∀ s a, g (f s a) = g s) (l : List α) (s : State) :
    g (l.foldl f s) = g s := by
  induction l generalizing s with
  | nil => rfl
  | cons a l ih => rw [List.foldl_cons, ih, hf]

/-! ### The management block -/

theorem fill_mgmt (n : CompNo) (b : Bool) (s : State) : (fill n b s).mgmt = s.mgmt := by
  unfold fill
  split <;> rfl

theorem reportFailure_mgmt (c : CheckedTable) (i : Nat) (s : State) : (reportFailure c i s).mgmt = s.mgmt := rfl

theorem dropCharge_mgmt (k : Slot) (s : State) : (dropCharge k s).mgmt = s.mgmt := rfl

theorem failedEntry_mgmt (n : CompNo) (s : State) : (failedEntry n s).mgmt = s.mgmt := by
  unfold failedEntry
  dsimp only
  rw [reportFailure_mgmt]
  split
  · rfl
  · rw [barWithoutReport_mgmt]
    rfl

theorem barFound_mgmt (n : CompNo) (s : State) : (barFound n s).mgmt = s.mgmt := by
  unfold barFound
  split
  · exact barWithoutReport_mgmt _
  · exact failedEntry_mgmt _ _

theorem leaveReturnQueue_mgmt (k : Slot) (s : State) : (leaveReturnQueue k s).mgmt = s.mgmt := by
  by_cases h : k ∈ s.returns.queue
  · rw [leaveReturnQueue_queued h]
  · rw [leaveReturnQueue_absent h]

theorem clearMarkers_mgmt (k : Slot) (s : State) : (clearMarkers k s).mgmt = s.mgmt := by
  refine foldl_leaves State.mgmt (fun s t => ?_) _ _
  split
  · split <;> rfl
  · rfl

theorem setContextsOn_mgmt (k : Slot) (f : QuoteContext → QuoteContext) (s : State) :
    (setContextsOn k f s).mgmt = s.mgmt := by
  refine foldl_leaves State.mgmt (fun s t => ?_) _ _
  dsimp only
  split <;> rfl

theorem restartInactivity_mgmt (t : Term) (s : State) : (restartInactivity t s).mgmt = s.mgmt := by
  unfold restartInactivity
  split <;> rfl

theorem sweepResolved_mgmt (k : Slot) (c : SweepCount) (s : State) : (sweepResolved k c s).mgmt = s.mgmt := by
  unfold sweepResolved
  split
  · split
    · rw [restartInactivity_mgmt]; rfl
    · rfl
  · rfl

theorem failedUncharged_mgmt (d : Option CompNo) (k : Slot) (p : Parcel) (s : State) :
    (failedUncharged d k p s).mgmt = s.mgmt := by
  unfold failedUncharged
  dsimp only
  cases d with
  | none =>
    dsimp only
    rw [leaveReturnQueue_mgmt]
    split
    · exact barFound_mgmt _ _
    · rfl
  | some m =>
    dsimp only
    rw [clearMarkers_mgmt, raise_mgmt, leaveReturnQueue_mgmt]
    split
    · exact barFound_mgmt _ _
    · rfl

theorem failedCharged_mgmt (k : Slot) (l : List QueuedCharge) (s : State) : (failedCharged k l s).mgmt = s.mgmt := by
  have hrefused : (l.foldl (fun s e => refuse (collectHeader e) .integrity s) s).mgmt = s.mgmt :=
    foldl_leaves State.mgmt (fun s e => (placeReply_sameBut _ s).mgmt) _ _
  unfold failedCharged
  dsimp only
  rw [reportFailure_mgmt, sweepResolved_mgmt, setReopen_mgmt, setContextsOn_mgmt, hrefused]

theorem failedRecord_mgmt (d : Option CompNo) (k : Slot) (p : Parcel) (s : State) : (failedRecord d k p s).mgmt = s.mgmt := by
  rw [failedRecord_eq, failedCharged_mgmt, dropCharge_mgmt, failedUncharged_mgmt]

/-! ### The management block and a record that is not swept -/

/-- The management block stands, and so does the record in a slot, when it is good and not being swept. -/
structure Leaves (k : Slot) (s x : State) : Prop where
  mgmt : x.mgmt = s.mgmt
  record : ∀ p, parcelAt k s = some p → parcelGood k s = true → p.state ≠ .sweeping → parcelAt k x = some p

theorem parcelGood_of_at (h : parcelAt k x = parcelAt k s) : parcelGood k x = parcelGood k s := by
  rw [parcelGood, parcelGood, h]

theorem Leaves.refl (k : Slot) (s : State) : Leaves k s s := ⟨rfl, fun _ hat _ _ => hat⟩

theorem Leaves.after (g : Leaves k x y) (h : Leaves k s x) : Leaves k s y :=
  ⟨g.mgmt.trans h.mgmt, fun p hat hgood hstate =>
    g.record p (h.record p hat hgood hstate) ((parcelGood_of_at ((h.record p hat hgood hstate).trans hat.symm)).trans hgood) hstate⟩

theorem leaves_of_frames (hm : x.mgmt = s.mgmt) (hp : x.parcels = s.parcels) : Leaves k s x :=
  ⟨hm, fun p hat _ _ => by rw [parcelAt, hp]; exact hat⟩

/-- A damaged record in a slot is not the good one. -/
theorem leaves_failedRecord (d : Option CompNo) (p : Parcel) (hbad : parcelGood j s = false) : Leaves k s (failedRecord d j p s) := by
  refine ⟨failedRecord_mgmt _ _ _ _, fun q hat hgood _ => ?_⟩
  have hne : j ≠ k := by
    rintro rfl
    exact nomatch hbad.symm.trans hgood
  rw [parcelAt, failedRecord_parcels, ← parcelAt, setParcel_at, if_neg hne]
  exact hat

/-- A record put back is one that was being swept. -/
theorem leaves_putBack (hat : parcelAt j s = some p) : Leaves k s
    (if p.state = .sweeping then modParcel j (fun p => { p with state := .returnQueued }) s else s) := by
  split
  · next hswept =>
    rw [modParcel_live hat]
    refine ⟨rfl, fun q hq _ hstate => ?_⟩
    rw [setParcel_at, if_neg]
    · exact hq
    · rintro rfl
      cases hat.symm.trans hq
      exact hstate hswept
  · exact Leaves.refl k s

theorem leaves_putBackCurrent (n : CompNo) (hat : parcelAt j s = some p) : Leaves k s (putBackCurrent n j p s) := by
  unfold putBackCurrent
  dsimp only
  split
  · next hbad => exact leaves_failedRecord none p (by simpa using hbad)
  · split
    · have hfilled : parcelAt j (fill n false s) = some p := by rw [parcelAt, fill_parcels]; exact hat
      exact (leaves_putBack hfilled).after (leaves_of_frames (fill_mgmt _ _ _) (fill_parcels _ _ _))
    · have hfailed : parcelAt j (failedEntry n s) = some p := by rw [parcelAt, failedEntry_parcels]; exact hat
      exact (leaves_of_frames (sweepResolved_mgmt _ _ _) (sweepResolved_parcels _ _ _)).after
        ((leaves_putBack hfailed).after (leaves_of_frames (failedEntry_mgmt _ _) (failedEntry_parcels _ _)))

theorem leaves_endSweep (c : SweepEnd) (s : State) : Leaves k s (endSweep c s) := by
  refine leaves_of_frames ?_ (endSweep_parcels c s)
  unfold endSweep
  split <;> rfl

theorem leaves_stopSweep (c : SweepEnd) (s : State) : Leaves k s (stopSweep c s) := by
  unfold stopSweep
  split
  · exact Leaves.refl k s
  · split
    · exact Leaves.refl k s
    · split
      · exact leaves_endSweep _ _
      · dsimp only
        split
        · exact leaves_of_frames rfl rfl
        · next hat =>
          split
          · exact leaves_of_frames rfl rfl
          · next n _ =>
            split
            · exact (leaves_endSweep _ _).after
                ((leaves_putBackCurrent (s := withdraw n s) n hat).after (leaves_of_frames rfl rfl))
            · exact leaves_of_frames rfl rfl

theorem leaves_signOff (t : Term) (s : State) : Leaves k s (signOff t s) := by
  unfold signOff
  dsimp only
  split
  · split
    · exact (leaves_stopSweep _ _).after (leaves_of_frames rfl rfl)
    · exact leaves_of_frames rfl rfl
  · exact leaves_of_frames rfl rfl

theorem leaves_endOpenJob (t : Term) (j : Slot) (b : Bool) (s : State) : Leaves k s (endOpenJob t j b s) := by
  unfold endOpenJob
  dsimp only
  split
  · split
    · split
      · exact (leaves_signOff _ _).after (leaves_of_frames rfl rfl)
      · exact leaves_of_frames (restartInactivity_mgmt _ _) (restartInactivity_parcels _ _)
    · exact leaves_of_frames rfl rfl
  · exact Leaves.refl k s

theorem leaves_endJobsOn (j : Slot) (s : State) : Leaves k s (endJobsOn j s) := by
  suffices hall : ∀ (l : List Term) (s : State), Leaves k s (l.foldl (fun s t => endOpenJob t j false s) s) from hall _ s
  intro l
  induction l with
  | nil => exact Leaves.refl k
  | cons t l ih => exact fun s => (ih _).after (leaves_endOpenJob t j false s)

end Sys2Proof.Machine

/-! PROOFS. How jobs end: cause bars, closes, open limits and lock faults (1.5, 1.6, 3.3, 5.5, 5.6, 6.4). -/

namespace Sys2Proof.Machine

open Sys2Proof.Wire

variable {s x : State} {n : CompNo} {k : Slot} {t : Term} {p : Parcel} {cls : TraceClass}

/-! ### A cause bar (R15) -/

theorem modComp_congr {f g : Compartment → Compartment} (h : f s.comps[n] = g s.comps[n]) : modComp n f s = modComp n g s := by
  rw [modComp, modComp, h]

/-- What a bar with this cause leaves, but for the maintenance loop (R15). -/
def barredWith (n : CompNo) (cause : Option BarCause) (s : State) : State :=
  stopJobTimers n (modComp n (fun c =>
    { c with state := .barred, cause := cause, phase := .none, attempts := 0, pendingBar := false })
    (withdraw n (leaveFree n s)))

theorem barredWith_entry (n : CompNo) (cause : Option BarCause) (s : State) : (barredWith n cause s).comps[n] =
    sealCompartment n { s.comps[n] with
      state := .barred, cause := cause, phase := .none, attempts := 0, pendingBar := false } :=
  (modComp_at n n (fun c => { c with state := .barred, cause := cause, phase := .none, attempts := 0, pendingBar := false })
    (withdraw n (leaveFree n s))).trans (if_pos rfl)

theorem barWithoutReport_unfitted (h : s.comps[n].state = .unfitted) (cause : BarCause) : barWithoutReport n cause s = s :=
  if_pos h

theorem barWithoutReport_fitted (h : s.comps[n].state ≠ .unfitted) (cause : BarCause) : barWithoutReport n cause s =
    let y := barredWith n (if s.comps[n].state = .barred ∧ cause ≠ .integrity then s.comps[n].cause else some cause) s
    if s.comps[n].state = .maint then { y with maintSlot := none } else y := by
  have hcause : ∀ b : Bool, (b = true ↔ s.comps[n].state = .barred ∧ cause ≠ .integrity) →
      modComp n (fun c => { c with state := .barred, cause := if b then c.cause else some cause, phase := .none, attempts := 0
                                   pendingBar := false }) (stopJobTimers n (withdraw n (leaveFree n s))) =
      barredWith n (if s.comps[n].state = .barred ∧ cause ≠ .integrity then s.comps[n].cause else some cause) s := by
    intro b hb
    rw [barredWith, stopJobTimers_modComp (s := withdraw n (leaveFree n s))]
    · refine modComp_congr ?_
      show ({ s.comps[n] with state := .barred, cause := if b then s.comps[n].cause else some cause, phase := .none
                              attempts := 0, pendingBar := false } : Compartment) = _
      rw [if_congr hb rfl rfl]
      rfl
    · rw [isFitted_modComp]
      exact (bne_iff_ne.mpr h).symm
  unfold barWithoutReport
  dsimp only
  rw [if_neg h, hcause _ (by rw [Bool.and_eq_true, beq_iff_eq, bne_iff_ne])]

theorem barWithoutReport_use (h : s.comps[n].state = .vacant ∨ s.comps[n].state = .loaded ∨ isJob s.comps[n].state = true)
    (cause : BarCause) : barWithoutReport n cause s = barredWith n (some cause) s := by
  have hstate : s.comps[n].state ≠ .unfitted ∧ s.comps[n].state ≠ .barred ∧ s.comps[n].state ≠ .maint := by
    refine ⟨fun e => ?_, fun e => ?_, fun e => ?_⟩ <;> rw [e] at h <;> simp [isJob] at h
  obtain ⟨hfitted, hbarred, hmaint⟩ := hstate
  rw [barWithoutReport_fitted hfitted]
  dsimp only
  rw [if_neg hmaint, if_neg fun hc => hbarred hc.1]

theorem tellEngine_jobless {before : Compartment} (h : isJob before.state = false) : tellEngine n before s = s := by
  unfold tellEngine
  split
  · rfl
  · cases hstate : before.state with
    | held | loading | releasing | sweeping => rw [hstate] at h; cases h
    | _ => rfl

theorem causeBar_jobless (h : isJob s.comps[n].state = false) (cause : BarCause) :
    causeBar n cause s = barWithoutReport n cause s := tellEngine_jobless h

/-! ### A fill (R12) -/

/-- The entry and the timers of a compartment filled (R12). -/
def filledComp (n : CompNo) (suspect : Bool) (s : State) : State :=
  stopJobTimers n (modComp n (fun c =>
    { c with state := .loaded, phase := .none, attempts := 0, suspect := c.suspect || suspect }) s)

theorem fill_job (h : isJob s.comps[n].state = true) (suspect : Bool) : fill n suspect s = filledComp n suspect s := by
  unfold fill
  cases hstate : s.comps[n].state with
  | held | loading | releasing | sweeping => rfl
  | _ => rw [hstate] at h; cases h

/-! ### Tables of the terminals -/

theorem foldl_set_at {α : Type} {m : Nat} (g : α → α) {l : List (Fin m)} (hl : l.Nodup) (v : Vector α m) (i : Fin m) :
    (l.foldl (fun v j => v.set j.val (g v[j]) j.isLt) v)[i] = if i ∈ l then g v[i] else v[i] := by
  induction l generalizing v with
  | nil => rfl
  | cons j l ih =>
    obtain ⟨hj, hl⟩ := List.nodup_cons.mp hl
    rw [List.foldl_cons, ih hl]
    by_cases e : j = i
    · subst e
      simp [hj]
    · have hother : (v.set j.val (g v[j]) j.isLt)[i] = v[i] := by
        rw [Fin.getElem_fin, Vector.getElem_set, if_neg (Fin.val_ne_of_ne e)]
        rfl
      rw [hother]
      simp [Ne.symm e]

/-- A table changed entry by entry is the table of changed entries. -/
theorem foldl_set_allTerms {α : Type} (g : α → α) (v : Vector α 4) :
    allTerms.foldl (fun v (t : Term) => v.set t.val (g v[t]) t.isLt) v = v.map g :=
  Vector.ext fun i hi => by
    rw [Vector.getElem_map]
    exact (foldl_set_at g allTerms_nodup v ⟨i, hi⟩).trans (if_pos (mem_allTerms _))

theorem vector_set_same {α : Type} {m : Nat} {v : Vector α m} {i : Fin m} {a : α} (h : v[i] = a) : v.set i.val a i.isLt = v := by
  subst h
  exact Vector.set_getElem_self i.isLt

/-- A marker emptied when it names the slot. -/
def unmarked (k : Slot) (m : Option DepositMarker) : Option DepositMarker := if m.any (fun m => m.slot == k) then none else m

theorem clearMarkers_eq (k : Slot) (s : State) : clearMarkers k s =
    { s with deposit := { s.deposit with markers := s.deposit.markers.map (unmarked k) } } := by
  rw [← foldl_set_allTerms]
  refine List.foldl_hom (fun v => { s with deposit := { s.deposit with markers := v } }) fun v t => ?_
  dsimp only
  cases h : v[t] with
  | none =>
    rw [vector_set_same (a := unmarked k none) h]
  | some m =>
    dsimp only
    by_cases hm : m.slot = k
    · rw [if_pos hm, show unmarked k (some m) = none from if_pos (beq_iff_eq.mpr hm)]
      rfl
    · have hkeep : unmarked k (some m) = some m := if_neg (mt beq_iff_eq.mp hm)
      rw [if_neg hm, hkeep, vector_set_same h]

theorem setContextsOn_eq (k : Slot) (f : QuoteContext → QuoteContext) (s : State) : setContextsOn k f s =
    { s with collection := { s.collection with
      contexts := s.collection.contexts.map (fun c => if contextSlot c = some k then f c else c) } } := by
  rw [← foldl_set_allTerms]
  refine List.foldl_hom (fun v => { s with collection := { s.collection with contexts := v } }) fun v t => ?_
  dsimp only
  by_cases h : contextSlot v[t] = some k
  · rw [if_pos h, if_pos h]
    rfl
  · rw [if_neg h, if_neg h, vector_set_same rfl]

/-! ### The record an engine ends its job on -/

theorem modParcel_at {y : State} {f : Parcel → Parcel} (h : parcelAt k y = some p) {q : Parcel} (hq : f p = q) :
    modParcel k f y = setParcel k q y := by
  rw [modParcel_live h, hq]

theorem parcelAt_of_parcels {y : State} (h : y.parcels = x.parcels) : parcelAt k y = parcelAt k x := by
  rw [parcelAt, parcelAt, h]

theorem joinReturnQueue_at {b : Bool} (hat : parcelAt k s = some p) : joinReturnQueue k b s =
    raiseMarked (.ret p.ref .queued) false b { s with returns := { s.returns with
      queue := if k ∈ s.returns.queue then s.returns.queue else s.returns.queue ++ [k] } } := by
  unfold joinReturnQueue
  dsimp only
  by_cases h : k ∈ s.returns.queue
  · rw [if_pos h, if_pos h, hat]
  · rw [if_neg h, if_neg h]
    have hat : parcelAt k { s with returns := { s.returns with queue := s.returns.queue ++ [k] } } = some p := hat
    rw [hat]

theorem joinFree_parcels (n : CompNo) (s : State) : (joinFree n s).parcels = s.parcels := by
  unfold joinFree
  dsimp only
  split <;> rfl

/-- The record behind a free of its compartment: as it was, or without the compartment (R13). -/
theorem parcelAt_free (hat : parcelAt k s = some p) (hlink : s.comps[n].link = some k) (hcomp : p.comp = some n) :
    parcelAt k (free n s) = some p ∨ parcelAt k (free n s) = some (sealParcel k { p with comp := none }) := by
  have hunlinked : ∀ y : State, y.parcels = (unlink n s).parcels → parcelAt k y = some (sealParcel k { p with comp := none }) := by
    intro y hy
    rw [parcelAt_of_parcels hy, unlink_linked hlink hat hcomp]
    exact parcelAt_setParcel _
  cases hstate : s.comps[n].state with
  | held | loading | loaded | releasing | sweeping =>
    refine .inr (hunlinked _ ?_)
    rw [free_of_use (by rw [hstate]; simp [isJob]), joinFree_parcels]
    rfl
  | barred =>
    refine .inr (hunlinked _ ?_)
    rw [free_of_barred hstate]
    rfl
  | unfitted | vacant | maint => exact .inl (by rw [free_of_idle (by rw [hstate]; decide)]; exact hat)

theorem setParcel_check (p : Parcel) (b : Byte) : setParcel k { p with check := b } s = setParcel k p s := by
  rw [setParcel, setParcel, sealParcel_check]

/-- The record of a deposit given back, behind the free of its compartment (R54, R56). -/
theorem advised_freed (hat : parcelAt k s = some p) (hlink : s.comps[n].link = some k) (hcomp : p.comp = some n) :
    modParcel k (fun p => { p with state := .advised, comp := none, arrival := none }) (free n s) =
      setParcel k { p with state := .advised, comp := none, arrival := none } (free n s) := by
  rcases parcelAt_free hat hlink hcomp with h | h
  · exact modParcel_live h _
  · rw [modParcel_live h]
    exact setParcel_check { p with state := .advised, comp := none, arrival := none } _

theorem depositOver_eq (k : Slot) (s : State) : depositOver k s =
    endJobsOn k { s with deposit := { s.deposit with markers := s.deposit.markers.map (unmarked k) } } := by
  rw [depositOver, clearMarkers_eq]

theorem depositFilled_read {minute : Minute} {suspect : Bool} (hat : parcelAt k s = some p) (hgood : parcelGood k s = true)
    (hstate : p.state = .depositing) (hjob : isJob s.comps[n].state = true) : depositFilled n k suspect minute s =
      (let kept := setParcel k { p with state := filledState p.kind, arrival := some minute, suspect := p.suspect || suspect }
        (filledComp n suspect s)
      depositOver k (if p.kind = .delivery then raiseMarked (.deposit p.ref (compByte n) .stored (some minute)) false suspect kept
        else raiseMarked (.ret p.ref .queued) false suspect { kept with returns := { kept.returns with
          queue := if k ∈ kept.returns.queue then kept.returns.queue else kept.returns.queue ++ [k] } })) := by
  have hfilled : parcelAt k (filledComp n suspect s) = some p := hat
  rw [depositFilled, onRecord_read hat hgood (by rw [hstate]; decide), fill_job hjob, modParcel_live hfilled]
  cases hkind : p.kind with
  | delivery => rfl
  | ret =>
    dsimp only
    rw [joinReturnQueue_at (parcelAt_setParcel _)]
    rfl

/-- A lock fault of a deposit bars and frees the compartment, and gives the record back (R58). -/
theorem depositLockFault_read (hat : parcelAt k s = some p) (hgood : parcelGood k s = true)
    (hstate : p.state = .depositing) (hlink : s.comps[n].link = some k) (hcomp : p.comp = some n)
    (hjob : isJob s.comps[n].state = true) : depositLockFault n k cls s =
      depositOver k (raise (.deposit p.ref (compByte n) .lockFault none) (raise (.lockFault (compByte n) cls p.ref)
        (setParcel k { p with state := .advised, comp := none, arrival := none }
          (free n (barredWith n (some .lockFault) s))))) := by
  have hlink : (barredWith n (some .lockFault) s).comps[n].link = some k := by
    rw [barredWith_entry]
    exact hlink
  have hat' : parcelAt k (barredWith n (some .lockFault) s) = some p := hat
  rw [depositLockFault, onRecord_read hat hgood (by rw [hstate]; decide), barWithoutReport_use (.inr (.inr hjob))]
  dsimp only
  rw [advised_freed hat' hlink hcomp]

theorem depositBarred_closed {before : DoorPhase} (hat : parcelAt k s = some p) (hgood : parcelGood k s = true)
    (hstate : p.state = .depositing) (hlink : s.comps[n].link = some k) (hcomp : p.comp = some n) (h : before ≠ .opened) :
    depositBarred n k before s = depositOver k (raise (.deposit p.ref (compByte n) .barred none)
      (setParcel k { p with state := .advised, comp := none, arrival := none } (free n s))) := by
  rw [depositBarred, onRecordElse_read hat hgood (by rw [hstate]; decide), if_neg h]
  dsimp only
  rw [advised_freed hat hlink hcomp]

theorem depositBarred_open (hat : parcelAt k s = some p) (hgood : parcelGood k s = true) (hstate : p.state = .depositing) :
    depositBarred n k .opened s =
      (let told := raise (.deposit p.ref (compByte n) .barred (some s.time.minute))
        (setParcel k { p with state := filledState p.kind, arrival := some s.time.minute, suspect := p.suspect || true } s)
      depositOver k (if p.kind = .delivery then told
        else raise (.ret p.ref .queued) { told with returns := { told.returns with
          queue := if k ∈ told.returns.queue then told.returns.queue else told.returns.queue ++ [k] } })) := by
  rw [depositBarred, onRecordElse_read hat hgood (by rw [hstate]; decide), if_pos rfl, Bool.or_true]
  dsimp only
  rw [modParcel_live hat]
  cases hkind : p.kind with
  | delivery => rfl
  | ret =>
    dsimp only
    rw [joinReturnQueue_at (s := raise _ (setParcel k _ s)) (parcelAt_setParcel _)]
    rfl

/-! ### Releases (R95 to R99) -/

theorem collectionOver_eq (k : Slot) (s : State) : collectionOver k s = endJobsOn k { s with collection := { s.collection with
    contexts := s.collection.contexts.map (fun c => if contextSlot c = some k then .none else c) } } := by
  rw [collectionOver, setContextsOn_eq]

theorem leaves_collectionOver (k : Slot) (s : State) : Leaves k s (collectionOver k s) := by
  rw [collectionOver_eq]
  exact (leaves_endJobsOn k _).after (leaves_of_frames rfl rfl)

/-- The re-open window of a record that is UNTAKEN begins, or ends at once (R80, R95, R96). -/
theorem joinReopen_full (h : s.mgmt.config.reopen ≠ 0) : joinReopen k s =
    setReopen (s.collection.reopen.filter (fun e => e.slot != k) ++ [{ slot := k, left := s.mgmt.config.reopen }]) s := if_neg h

theorem joinReopen_none (h : s.mgmt.config.reopen = 0) (hat : parcelAt k s = some p) (hgood : parcelGood k s = true)
    (hstate : p.state = .untaken) : joinReopen k s =
      returnToStored k (p.tendered - p.change) (setReopen (s.collection.reopen.filter (fun e => e.slot != k)) s) := by
  have hfilter : (s.collection.reopen.filter (fun e => e.slot != k) ++
      [({ slot := k, left := s.mgmt.config.reopen } : ReopenEntry)]).filter (fun e => e.slot != k) = s.collection.reopen.filter (fun e => e.slot != k) := by
    rw [List.filter_append, List.filter_filter]
    simp
  refine (if_pos (c := s.mgmt.config.reopen = 0) h).trans ?_
  rw [endReopen]
  show onRecord k [.untaken] _ (setReopen ((s.collection.reopen.filter (fun e => e.slot != k) ++
    [({ slot := k, left := s.mgmt.config.reopen } : ReopenEntry)]).filter (fun e => e.slot != k)) s) = _
  rw [hfilter]
  exact onRecord_read (s := setReopen (s.collection.reopen.filter (fun e => e.slot != k)) s) hat hgood
    (by rw [hstate]; decide) _

/-- The release of a record that stays in its compartment is over (R95, R97). -/
def untakenOver (n : CompNo) (k : Slot) (p : Parcel) (outcome : CollectOutcome) (s : State) : State :=
  collectionOver k (raise (.collected p.ref (compByte n) outcome) (setParcel k { p with state := .untaken } (filledComp n false s)))

theorem collectionUntaken_read (hat : parcelAt k s = some p) (hgood : parcelGood k s = true) (hstate : p.state = .releasing)
    (hjob : isJob s.comps[n].state = true) (outcome : CollectOutcome) :
    collectionUntaken n k outcome s = joinReopen k (untakenOver n k p outcome s) := by
  have hjob : isJob (setParcel k { p with state := .untaken } s).comps[n].state = true := hjob
  rw [collectionUntaken, onRecord_read hat hgood (by rw [hstate]; decide), modParcel_live hat, fill_job hjob]
  rfl

theorem untakenOver_record (n : CompNo) (k : Slot) (p : Parcel) (outcome : CollectOutcome) (s : State) :
    parcelAt k (untakenOver n k p outcome s) = some (sealParcel k { p with state := .untaken }) ∧
      parcelGood k (untakenOver n k p outcome s) = true ∧ (untakenOver n k p outcome s).mgmt = s.mgmt := by
  let y := raise (.collected p.ref (compByte n) outcome) (setParcel k { p with state := .untaken } (filledComp n false s))
  have hat : parcelAt k y = some (sealParcel k { p with state := .untaken }) := parcelAt_setParcel _
  have hgood : parcelGood k y = true := by
    rw [parcelGood, hat]
    exact parcelOk_seal _ _
  have hleaves : Leaves k y (untakenOver n k p outcome s) := leaves_collectionOver k y
  have hat' := hleaves.record _ hat hgood (by rw [sealParcel]; exact nofun)
  exact ⟨hat', (parcelGood_of_at (hat'.trans hat.symm)).trans hgood, hleaves.mgmt⟩

/-! ### Swept records (R114 to R116) -/

/-- The sweep with its current record resolved and counted (R114 to R116). -/
def sweepCounted (c : SweepCount) (w : Sweep) : Sweep :=
  match c with
  | .taken => { w with current := none, taken := satInc w.taken }
  | .skipped => { w with current := none, skipped := satInc w.skipped }
  | .failed => { w with current := none, failed := satInc w.failed }

theorem sweepKept_read (hat : parcelAt k s = some p) (hgood : parcelGood k s = true) (hstate : p.state = .sweeping)
    (hjob : isJob s.comps[n].state = true) : sweepKept n k s =
      sweepResolved k .skipped (setParcel k { p with state := .returnQueued } (filledComp n false s)) := by
  have hjob : isJob (setParcel k { p with state := .returnQueued } s).comps[n].state = true := hjob
  rw [sweepKept, onRecord_read hat hgood (by rw [hstate]; decide), modParcel_live hat]
  dsimp only
  rw [fill_job hjob]
  rfl

/-! ### The statement -/

/-- How the engine of a job under way is told of a bar: a deposit by its phase before the bar (R59, R99, R116). -/
theorem tellEngine_deposit {before : Compartment} (hlink : s.comps[n].link = some k)
    (h : before.state = .held ∨ before.state = .loading) : tellEngine n before s = depositBarred n k before.phase s := by
  unfold tellEngine
  rw [hlink]
  rcases h with h | h <;> rw [h]

theorem lockFault_deposit (hlink : s.comps[n].link = some k) (h : s.comps[n].state = .held ∨ s.comps[n].state = .loading) :
    lockFault n cls s = depositLockFault n k cls (count .lockFaults s) := by
  have hlink : (count .lockFaults s).comps[n].link = some k := hlink
  have h : (count .lockFaults s).comps[n].state = .held ∨ (count .lockFaults s).comps[n].state = .loading := h
  unfold lockFault
  dsimp only
  rw [hlink]
  rcases h with h | h <;> rw [h]

/-- Settles O57. Each engine reads its good record and ends the job on it; the entry and the record are written once. -/
theorem jobsEndByCloseLimitFaultAndBar : Obligations.JobsEndByCloseLimitFaultAndBar := by
  unfold Obligations.JobsEndByCloseLimitFaultAndBar
  intro filled_ barred queued
  refine ⟨fun s n cause => ⟨fun h => ?_, fun old h hold => ?_, fun h => ?_, fun h => ?_, fun h => ?_⟩, fun s k p credit hat => ?_,
    fun s n k p hat hgood hcomp hlink => ?_⟩
  · rw [causeBar_jobless (by rw [h]; rfl), barWithoutReport_unfitted h]
  · have hcause : (if s.comps[n].state = .barred ∧ cause ≠ .integrity then s.comps[n].cause else some cause) =
        some (if cause = .integrity then cause else old) := by
      by_cases hc : cause = .integrity
      · rw [if_neg fun h => h.2 hc, if_pos hc]
      · rw [if_pos ⟨h, hc⟩, if_neg hc, hold]
    rw [causeBar_jobless (by rw [h]; rfl), barWithoutReport_fitted (by rw [h]; decide), hcause, if_neg (by rw [h]; decide)]
    rfl
  · rw [causeBar_jobless (by rcases h with h | h <;> rw [h] <;> rfl), barWithoutReport_use (h.imp id .inl)]
    rfl
  · rw [causeBar_jobless (by rw [h]; rfl), barWithoutReport_fitted (by rw [h]; decide)]
    dsimp only
    rw [if_pos h, if_neg fun hc : s.comps[n].state = .barred ∧ cause ≠ .integrity => nomatch h.symm.trans hc.1]
    rfl
  · rw [causeBar, barWithoutReport_use (.inr (.inr h))]
    rfl
  · rw [returnToStored_live hat, creditedBack, joinReturnQueue_at (parcelAt_setParcel _)]
    rfl
  · intro fault faulted
    have hcounted : parcelAt k (count .lockFaults s) = some p := hat
    have hcountedGood : parcelGood k (count .lockFaults s) = true := (parcelGood_of_at (hcounted.trans hat.symm)).trans hgood
    refine ⟨fun hstate => ?_, fun hstate => ?_, fun hstate => ?_⟩
    · intro over_ advised kept noticed
      have hover : ∀ y, depositOver k y = over_ y := depositOver_eq k
      have hback : ∀ outcome, depositBack n k outcome s =
          over_ (raise (.deposit p.ref (compByte n) outcome none) (advised (free n s))) := fun outcome => by
        rw [depositBack_read hat hgood hstate, advised_freed hat hlink hcomp, hover]
      have hfilled : isJob s.comps[n].state = true → ∀ suspect minute, depositFilled n k suspect minute s =
          over_ (noticed suspect minute (kept suspect minute (filled_ n suspect s))) := fun hjob suspect minute => by
        rw [depositFilled_read hat hgood hstate hjob]
        dsimp only [noticed, kept]
        cases hkind : p.kind <;> exact hover _
      refine ⟨hback, fun minute => rfl, fun hjob minute => ⟨hfilled hjob false minute, hfilled hjob true minute⟩,
        fun hs cls => ?_, fun before hbefore => ⟨fun hphase => ?_, fun hphase => ?_⟩⟩
      · rw [lockFault_deposit hlink hs, depositLockFault_read hcounted hcountedGood hstate hlink hcomp
          (by show isJob s.comps[n].state = true; rcases hs with hs | hs <;> rw [hs] <;> rfl)]
        exact hover _
      · rw [tellEngine_deposit hlink hbefore, depositBarred_closed hat hgood hstate hlink hcomp hphase]
        exact hover _
      · rw [tellEngine_deposit hlink hbefore, hphase, depositBarred_open hat hgood hstate]
        dsimp only [kept]
        cases hkind : p.kind <;> exact hover _
    · intro over_ reopens leaves untaken
      have hover : ∀ y, collectionOver k y = over_ y := by
        intro y
        rw [collectionOver_eq]
        refine congrArg (fun f => endJobsOn k { y with collection := { y.collection with
          contexts := y.collection.contexts.map f } }) (funext fun c => ?_)
        cases c <;> simp [contextSlot]
      have huntaken : ∀ outcome, untakenOver n k p outcome s = untaken outcome := fun outcome => hover _
      have hkept : isJob s.comps[n].state = true → s.mgmt.config.reopen ≠ 0 → ∀ outcome,
          collectionUntaken n k outcome s = reopens (untaken outcome) := fun hjob hwindow outcome => by
        obtain ⟨_, _, hmgmt⟩ := untakenOver_record n k p outcome s
        rw [collectionUntaken_read hat hgood hstate hjob, joinReopen_full (by rw [hmgmt]; exact hwindow), huntaken]
        rfl
      have hended : isJob s.comps[n].state = true → s.mgmt.config.reopen = 0 → ∀ outcome, collectionUntaken n k outcome s =
          returnToStored k (p.tendered - p.change) (leaves (untaken outcome)) := fun hjob hwindow outcome => by
        obtain ⟨hat', hgood', hmgmt⟩ := untakenOver_record n k p outcome s
        rw [collectionUntaken_read hat hgood hstate hjob,
          joinReopen_none (by rw [hmgmt]; exact hwindow) hat' hgood' rfl, huntaken]
        rfl
      refine ⟨fun hjob hwindow => ⟨hkept hjob hwindow, hkept hjob hwindow _⟩,
        fun hjob hwindow => ⟨hended hjob hwindow, hended hjob hwindow _⟩, ?_, fun hjob => ?_, fun hs cls => ?_, fun before hbefore => ?_⟩
      · rw [collectionClose, onRecord_read hat hgood (by rw [hstate]; decide), hover]
      · have hjob' : isJob (raiseMarked (.collected p.ref (compByte n) .taken) false true s).comps[n].state = true := hjob
        rw [collectionClose, onRecord_read hat hgood (by rw [hstate]; decide)]
        dsimp only
        rw [barWithoutReport_use (.inr (.inr hjob')), hover]
        rfl
      · have hlink : (count .lockFaults s).comps[n].link = some k := hlink
        have hs' : (count .lockFaults s).comps[n].state = .releasing := hs
        have hjob : isJob (count .lockFaults s).comps[n].state = true := by rw [hs']; rfl
        have hbarred : parcelAt k (barredWith n (some .lockFault) (count .lockFaults s)) = some p := hat
        unfold lockFault
        dsimp only
        rw [hlink, hs']
        dsimp only
        rw [collectionLockFault, onRecord_read hcounted hcountedGood (by rw [hstate]; decide),
          barWithoutReport_use (.inr (.inr hjob)), modParcel_live hbarred]
        exact hover _
      · unfold tellEngine
        rw [hlink, hbefore]
        dsimp only
        rw [collectionBarred, onRecord_read hat hgood (by rw [hstate]; decide)]
        exact hover _
    · intro resolved taken skipped failed back
      have hresolved : ∀ (c : SweepCount) (counted : Sweep → Sweep), (∀ x w, w.current = some k → x.returns.sweep = some w →
          sweepResolved k c x = restartInactivity w.terminal (setSweep (some { counted w with current := none }) x)) →
          ∀ x, sweepResolved k c x = resolved counted x := by
        intro c counted hc x
        dsimp only [resolved]
        split
        · next w hw =>
          split
          · next hcurrent => exact hc x w hcurrent hw
          · next hcurrent => rw [sweepResolved, hw]; exact if_neg hcurrent
        · next hw => rw [sweepResolved, hw]
      have hcase : ∀ {c x w}, w.current = some k → x.returns.sweep = some w →
          sweepResolved k c x = restartInactivity w.terminal (setSweep (some (sweepCounted c w)) x) := by
        intro c x w hcurrent hw
        rw [sweepResolved, hw]
        refine (if_pos hcurrent).trans ?_
        cases c <;> rfl
      have htaken : ∀ x, sweepResolved k .taken x = taken x := hresolved _ _ fun x w h hw => hcase h hw
      have hskipped : ∀ x, sweepResolved k .skipped x = skipped x := hresolved _ _ fun x w h hw => hcase h hw
      have hfailed : ∀ x, sweepResolved k .failed x = failed x := hresolved _ _ fun x w h hw => hcase h hw
      refine ⟨fun hjob => ⟨?_, rfl⟩, ?_, fun hjob => ?_, fun hs cls => ?_, fun before hbefore => ?_⟩
      · rw [sweepKept_read hat hgood hstate hjob]
        exact hskipped _
      · rw [sweepClose, onRecord_read hat hgood (by rw [hstate]; decide), htaken]
      · have hjob' : isJob (raiseMarked (.ret p.ref .swept) false true s).comps[n].state = true := hjob
        rw [sweepClose, onRecord_read hat hgood (by rw [hstate]; decide)]
        dsimp only
        have hbarred : ∀ y, barredWith n (some .sensor) y = barred n .sensor y := fun _ => rfl
        rw [barWithoutReport_use (.inr (.inr hjob')), htaken, hbarred]
      · have hlink : (count .lockFaults s).comps[n].link = some k := hlink
        have hs' : (count .lockFaults s).comps[n].state = .sweeping := hs
        have hjob : isJob (count .lockFaults s).comps[n].state = true := by rw [hs']; rfl
        have hbarred : parcelAt k (barredWith n (some .lockFault) (count .lockFaults s)) = some p := hat
        unfold lockFault
        dsimp only
        rw [hlink, hs']
        dsimp only
        rw [sweepLockFault, onRecord_read hcounted hcountedGood (by rw [hstate]; decide),
          barWithoutReport_use (.inr (.inr hjob)), modParcel_live hbarred]
        exact hfailed _
      · unfold tellEngine
        rw [hlink, hbefore]
        dsimp only
        rw [sweepBarred, onRecord_read hat hgood (by rw [hstate]; decide), modParcel_live hat]
        exact hfailed _

end Sys2Proof.Machine

/-! PROOFS. How a poll answer is judged, door by door: what is sensed and what opens (7.5, 8.2, 8.5 to 8.7). -/

namespace Sys2Proof.Machine

open Sys2Proof.Wire

variable {s : State} {n : CompNo} {c : Col} {r : PositionReading} {x : PolledDoor}

/-! ### The readings of an answer (R135, R152) -/

theorem takeReadings_good (readings : List PositionReading) (h : TablesGood s) : takeReadings c readings s =
    (let doors := (polledComps c readings s).map (asPolled s)
    doors.foldl (takeClosing s.time.minute) (doors.foldl takeOpening s)) := by
  have hverified : (polledComps c readings s).foldl (fun s x => verifyComp x.1 s) s = s :=
    foldl_of_fixed fun x _ => verifyComp_good (h.1 x.1)
  unfold takeReadings
  dsimp only
  rw [hverified]

theorem readingOf_eq (readings : List PositionReading) (s : State) : readingOf n c readings s =
    s.comps[n].place.bind (fun p => if s.comps[n].state ≠ .unfitted ∧ p.col = c ∧ p.pos.val < s.bus.columns[c].count.val
      then readings[p.pos.val]? else none) := by
  by_cases h : s.comps[n].state = .unfitted
  · rw [readingOf, fittedPlace_unfitted _ _ h, h]
    cases s.comps[n].place with
    | none => rfl
    | some p => simp
  · rw [readingOf, fittedPlace_fitted _ _ h]
    cases s.comps[n].place with
    | none => rfl
    | some p => exact if_congr (and_iff_right h).symm rfl rfl

theorem requeueOwed_eq (h : columnOf n s = some c) : requeueOwed n s =
    if s.doors.records[n].traceStep = .atPulseEnd ∧ s.doors.records[n].pulseEnd ≠ .none ∧ s.comps[n].phase = .awaitOpen then
      enqueueOp (.traceRead n c) (modDoor n (fun d => { d with traceStep := .queued }) s)
    else s := by
  rw [requeueOwed, queueTrace_eq h]

/-! ### What is sensed (R135, R152, R165) -/

theorem senseDoor_eq (n : CompNo) (r : PositionReading) (s : State) : senseDoor n r s =
    modDoor n (fun d =>
        if r.door = .opened then
          { d with ajar := some (d.ajar.getD s.mgmt.config.ajar), openSeconds := if d.ajar = none then 0 else d.openSeconds }
        else { d with ajar := none, openSeconds := 0 })
      (modComp n (fun c => { c with door := r.door, occ := r.occupancy }) s) := by
  unfold senseDoor ajarAtPoll
  cases r.door with
  | closed => rfl
  | opened =>
    refine congrArg (fun f => modDoor n f (modComp n (fun c => { c with door := .opened, occ := r.occupancy }) s))
      (funext fun d => ?_)
    rw [if_pos rfl]
    obtain ⟨_, _, _, _, _, _, ajar, _⟩ := d
    cases ajar <;> rfl

theorem senseDoor_comp (n : CompNo) (r : PositionReading) (s : State) : (senseDoor n r s).comps[n] =
    sealCompartment n { s.comps[n] with door := r.door, occ := r.occupancy } := by
  rw [senseDoor_eq]
  exact (modComp_at n n (fun c => { c with door := r.door, occ := r.occupancy }) s).trans (if_pos rfl)

theorem senseDoor_phase (n : CompNo) (r : PositionReading) (s : State) :
    (senseDoor n r s).comps[n].phase = s.comps[n].phase := by rw [senseDoor_comp, sealCompartment]

theorem senseDoor_state (n : CompNo) (r : PositionReading) (s : State) :
    (senseDoor n r s).comps[n].state = s.comps[n].state := by rw [senseDoor_comp, sealCompartment]

/-! ### Openings (R153 to R155) -/

theorem openingOf_opens {before : DoorState} (h : before = .closed ∧ (r.door = .opened ∨ r.latched = true)) :
    openingOf n before r s = openedEvent n s := by
  obtain ⟨rfl, h⟩ := h
  unfold openingOf
  cases hdoor : r.door with
  | opened => rfl
  | closed => exact if_pos (h.resolve_left (by rw [hdoor]; decide))

theorem openingOf_closes {before : DoorState} (h : before = .opened ∧ r.door = .closed) :
    openingOf n before r s = lateOpening n s := by
  unfold openingOf
  rw [h.1, h.2]

theorem openingOf_neither {before : DoorState} (hopens : ¬ (before = .closed ∧ (r.door = .opened ∨ r.latched = true)))
    (hcloses : ¬ (before = .opened ∧ r.door = .closed)) : openingOf n before r s = s := by
  unfold openingOf
  cases before with
  | opened =>
    cases hdoor : r.door with
    | opened => rfl
    | closed => exact absurd ⟨rfl, hdoor⟩ hcloses
  | closed =>
    cases hdoor : r.door with
    | opened => exact absurd ⟨rfl, .inl hdoor⟩ hopens
    | closed => exact if_neg fun hlatched => hopens ⟨rfl, .inr hlatched⟩

theorem openedEvent_awaited (h : s.comps[n].phase = .awaitGrant ∨ s.comps[n].phase = .awaitOpen) :
    openedEvent n s = expectedOpening n s := by
  unfold openedEvent
  rcases h with h | h <;> rw [h]

theorem lateOpening_awaited (h : s.comps[n].phase = .awaitGrant ∨ s.comps[n].phase = .awaitOpen) :
    lateOpening n s = expectedOpening n s := by
  unfold lateOpening
  rcases h with h | h <;> rw [h]

theorem openedEvent_open (h : s.comps[n].phase = .opened) : openedEvent n s = s := by rw [openedEvent, h]

theorem lateOpening_rest (h : s.comps[n].phase = .none ∨ s.comps[n].phase = .opened) : lateOpening n s = s := by
  unfold lateOpening
  rcases h with h | h <;> rw [h]

theorem openedEvent_loaded (h : s.comps[n].phase = .none) (hs : s.comps[n].state = .loaded) :
    openedEvent n s = raiseTamper n .loadedOpened (causeBar n .tamper s) := by rw [openedEvent, h, hs]

theorem openedEvent_vacant (h : s.comps[n].phase = .none) (hs : s.comps[n].state = .vacant) :
    openedEvent n s = raiseTamper n .vacantOpened (leaveFree n s) := by rw [openedEvent, h, hs]

theorem openedEvent_other (h : s.comps[n].phase = .none) (hl : s.comps[n].state ≠ .loaded) (hv : s.comps[n].state ≠ .vacant) :
    openedEvent n s = s := by
  unfold openedEvent
  rw [h]
  cases hs : s.comps[n].state with
  | loaded => exact absurd hs hl
  | vacant => exact absurd hs hv
  | _ => rfl

theorem takeOpening_events (h : x.how = .events) : takeOpening s x =
    openingOf x.comp x.before x.reading (senseDoor x.comp x.reading s) := by
  rw [takeOpening, openingAtPoll, h]

/-- Settles O58. The readings are judged as they stand at the poll; an opening goes by the door sensed before and the phase. -/
theorem pollIsJudgedDoorByDoor : Obligations.PollIsJudgedDoorByDoor := by
  refine ⟨fun s x c readings hrun huse hop => ?_, fun s x => ?_⟩
  · intro free pollEnded read polled judged requeued
    have hexec : ∀ y, (if columnPresent c free then pollAnswer c readings free else free) = y →
        exec (.pollAccept (addressByte c) readings) s = .next (conclude (pollEnded y)) := by
      intro y hy
      refine act_eq hrun ?_
      rw [answered_eq huse (by rw [hop]; rfl), acceptPoll, hop]
      exact congrArg (pollOver c) hy
    refine ⟨fun htables hpresent => hexec _ ?_, fun hpresent => hexec _ (if_neg (mt beq_iff_eq.mp hpresent))⟩
    refine (if_pos (beq_iff_eq.mpr hpresent)).trans ?_
    have hdoors : (polledComps c readings (setFirstPoll c false free)).map (asPolled (setFirstPoll c false free)) = polled := by
      rw [polledComps, List.map_filterMap]
      refine congrArg (fun f => (List.finRange 240).filterMap f) (funext fun n => ?_)
      have hread : ∀ r, asPolled (setFirstPoll c false free) (n, r) = read n r := by
        intro r
        have hhow : judgementOf n (setFirstPoll c false free) = (read n r).how := by
          rw [judgementOf]
          exact if_congr (by rw [Bool.and_eq_true]; exact Iff.rfl) rfl rfl
        rw [asPolled, hhow]
        rfl
      rw [readingOf_eq, Option.map_map]
      show Option.map _ (s.comps[n].place.bind _) = _
      cases s.comps[n].place with
      | none => rfl
      | some p =>
        rw [Option.bind_some]
        show Option.map _ (if s.comps[n].state ≠ .unfitted ∧ p.col = c ∧ p.pos.val < s.bus.columns[c].count.val
          then readings[p.pos.val]? else none) = _
        dsimp only
        split
        · exact congrArg (fun f => readings[p.pos.val]?.map f) (funext hread)
        · rfl
    have hjudged : takeReadings c readings (setFirstPoll c false free) = judged := by
      rw [takeReadings_good (s := setFirstPoll c false free) readings htables, hdoors]
      rfl
    have hrequeued : (fun (y : State) (n : CompNo) => if columnOf n y = some c then requeueOwed n y else y) =
        fun y n => if columnOf n y = some c ∧ y.doors.records[n].traceStep = .atPulseEnd ∧
          y.doors.records[n].pulseEnd ≠ .none ∧ y.comps[n].phase = .awaitOpen then
            enqueueOp (.traceRead n c) (modDoor n (fun d => { d with traceStep := .queued }) y)
          else y := by
      refine funext fun y => funext fun n => ?_
      by_cases h : columnOf n y = some c
      · rw [if_pos h, requeueOwed_eq h]
        exact if_congr (and_iff_right h).symm rfl rfl
      · rw [if_neg h]
        exact (if_neg fun hc => h hc.1).symm
    unfold pollAnswer
    dsimp only
    rw [hjudged, hrequeued]
  · intro n r sensed opens closes tamper
    have hsensed : senseDoor n r s = sensed := senseDoor_eq n r s
    have hphase : sensed.comps[n].phase = s.comps[n].phase := by rw [← hsensed, senseDoor_phase]
    have hstate : sensed.comps[n].state = s.comps[n].state := by rw [← hsensed, senseDoor_state]
    refine ⟨fun hhow => ?_, fun hhow => ⟨fun hdoor => ?_, fun hdoor => ?_⟩, fun h hhow => ⟨fun hdoor => ?_, fun hdoor => ?_⟩⟩
    · have htaken : takeOpening s x = openingOf n x.before r sensed := by rw [takeOpening_events hhow, hsensed]
      refine ⟨fun hevent hawaited => ?_, fun hopens hnone => ?_, fun hrest => ?_⟩
      · have hawaited : sensed.comps[n].phase = .awaitGrant ∨ sensed.comps[n].phase = .awaitOpen := by rw [hphase]; exact hawaited
        rcases hevent with hopens | hcloses
        · rw [htaken, openingOf_opens hopens, openedEvent_awaited hawaited]
          rfl
        · rw [htaken, openingOf_closes hcloses, lateOpening_awaited hawaited]
          rfl
      · have hnone : sensed.comps[n].phase = .none := hphase.trans hnone
        rw [htaken, openingOf_opens hopens, ← hstate]
        exact ⟨openedEvent_loaded hnone, openedEvent_vacant hnone, openedEvent_other hnone⟩
      · by_cases hopens : opens
        · rw [htaken, openingOf_opens hopens]
          rcases hrest with h | h | h
          · exact absurd hopens h.1
          · exact openedEvent_open (hphase.trans h)
          · exact nomatch hopens.1.symm.trans h.1.1
        · by_cases hcloses : closes
          · rw [htaken, openingOf_closes hcloses]
            rcases hrest with h | h | h
            · exact absurd hcloses h.2
            · exact lateOpening_rest (.inr (hphase.trans h))
            · exact lateOpening_rest (.inl (hphase.trans h.2))
          · rw [htaken, openingOf_neither hopens hcloses]
    · rw [takeOpening, hsensed, openingAtPoll, hhow, hdoor]
      rfl
    · rw [takeOpening, hsensed, openingAtPoll, hhow, hdoor]
    · rw [takeOpening, hsensed, openingAtPoll, hhow, hdoor]
    · rw [takeOpening, hsensed, openingAtPoll, hhow, hdoor]

end Sys2Proof.Machine

/-! PROOFS. How a poll answer is judged, door by door: what closes, and driver faults (8.2, 8.3, 8.5, 8.7). -/

namespace Sys2Proof.Machine

open Sys2Proof.Wire

variable {s : State} {n : CompNo} {c : Col} {r : PositionReading} {x : PolledDoor} {minute : Minute}

/-! ### Closes (R153, R155, R164) -/

theorem closingOf_closes {before : DoorState} (h : r.door = .closed ∧ (before = .opened ∨ r.latched = true)) :
    closingOf n before r minute s = closedEvent n r.occupancy minute s := by
  obtain ⟨hdoor, h⟩ := h
  unfold closingOf
  rw [hdoor]
  cases before with
  | opened => rfl
  | closed => exact if_pos (h.resolve_left nofun)

theorem closingOf_stands {before : DoorState} (h : ¬ (r.door = .closed ∧ (before = .opened ∨ r.latched = true))) :
    closingOf n before r minute s = s := by
  unfold closingOf
  cases hdoor : r.door with
  | opened => cases before <;> rfl
  | closed =>
    cases before with
    | opened => exact absurd ⟨hdoor, .inl rfl⟩ h
    | closed => exact if_neg fun hlatched => h ⟨hdoor, .inr hlatched⟩

theorem closedEvent_open {occ : Occupancy} (h : s.comps[n].phase = .opened) :
    closedEvent n occ minute s = close n occ minute s := by rw [closedEvent, h]

theorem closedEvent_rest {occ : Occupancy} (h : s.comps[n].phase = .none) :
    closedEvent n occ minute s = joinFree n s := by rw [closedEvent, h]

theorem close_eq (n : CompNo) (occ : Occupancy) (minute : Minute) (s : State) : close n occ minute s =
    if s.comps[n].state = .maint then stopJobTimers n (modComp n (fun k => { k with phase := .none }) s)
    else if occ = .uncertain then modDoor n (fun d => { d with heldClose := some { minute := minute, repolls := 0 } }) s
    else handClose n occ minute s := by
  unfold close
  cases occ <;> rfl

/-! ### Re-polls of a held close (R164) -/

theorem repoll_latched {h : HeldClose} (hr : r.latched = true) : repoll n h r minute s =
    close n r.occupancy minute (modDoor n (fun d => { d with heldClose := none }) s) := if_pos hr

theorem repoll_definite {h : HeldClose} (hr : r.latched = false) (hocc : r.occupancy ≠ .uncertain) :
    repoll n h r minute s = handClose n r.occupancy h.minute s := by
  refine (if_neg (by rw [hr]; exact Bool.false_ne_true)).trans ?_
  cases hread : r.occupancy with
  | uncertain => exact absurd hread hocc
  | _ => rfl

theorem repoll_uncertain {h : HeldClose} (hr : r.latched = false) (hocc : r.occupancy = .uncertain) : repoll n h r minute s =
    if h.repolls = 0 then modDoor n (fun d => { d with heldClose := some { h with repolls := 1 } }) s
    else if h.repolls = 1 then modDoor n (fun d => { d with heldClose := some { h with repolls := 2 } }) s
    else handClose n .uncertain h.minute s := by
  refine (if_neg (by rw [hr]; exact Bool.false_ne_true)).trans ?_
  rw [hocc]

/-! ### Driver faults (R156) -/

theorem confirmRuns_iff : confirmRuns n s = true ↔ s.doors.records[n].confirm.isSome = true ∧
    ∃ c, columnOf n s = some c ∧ s.bus.columns[c].state = .present ∧ s.doors.firstPoll[c] = false := by
  rw [confirmRuns, Bool.and_eq_true, doorRuns_iff]

/-- Settles O59. Each table is read by how the door is judged, its latch and its reading; a fault ends the confirm time. -/
theorem closesAndRepollsFollowTheirTables : Obligations.ClosesAndRepollsFollowTheirTables := by
  intro s minute x n r dropped handed closed repolled closes
  have hhanded : ∀ occ m y, handClose n occ m y = handed occ m y := fun occ m y => rfl
  have hclosed : ∀ y, close n r.occupancy minute y = closed y := by
    intro y
    rw [close_eq, hhanded]
  refine ⟨fun hhow => ⟨fun hcloses hphase => ?_, fun hcloses hphase => ?_, fun hcloses => ?_⟩, fun h hhow hdoor => ?_,
    fun hhow hdoor => ?_, fun hhow hdoor => ?_, ?_⟩
  · rw [closingAtPoll, hhow]
    exact (closingOf_closes hcloses).trans ((closedEvent_open hphase).trans (hclosed s))
  · rw [closingAtPoll, hhow]
    exact (closingOf_closes hcloses).trans (closedEvent_rest hphase)
  · rw [closingAtPoll, hhow]
    exact closingOf_stands hcloses
  · have hpoll : closingAtPoll minute x s = repoll n h r minute s := by rw [closingAtPoll, hhow, hdoor]
    refine ⟨fun hlatched => ?_, fun hlatched hocc => ?_, fun hlatched hocc => ⟨fun h0 => ?_, fun h1 => ?_, fun h2 => ?_⟩⟩
    · rw [hpoll, repoll_latched hlatched, hclosed]
    · rw [hpoll, repoll_definite hlatched hocc, hhanded]
    · rw [hpoll, repoll_uncertain hlatched hocc, if_pos h0]
    · rw [hpoll, repoll_uncertain hlatched hocc, if_neg (by rw [h1]; decide), if_pos h1]
    · rw [hpoll, repoll_uncertain hlatched hocc, if_neg (by rw [h2]; decide), if_neg (by rw [h2]; decide), hhanded]
  · intro unmarked closes
    have hpoll : closingAtPoll minute x s = resumedPoll n x.before r minute s := by rw [closingAtPoll, hhow, hdoor]
    refine ⟨fun hc => ?_, fun hc hstate => ?_, fun hc hstate k hlink => ?_⟩
    · rw [hpoll]
      exact (if_pos hc).trans (hclosed _)
    · rw [hpoll]
      refine (if_neg hc).trans ?_
      rw [hstate]
      rfl
    · rw [hpoll]
      refine (if_neg hc).trans ?_
      rw [hstate, hlink]
      rfl
  · rw [closingAtPoll, hdoor]
    cases hx : x.how with
    | events => exact absurd hx hhow
    | _ => rfl
  · intro t ends expired
    have hends : (t.comps[n].phase = .awaitOpen ∧ confirmRuns n t = true) ↔ ends := by
      rw [confirmRuns_iff]
      exact ⟨fun ⟨hp, hc, c, h⟩ => ⟨c, hp, hc, h⟩, fun ⟨c, hp, hc, h⟩ => ⟨hp, hc, c, h⟩⟩
    refine ⟨fun hfault he => ?_, fun h => ?_⟩
    · have htaken : takeClosing minute s x = confirmExpired n t := (if_pos hfault).trans (if_pos (hends.mpr he))
      obtain ⟨c, hphase, _, hcolumn, _⟩ := he
      refine ⟨fun hend => ?_, fun hend d hd => ?_⟩
      · rw [htaken, confirmExpired_awaited hcolumn hphase, if_pos hend]
      · rw [htaken, confirmExpired_awaited hd hphase, if_neg hend]
    · rcases h with h | h
      · exact if_neg (by rw [h]; exact Bool.false_ne_true)
      · by_cases hfault : r.driverFault = true
        · exact (if_pos hfault).trans (if_neg (mt hends.mp h))
        · exact if_neg hfault

end Sys2Proof.Machine

/-! PROOFS. What a check failure does, as the scrubber meets it at its cursor (10.4, 10.5). -/

namespace Sys2Proof.Machine

open Sys2Proof.Wire

variable {s x : State} {n : CompNo} {k : Slot} {t : Term} {p : Parcel} {w : Way}

/-! ### The scrubber at its cursor (R191) -/

theorem exec_scrubVisit {y : State} {c : Nat} (hrun : running s = true) (hon : s.mgmt.config.scrubber = true)
    (hcursor : s.checker.cursor.val = c) (hy : scrubEntry c s = y) : exec .scrubVisit s = .next (conclude { y with checker :=
      { y.checker with cursor := ⟨(s.checker.cursor.val + 1) % 1136, Nat.mod_lt _ (by decide)⟩, timer := 100 } }) := by
  subst hcursor
  refine act_eq hrun ?_
  rw [scrubVisit, cfg, if_pos hon]
  dsimp only
  rw [hy]
  exact congrArg (fun c => { y with checker := { y.checker with cursor := c, timer := 100 } }) (Fin.ext rfl)

theorem scrubEntry_comp (h : compGood n s = false) : scrubEntry n.val s = compartmentFailure n s := by
  rw [scrubEntry, below?_of_lt n.isLt]
  exact if_neg (by rw [h]; exact Bool.false_ne_true)

theorem scrubEntry_record (h : parcelGood k s = false) : scrubEntry (240 + k.val) s = quarantine k s := by
  rw [scrubEntry, below?_of_le (by omega), Nat.add_sub_cancel_left, below?_of_lt k.isLt]
  exact if_neg (by rw [h]; exact Bool.false_ne_true)

theorem scrubEntry_way (h : wayGood w s = false) : scrubEntry (624 + w.val) s = credentialFailure w s := by
  rw [scrubEntry, below?_of_le (by omega), below?_of_le (by omega), Nat.add_sub_cancel_left, below?_of_lt w.isLt]
  exact if_neg (by rw [h]; exact Bool.false_ne_true)

/-! ### A damaged compartment (R193) -/

theorem leaveFree_leaveFree (n : CompNo) (s : State) : leaveFree n (leaveFree n s) = leaveFree n s := by
  simp only [leaveFree, List.filter_filter, Bool.and_self]

theorem barWithoutReport_integrity (h : s.comps[n].state ≠ .unfitted) : barWithoutReport n .integrity s =
    if s.comps[n].state = .maint then { barredWith n (some .integrity) s with maintSlot := none }
    else barredWith n (some .integrity) s := by
  rw [barWithoutReport_fitted h]
  dsimp only
  rw [if_neg fun hc : s.comps[n].state = .barred ∧ BarCause.integrity ≠ .integrity => hc.2 rfl]

theorem modComp_state (f : Compartment → Compartment) : (modComp n f s).comps[n].state = (f s.comps[n]).state := by
  rw [modComp_at, if_pos rfl, sealCompartment]

theorem failedEntry_unfitted (h : s.comps[n].state = .unfitted) : failedEntry n s = reportFailure .compartment n.val
    (modDoor n (fun _ => Cold.doorRecord) (modComp n (fun c => { c with link := none }) (leaveFree n s))) :=
  congrArg (reportFailure .compartment n.val) (if_pos h)

theorem failedEntry_fitted {found : Option Slot} (h : s.comps[n].state ≠ .unfitted) (hfound : recordNaming n s = found) :
    failedEntry n s = reportFailure .compartment n.val
      (barWithoutReport n .integrity (modComp n (fun c => { c with link := found }) s)) := by
  have hstate : (modComp n (fun c => { c with link := found }) s).comps[n].state ≠ .unfitted := by
    rw [modComp_state]
    exact h
  have hstate' : (modComp n (fun c => { c with link := found }) (leaveFree n s)).comps[n].state ≠ .unfitted := hstate
  have hfound : recordNaming n (leaveFree n s) = found := hfound
  have hlists : leaveFree n (modComp n (fun c => { c with link := found }) (leaveFree n s)) =
      leaveFree n (modComp n (fun c => { c with link := found }) s) :=
    congrArg (fun y => modComp n (fun c => { c with link := found }) y) (leaveFree_leaveFree n s)
  have hbarred : barredWith n (some .integrity) (modComp n (fun c => { c with link := found }) (leaveFree n s)) =
      barredWith n (some .integrity) (modComp n (fun c => { c with link := found }) s) := by
    rw [barredWith, hlists, barredWith]
  unfold failedEntry
  refine congrArg (reportFailure .compartment n.val) ((if_neg (c := s.comps[n].state = .unfitted) h).trans ?_)
  dsimp only
  rw [hfound, barWithoutReport_integrity hstate', barWithoutReport_integrity hstate, hbarred]
  rfl

theorem recordNaming_some (hat : ∃ p, parcelAt k s = some p ∧ p.comp = some n)
    (hlow : ∀ j p, j < k → parcelAt j s = some p → p.comp ≠ some n) : recordNaming n s = some k := by
  obtain ⟨p, hat, hcomp⟩ := hat
  have hslot : ∀ j, parcelAt j s = s.parcels.slots[j] := fun _ => rfl
  refine find?_finRange_eq_some ?_ fun j hj => ?_
  · rw [← hslot, hat]
    exact beq_iff_eq.mpr hcomp
  · rw [← hslot]
    cases hj' : parcelAt j s with
    | none => rfl
    | some q => exact beq_eq_false_iff_ne.mpr (hlow j q hj hj')

theorem recordNaming_none (h : ∀ j p, parcelAt j s = some p → p.comp ≠ some n) : recordNaming n s = none := by
  refine List.find?_eq_none.mpr fun j _ => ?_
  have hslot : ∀ j, parcelAt j s = s.parcels.slots[j] := fun _ => rfl
  rw [← hslot]
  cases hj : parcelAt j s with
  | none => exact Bool.false_ne_true
  | some q => exact fun hc => h j q hj (beq_iff_eq.mp hc)

/-! ### A damaged credential (R194) -/

/-- The way carries the courier number (R36). -/
def carriesCourier (i : CourierNo) (e : Option Credential) : Bool :=
  match e.map Credential.kind with
  | some (.courier j) => j.number == i
  | _ => false

theorem carriesCourier_iff {i : CourierNo} {e : Option Credential} : carriesCourier i e = true ↔
    ∃ j, e.map Credential.kind = some (.courier j) ∧ j.number = i := by
  unfold carriesCourier
  split
  · next j hj =>
    rw [beq_iff_eq]
    exact ⟨fun h => ⟨j, hj, h⟩, fun ⟨j', hj', h⟩ => by cases hj.symm.trans hj'; exact h⟩
  · next hno => exact ⟨nofun, fun ⟨j, hj, _⟩ => absurd hj (hno j)⟩

theorem courierEnrolled_eq (i : CourierNo) (s : State) : courierEnrolled i s = s.creds.ways.toList.any (carriesCourier i) := by
  refine congrArg (fun f => s.creds.ways.toList.any f) (funext fun e => ?_)
  cases e with
  | none => rfl
  | some c =>
    obtain ⟨kind, _, _⟩ := c
    cases kind <;> rfl

theorem courierEnrolled_iff (i : CourierNo) : courierEnrolled i (freeWay w s) = true ↔
    ∃ v j, v ≠ w ∧ s.creds.ways[v].map Credential.kind = some (.courier j) ∧ j.number = i := by
  have hmem : ∀ e, e ∈ (freeWay w s).creds.ways.toList ↔ ∃ v : Way, (freeWay w s).creds.ways[v] = e := by
    intro e
    rw [Vector.mem_toList_iff, Vector.mem_iff_getElem]
    exact ⟨fun ⟨v, hv, h⟩ => ⟨⟨v, hv⟩, h⟩, fun ⟨v, h⟩ => ⟨v.val, v.isLt, h⟩⟩
  rw [courierEnrolled_eq, List.any_eq_true]
  constructor
  · rintro ⟨e, he, hcarries⟩
    obtain ⟨v, hv⟩ := (hmem e).mp he
    obtain ⟨j, hkind, hnumber⟩ := carriesCourier_iff.mp hcarries
    rw [freeWay_at] at hv
    by_cases h : w = v
    · rw [if_pos h] at hv
      subst hv
      cases hkind
    · rw [if_neg h] at hv
      exact ⟨v, j, Ne.symm h, by rw [hv]; exact hkind, hnumber⟩
  · rintro ⟨v, j, hne, hkind, hnumber⟩
    have hv : (freeWay w s).creds.ways[v] = s.creds.ways[v] := by rw [freeWay_at, if_neg (Ne.symm hne)]
    exact ⟨_, (hmem _).mpr ⟨v, rfl⟩, carriesCourier_iff.mpr ⟨j, by rw [hv]; exact hkind, hnumber⟩⟩

/-- What the loss of a courier's entry does at one terminal (R194). -/
def dropCourier (s : State) (t : Term) : State :=
  match courierAt t s with
  | some i => if courierEnrolled i.number s then s else courierRemoved t s
  | none => s

theorem credentialFailure_courier {e : Credential} {j : CourierInfo} (he : s.creds.ways[w] = some e) (hkind : e.kind = .courier j) :
    credentialFailure w s = reportFailure .credential w.val (allTerms.foldl dropCourier (freeWay w s)) := by
  rw [credentialFailure, he]
  dsimp only
  rw [hkind]
  rfl

theorem credentialFailure_other {e : Credential} (he : s.creds.ways[w] = some e) (hkind : ∀ j, e.kind ≠ .courier j) :
    credentialFailure w s = reportFailure .credential w.val (freeWay w s) := by
  rw [credentialFailure, he]
  dsimp only
  cases h : e.kind with
  | courier j => exact absurd h (hkind j)
  | _ => rfl

theorem dropCourier_stands (h : ∀ i, s.creds.terms[t].mode = .courier i → courierEnrolled i.number s = true) :
    dropCourier s t = s := by
  unfold dropCourier
  cases hc : courierAt t s with
  | none => rfl
  | some i => exact if_pos (h i (courierAt_eq_some.mp hc))

theorem dropCourier_removed {i : CourierInfo} (hmode : s.creds.terms[t].mode = .courier i)
    (h : ¬ courierEnrolled i.number s = true) : dropCourier s t = courierRemoved t s := by
  rw [dropCourier, courierAt_eq_some.mpr hmode]
  exact if_neg h

theorem courierRemoved_idle (hjob : s.creds.terms[t].openJob = none) (hsweep : ∀ v, s.returns.sweep = some v → v.terminal ≠ t) :
    courierRemoved t s = modTerm t (fun c => { c with mode := .idle, signOffPending := false }) s := by
  rw [courierRemoved, hjob]
  exact signOff_of_no_sweep hsweep

theorem courierRemoved_busy (hjob : s.creds.terms[t].openJob ≠ none) :
    courierRemoved t s = modTerm t (fun c => { c with signOffPending := true }) s := by
  unfold courierRemoved
  split
  · next h => exact absurd h hjob
  · rfl

/-- Only the terminal whose courier is enrolled no more is changed. -/
theorem foldl_dropCourier {f : TermContext → TermContext} (hdrop : dropCourier s t = modTerm t f s)
    (hothers : ∀ (u : Term) i, u ≠ t → s.creds.terms[u].mode = .courier i → courierEnrolled i.number s = true) :
    allTerms.foldl dropCourier s = modTerm t f s := by
  rw [← hdrop]
  refine foldl_at allTerms_nodup (mem_allTerms t) (fun u _ hu => dropCourier_stands fun i hi => hothers u i hu hi) fun u _ hu => ?_
  rw [hdrop]
  refine dropCourier_stands fun i hi => ?_
  rw [modTerm_other hu] at hi
  exact hothers u i hu hi

/-! ### A damaged record (R192) -/

theorem leaveReturnQueue_charge (k : Slot) (s : State) : (leaveReturnQueue k s).charge = s.charge := by
  by_cases h : k ∈ s.returns.queue
  · rw [leaveReturnQueue_queued h]
  · rw [leaveReturnQueue_absent h]

theorem leaveReturnQueue_collection (k : Slot) (s : State) : (leaveReturnQueue k s).collection = s.collection := by
  by_cases h : k ∈ s.returns.queue
  · rw [leaveReturnQueue_queued h]
  · rw [leaveReturnQueue_absent h]

theorem barWithoutReport_charge (n : CompNo) (c : BarCause) (s : State) : (barWithoutReport n c s).charge = s.charge := by
  unfold barWithoutReport
  dsimp only
  split
  · rfl
  · split <;> rfl

theorem barWithoutReport_collection (n : CompNo) (c : BarCause) (s : State) :
    (barWithoutReport n c s).collection = s.collection := by
  unfold barWithoutReport
  dsimp only
  split
  · rfl
  · split <;> rfl

/-- The computations of a slot leave the queue, and the one in progress ends when it is the head's (R74, R77). -/
theorem dropCharge_eq (k : Slot) (s : State) : dropCharge k s = { s with charge := { s.charge with
    queue := s.charge.queue.filter (fun e => e.slot != k)
    running := if s.charge.queue.head?.any (fun e => e.slot == k) then none else s.charge.running } } := by
  unfold dropCharge
  cases s.charge.queue with
  | nil => rfl
  | cons e rest =>
    have hhead : ((e :: rest).head?.any (fun e => e.slot == k)) = true ↔ e.slot = k := beq_iff_eq
    rw [if_congr hhead rfl rfl]
    rfl

/-- The current record of the sweep resolves as failed (R116). -/
theorem sweepResolved_current {v : Sweep} (hcurrent : v.current = some k) (hv : s.returns.sweep = some v) :
    sweepResolved k .failed s =
      restartInactivity v.terminal (setSweep (some { v with current := none, failed := satInc v.failed }) s) := by
  rw [sweepResolved, hv]
  exact if_pos hcurrent

theorem compartmentNaming_some (hlink : s.comps[n].link = some k) (hlow : ∀ m, m < n → s.comps[m].link ≠ some k) :
    compartmentNaming k s = some n :=
  find?_finRange_eq_some (beq_iff_eq.mpr hlink) fun m hm => beq_eq_false_iff_ne.mpr (hlow m hm)

theorem compartmentNaming_none (h : ∀ n : CompNo, s.comps[n].link ≠ some k) : compartmentNaming k s = none :=
  List.find?_eq_none.mpr fun n _ hc => h n (beq_iff_eq.mp hc)

theorem markerComp_marked (h : markerComp k s = some n) : ∃ t : Term, s.deposit.markers[t] = some { slot := k, comp := n } := by
  obtain ⟨t, _, ht⟩ := List.exists_of_findSome?_eq_some h
  refine ⟨t, ?_⟩
  split at ht
  · next m hm =>
    split at ht
    · next hslot =>
      cases ht
      rw [hm, ← hslot]
    · cases ht
  · cases ht

theorem markerComp_none (h : markerComp k s = none) (t : Term) : s.deposit.markers[t] ≠ some { slot := k, comp := n } := by
  intro ht
  have hnone := List.findSome?_eq_none_iff.mp h t (mem_allTerms t)
  rw [ht] at hnone
  dsimp only at hnone
  rw [if_pos rfl] at hnone
  cases hnone

theorem depositComp_eq_some : depositComp k s = some n ↔
    compartmentNaming k s = some n ∧ (s.comps[n].state = .held ∨ s.comps[n].state = .loading) := by
  rw [depositComp, Option.filter_eq_some_iff, Bool.or_eq_true, beq_iff_eq, beq_iff_eq]

/-- The compartment of a record's deposit: its marker's, else that of a deposit resumed at a start (R61, R192). -/
theorem depositOf_some (hmarked : ∀ m (t : Term), s.deposit.markers[t] = some { slot := k, comp := m } → m = n)
    (h : (∃ t : Term, s.deposit.markers[t] = some { slot := k, comp := n }) ∨ depositComp k s = some n) :
    (markerComp k s).or (depositComp k s) = some n := by
  cases hm : markerComp k s with
  | some m =>
    obtain ⟨t, ht⟩ := markerComp_marked hm
    rw [hmarked m t ht]
    rfl
  | none => exact h.resolve_left fun ⟨t, ht⟩ => markerComp_none hm t ht

theorem depositOf_none (hmarked : ∀ m (t : Term), s.deposit.markers[t] ≠ some { slot := k, comp := m })
    (h : depositComp k s = none) : (markerComp k s).or (depositComp k s) = none := by
  cases hm : markerComp k s with
  | some m =>
    obtain ⟨t, ht⟩ := markerComp_marked hm
    exact absurd ht (hmarked m t)
  | none => exact h

theorem failedUncharged_elim (deposit : Option CompNo) (k : Slot) (p : Parcel) (s : State) : failedUncharged deposit k p s =
    (let entry := setParcel k { p with state := .quarantined, comp := compartmentNaming k s } s
    let out := leaveReturnQueue k ((compartmentNaming k s).elim entry fun n => barFound n entry)
    deposit.elim out fun n => clearMarkers k (raise (.deposit p.ref (compByte n) .integrity none) out)) := by
  unfold failedUncharged
  cases compartmentNaming k s with
  | none => cases deposit <;> dsimp only [Option.elim]
  | some n => cases deposit <;> dsimp only [Option.elim]

/-- Settles O60. Each failure's steps in their order; a part of the state that the earlier steps leave alone is read as it was. -/
theorem failedEntriesAreTaken : Obligations.FailedEntriesAreTaken := by
  unfold Obligations.FailedEntriesAreTaken
  intro reported barred visited
  have hbarred : ∀ n y, y.comps[n].state ≠ .unfitted → barWithoutReport n .integrity y = barred n y :=
    fun n y h => barWithoutReport_integrity h
  refine ⟨fun s k p found hrun hon hcursor hat hbad hfound hnone deposit => ?_, fun s n found hrun hon hcursor hbad hfound hnone => ?_,
    fun s w e hrun hon hcursor he hbad => ?_⟩
  · intro marked resumed hdeposit hnodeposit entry out told uncharged voided resolved
    have hnaming : compartmentNaming k s = found := by
      cases found with
      | some n => obtain ⟨hlink, hlow, _⟩ := hfound n rfl; exact compartmentNaming_some hlink hlow
      | none => exact compartmentNaming_none (hnone rfl)
    have hdepositOf : (markerComp k s).or (depositComp k s) = deposit := by
      cases deposit with
      | some n =>
        obtain ⟨hmarked, h⟩ := hdeposit n rfl
        exact depositOf_some (fun m t ht => hmarked m ⟨t, ht⟩)
          (h.imp id fun ⟨hf, hs⟩ => depositComp_eq_some.mpr ⟨hnaming.trans hf, hs⟩)
      | none =>
        refine depositOf_none (fun m t ht => (hnodeposit rfl m).1 ⟨t, ht⟩) (Option.eq_none_iff_forall_ne_some.mpr fun n hn => ?_)
        obtain ⟨hn, hs⟩ := depositComp_eq_some.mp hn
        exact (hnodeposit rfl n).2 ⟨hnaming.symm.trans hn, hs⟩
    have hout : leaveReturnQueue k (found.elim entry fun n => barFound n entry) = out := by
      cases found with
      | none => rfl
      | some n =>
        obtain ⟨_, _, hgood, hfitted⟩ := hfound n rfl
        exact congrArg (leaveReturnQueue k) ((if_pos (c := compGood n s = true) hgood).trans (hbarred n entry hfitted))
    have htold : failedUncharged deposit k p s = told := by
      rw [failedUncharged_elim, hnaming]
      show deposit.elim (leaveReturnQueue k (found.elim entry fun n => barFound n entry)) _ = _
      rw [hout]
      cases deposit with
      | none => rfl
      | some n => exact clearMarkers_eq k _
    have htoldOut : told.charge = out.charge ∧ told.collection = out.collection := by
      cases deposit <;> exact ⟨rfl, rfl⟩
    have houtSame : out.charge = s.charge ∧ out.collection = s.collection := by
      rw [← hout, leaveReturnQueue_charge, leaveReturnQueue_collection]
      cases found with
      | none => exact ⟨rfl, rfl⟩
      | some n =>
        obtain ⟨_, _, hgood, hfitted⟩ := hfound n rfl
        have hbar : barFound n entry = barWithoutReport n .integrity entry := if_pos (c := compGood n s = true) hgood
        show (barFound n entry).charge = _ ∧ (barFound n entry).collection = _
        rw [hbar, barWithoutReport_charge, barWithoutReport_collection]
        exact ⟨rfl, rfl⟩
    have hcharge : told.charge = s.charge := htoldOut.1.trans houtSame.1
    have huncharged : (s.charge.queue.filter (fun e => e.slot == k)).foldl
        (fun s e => refuse (collectHeader e) .integrity s) (dropCharge k told) = uncharged := by
      rw [dropCharge_eq, hcharge]
      rfl
    have hcollection : uncharged.collection = s.collection :=
      (foldl_leaves State.collection (fun y e => (placeReply_sameBut _ y).collection) _ _).trans (htoldOut.2.trans houtSame.2)
    have hvoided : setReopen ((setContextsOn k (fun _ => .void k) uncharged).collection.reopen.filter (fun e => e.slot != k))
        (setContextsOn k (fun _ => .void k) uncharged) = voided := by
      have hcontexts : (fun c => if contextSlot c = some k then .void k else c) = fun c => match c with
          | .none | .void _ => c
          | .quoting j | .due j _ _ | .releasing j _ => if j = k then QuoteContext.void k else c :=
        funext fun c => by cases c <;> simp [contextSlot]
      rw [setContextsOn_eq, hcollection, hcontexts]
      rfl
    have hresolved : sweepResolved k .failed voided = resolved := by
      dsimp only [resolved]
      split
      · next v hv =>
        split
        · next hcurrent => exact sweepResolved_current hcurrent hv
        · next hcurrent => rw [sweepResolved, hv]; exact if_neg hcurrent
      · next hv => rw [sweepResolved, hv]
    refine exec_scrubVisit hrun hon hcursor ?_
    rw [scrubEntry_record hbad, quarantine, quarantineIn, hat, hdepositOf]
    dsimp only
    rw [failedRecord_eq, htold, failedCharged, huncharged, hvoided, hresolved]
    rfl
  · have hnaming : recordNaming n s = found := by
      cases found with
      | some k => obtain ⟨hk, hlow⟩ := hfound k rfl; exact recordNaming_some hk hlow
      | none => exact recordNaming_none (hnone rfl)
    refine ⟨fun hunfitted => exec_scrubVisit hrun hon hcursor ?_, fun hfitted => exec_scrubVisit hrun hon hcursor ?_⟩
    · rw [scrubEntry_comp hbad, compartmentFailure, tellEngine_jobless (by rw [hunfitted]; rfl), failedEntry_unfitted hunfitted]
      rfl
    · rw [scrubEntry_comp hbad, compartmentFailure, failedEntry_fitted hfitted hnaming,
        hbarred _ _ (by rw [modComp_state]; exact hfitted)]
      rfl
  · intro freed held
    have hheld : ∀ i : CourierInfo, courierEnrolled i.number (freeWay w s) = true ↔ held i := fun i => courierEnrolled_iff i.number
    refine ⟨fun h => exec_scrubVisit hrun hon hcursor ?_, fun t i j hkind hmode hno hothers => ?_⟩
    · rw [scrubEntry_way hbad]
      by_cases hcourier : ∀ j, e.kind ≠ .courier j
      · rw [credentialFailure_other he hcourier]
        rfl
      · obtain ⟨j, hj⟩ := not_forall_not.mp hcourier
        have hall := h.resolve_left fun hnot => hnot j hj
        rw [credentialFailure_courier he hj, foldl_of_fixed fun t _ =>
          dropCourier_stands fun i hi => (hheld i).mpr (hall t i hi)]
        rfl
    · have hfold : ∀ f, courierRemoved t (freeWay w s) = modTerm t f (freeWay w s) →
          visited s (reported .credential w.val (modTerm t f freed)) := by
        refine fun f hf => exec_scrubVisit hrun hon hcursor ?_
        rw [scrubEntry_way hbad, credentialFailure_courier he hkind, foldl_dropCourier
          ((dropCourier_removed (s := freeWay w s) hmode (mt (hheld i).mp hno)).trans hf)
          fun u l hu hl => (hheld l).mpr (hothers u l hu hl)]
        rfl
      exact ⟨fun hjob hsweep => hfold _ (courierRemoved_idle (s := freeWay w s) hjob hsweep),
        fun hjob => hfold _ (courierRemoved_busy (s := freeWay w s) hjob)⟩

end Sys2Proof.Machine

/-! PROOFS. The agreement of free lists, links and tables, as it stands between the operations of a taking, and what each
write of an entry, a record, a list or a door record does to it (R5, R7, R17, R43, R44, R164). -/

namespace Sys2Proof.Machine

variable {s t : State} {n m : CompNo} {k j : Slot} {p : Parcel}

/-! ### Agreement between the operations -/

/-- What an operation under way leaves open: compartments that may still have to join their list, and compartments whose
resumed mark or held close a poll has read and not judged yet. -/
structure Awaited where
  late : CompNo → Prop
  marked : CompNo → Prop
  held : CompNo → Prop

/-- Nothing is left open. -/
def Awaited.nothing : Awaited := { late := fun _ => False, marked := fun _ => False, held := fun _ => False }

/-- The compartment, too, may still have to join its list. -/
def Awaited.withLate (v : Awaited) (n : CompNo) : Awaited := { v with late := fun m => v.late m ∨ m = n }

/-- No poll awaits the compartment's mark or held close. -/
def Awaited.spares (v : Awaited) (n : CompNo) : Prop := ¬ v.marked n ∧ ¬ v.held n

theorem nothing_spares (n : CompNo) : Awaited.nothing.spares n := ⟨id, id⟩

/-- An entry of a compartment agrees with the lists, the door record, the resumed mark and the maintenance-loop slot. -/
structure EntryAgrees (v : Awaited) (s : State) (n : CompNo) (c : Compartment) : Prop where
  listed : ∀ cls, n ∈ listOf cls s.freeLists →
    c.cls = cls ∧ c.state = .vacant ∧ c.door = .closed ∧ c.pendingBar = false
  joined : c.state = .vacant → c.door = .closed → c.pendingBar = false → v.late n ∨ n ∈ listOf c.cls s.freeLists
  unlinked : c.state = .unfitted ∨ c.state = .vacant ∨ c.state = .maint → c.link = none
  pending : c.pendingBar = true → c.state ≠ .unfitted ∧ c.state ≠ .vacant ∧ c.state ≠ .barred
  phase : c.phase ≠ .none → isJob c.state = true ∨ c.state = .maint
  held : s.doors.records[n].heldClose ≠ none → isJob c.state = true ∧ c.phase = .opened
  resumed : s.deposit.resumed[n] = true → isJob c.state = true
  loop : c.state = .maint ↔ ∃ l, s.maintSlot = some l ∧ l.comp = n

/-- The record a sweep is at (R109). -/
def sweptRecord (s : State) : Option Slot := s.returns.sweep.bind Sweep.current

/-- Entries agree with their check bytes, and tables, lists and links with each other, but for what is left open. -/
structure Sound (v : Awaited) (s : State) : Prop where
  good : TablesGood s
  entry : ∀ n : CompNo, EntryAgrees v s n s.comps[n]
  once : ∀ cls, (listOf cls s.freeLists).Nodup
  linked : ∀ (n : CompNo) (k : Slot), s.comps[n].link = some k ↔ ∃ p, parcelAt k s = some p ∧ p.comp = some n
  advised : ∀ k p, parcelAt k s = some p → p.state = .advised → p.comp = none
  slots : ∀ k, k ∈ s.parcels.free ↔ parcelAt k s = none
  slotsOnce : s.parcels.free.Nodup
  swept : ∀ k (n : CompNo), sweptRecord s = some k → s.comps[n].link = some k → s.deposit.resumed[n] = false
  marked : ∀ n : CompNo, v.marked n → s.deposit.resumed[n] = true
  heldOpen : ∀ n : CompNo, v.held n → s.doors.records[n].heldClose ≠ none

variable {v u : Awaited}

theorem sweptRecord_eq_some : sweptRecord s = some k ↔ ∃ w, s.returns.sweep = some w ∧ w.current = some k :=
  Option.bind_eq_some_iff

/-- With nothing left open, the agreement is that of the statements. -/
theorem sound_iff : Sound .nothing s ↔ TablesGood s ∧ TablesAgree s := by
  constructor
  · intro h
    refine ⟨h.good, ⟨fun cls n => ⟨(h.entry n).listed cls, ?_⟩, h.once, h.linked, fun n => (h.entry n).unlinked, h.advised,
      h.slots, h.slotsOnce, fun n => (h.entry n).pending, fun n => (h.entry n).phase, fun n => (h.entry n).held,
      fun n => (h.entry n).resumed, fun w k n hw hk => h.swept k n (sweptRecord_eq_some.mpr ⟨w, hw, hk⟩),
      fun n => (h.entry n).loop⟩⟩
    rintro ⟨rfl, hstate, hdoor, hbar⟩
    exact ((h.entry n).joined hstate hdoor hbar).resolve_left id
  · rintro ⟨hgood, h⟩
    refine ⟨hgood, fun n => ⟨fun cls => (h.listed cls n).mp, fun hstate hdoor hbar => .inr ?_, h.unlinked n, h.pending n,
      h.phase n, h.held n, h.resumed n, h.loop n⟩, h.once, h.linked, h.advised, h.slots, h.slotsOnce,
      fun k n hk => ?_, fun n => False.elim, fun n => False.elim⟩
    · exact (h.listed _ n).mpr ⟨rfl, hstate, hdoor, hbar⟩
    · obtain ⟨w, hw, hk⟩ := sweptRecord_eq_some.mp hk
      exact h.swept w k n hw hk

/-- More may be left open of the lists, and less of the marks and held closes. -/
theorem Sound.mono (h : Sound v s) (hlate : ∀ n, v.late n → u.late n) (hmarked : ∀ n, u.marked n → v.marked n)
    (hheld : ∀ n, u.held n → v.held n) : Sound u s :=
  { h with
    entry := fun n => { h.entry n with joined := fun a b c => ((h.entry n).joined a b c).imp_left (hlate n) }
    marked := fun n hn => h.marked n (hmarked n hn)
    heldOpen := fun n hn => h.heldOpen n (hheld n hn) }

theorem Sound.withLate (h : Sound v s) (n : CompNo) : Sound (v.withLate n) s :=
  h.mono (fun _ => .inl) (fun _ => id) (fun _ => id)

/-- A compartment that is not to be listed is not late. -/
theorem Sound.notLate (h : Sound (v.withLate n) s)
    (hn : ¬ (s.comps[n].state = .vacant ∧ s.comps[n].door = .closed ∧ s.comps[n].pendingBar = false)) : Sound v s :=
  { h with
    entry := fun m =>
      { h.entry m with
        joined := fun a b c => by
          refine ((h.entry m).joined a b c).imp_left fun hm => hm.resolve_right ?_
          rintro rfl
          exact hn ⟨a, b, c⟩ } }

/-! ### What the agreement speaks of -/

/-- The parts of the state that the agreement speaks of. -/
structure AgreedParts where
  comps : Vector Compartment 240
  freeLists : FreeLists
  maintSlot : Option MaintSlot
  parcels : ParcelStore
  ways : Vector (Option Credential) 512
  resumed : Vector Bool 240
  heldClose : CompNo → Option HeldClose
  swept : Option Slot

/-- The agreed parts of a state. -/
def agreedParts (s : State) : AgreedParts :=
  { comps := s.comps, freeLists := s.freeLists, maintSlot := s.maintSlot, parcels := s.parcels, ways := s.creds.ways
    resumed := s.deposit.resumed, heldClose := fun n => s.doors.records[n].heldClose, swept := sweptRecord s }

/-- Only the agreed parts matter. -/
theorem sound_of_parts (h : Sound v s) (e : agreedParts t = agreedParts s) : Sound v t := by
  simp only [agreedParts, AgreedParts.mk.injEq] at e
  obtain ⟨hcomps, hlists, hslot, hparcels, hways, hresumed, hheld, hswept⟩ := e
  have hclose : ∀ n : CompNo, t.doors.records[n].heldClose = s.doors.records[n].heldClose := congrFun hheld
  have hat : ∀ k, parcelAt k t = parcelAt k s := fun k => by rw [parcelAt, hparcels]; rfl
  refine ⟨?_, fun n => ?_, ?_, fun n k => ?_, fun k p => ?_, fun k => ?_, ?_, fun k n => ?_, fun n => ?_, fun n => ?_⟩
  · simpa only [TablesGood, compGood, parcelGood, parcelAt, wayGood, hcomps, hparcels, hways] using h.good
  · rw [hcomps]
    have hn := h.entry n
    exact ⟨by rw [hlists]; exact hn.listed, by rw [hlists]; exact hn.joined, hn.unlinked, hn.pending, hn.phase,
      by rw [hclose]; exact hn.held, by rw [hresumed]; exact hn.resumed, by rw [hslot]; exact hn.loop⟩
  · rw [hlists]; exact h.once
  · rw [hcomps, hat]; exact h.linked n k
  · rw [hat]; exact h.advised k p
  · rw [hparcels, hat]; exact h.slots k
  · rw [hparcels]; exact h.slotsOnce
  · rw [hswept, hcomps, hresumed]; exact h.swept k n
  · rw [hresumed]; exact h.marked n
  · rw [hclose]; exact h.heldOpen n

theorem sound_foldl {α : Type} {f : State → α → State} (hf : ∀ {s} x, Sound v s → Sound v (f s x)) (l : List α)
    (h : Sound v s) : Sound v (l.foldl f s) := by
  induction l generalizing s with
  | nil => exact h
  | cons x l ih => exact ih (hf x h)

theorem sound_ite {p : Prop} [Decidable p] (h : Sound v s) (g : Sound v t) : Sound v (if p then s else t) := by
  split <;> assumption

/-! ### Notices, counters, replies and contexts take no part -/

theorem sound_raiseMarked (b : NoticeBody) (drill sensor : Bool) (h : Sound v s) : Sound v (raiseMarked b drill sensor s) :=
  sound_of_parts h rfl
theorem sound_raise (b : NoticeBody) (h : Sound v s) : Sound v (raise b s) := sound_of_parts h rfl
theorem sound_count (c : Counter) (h : Sound v s) : Sound v (count c s) := sound_of_parts h rfl
theorem sound_setReopen (l : List ReopenEntry) (h : Sound v s) : Sound v (setReopen l s) := sound_of_parts h rfl
theorem sound_setContext (t : Term) (c : QuoteContext) (h : Sound v s) : Sound v (setContext t c s) := sound_of_parts h rfl
theorem sound_modTerm (t : Term) (f : TermContext → TermContext) (h : Sound v s) : Sound v (modTerm t f s) :=
  sound_of_parts h rfl
theorem sound_setMarker (t : Term) (m : Option DepositMarker) (h : Sound v s) : Sound v (setMarker t m s) :=
  sound_of_parts h rfl
theorem sound_setCharge (q : List QueuedCharge) (r : Option Snapshot) (h : Sound v s) : Sound v (setCharge q r s) :=
  sound_of_parts h rfl
theorem sound_releasePlace (h : Sound v s) : Sound v (releasePlace s) := sound_of_parts h rfl

/-- Blocks that differ in link, arbiter and bus alone agree alike. -/
theorem sound_sameBut (h : Sound v s) (e : SameBut s t) : Sound v t := by
  rw [e]
  exact sound_of_parts h rfl

theorem sound_placeReply (r : Reply) (h : Sound v s) : Sound v (placeReply r s) := sound_sameBut h (placeReply_sameBut r s)
theorem sound_answer (hd : Header) (l : List Byte) (h : Sound v s) : Sound v (answer hd l s) := sound_placeReply _ h
theorem sound_refuse (hd : Header) (c : ReplyCode) (h : Sound v s) : Sound v (refuse hd c s) := sound_placeReply _ h
theorem sound_requestGrant (n : CompNo) (c : GrantClass) (h : Sound v s) : Sound v (requestGrant n c s) :=
  sound_sameBut h (requestGrant_sameBut n c s)
theorem sound_lookOver (h : Sound v s) : Sound v (lookOver s) := sound_sameBut h (lookOver_sameBut s)
theorem sound_enqueueOp (op : Op) (h : Sound v s) : Sound v (enqueueOp op s) := sound_sameBut h (enqueueOp_sameBut op s)

/-! ### Compartment entries -/

/-- An entry agrees whatever its check byte. -/
theorem EntryAgrees.sealed {c : Compartment} (h : EntryAgrees v s n c) : EntryAgrees v s n (sealCompartment n c) :=
  ⟨h.listed, h.joined, h.unlinked, h.pending, h.phase, h.held, h.resumed, h.loop⟩

/-- An entry is written with its link as it was, and the maintenance-loop slot with it. -/
theorem sound_writeEntry (h : Sound v s) {f : Compartment → Compartment} {slot : Option MaintSlot}
    (hlink : (f s.comps[n]).link = s.comps[n].link) (hn : EntryAgrees v { s with maintSlot := slot } n (f s.comps[n]))
    (hothers : ∀ m, m ≠ n → (s.comps[m].state = .maint ↔ ∃ l, slot = some l ∧ l.comp = m)) :
    Sound v { modComp n f s with maintSlot := slot } := by
  have hat : ∀ m : CompNo, (modComp n f s).comps[m] = if n = m then sealCompartment n (f s.comps[n]) else s.comps[m] :=
    fun m => modComp_at n m f s
  have hlinks : ∀ m : CompNo, (modComp n f s).comps[m].link = s.comps[m].link := fun m => by
    rw [hat]
    split
    · next e => subst e; exact hlink
    · rfl
  refine ⟨?_, fun m => ?_, h.once, fun m k => ?_, h.advised, h.slots, h.slotsOnce, fun k m => ?_, h.marked, h.heldOpen⟩
  · obtain ⟨hc, hp, hw⟩ := h.good
    exact ⟨fun m => compGood_setComp (hc m), hp, hw⟩
  · show EntryAgrees v _ m (modComp n f s).comps[m]
    rw [hat]
    split
    · next e => subst e; exact ⟨hn.listed, hn.joined, hn.unlinked, hn.pending, hn.phase, hn.held, hn.resumed, hn.loop⟩
    · next e => exact ⟨(h.entry m).listed, (h.entry m).joined, (h.entry m).unlinked, (h.entry m).pending, (h.entry m).phase,
        (h.entry m).held, (h.entry m).resumed, hothers m (Ne.symm e)⟩
  · show (modComp n f s).comps[m].link = _ ↔ _
    rw [hlinks]
    exact h.linked m k
  · show _ → (modComp n f s).comps[m].link = _ → _
    rw [hlinks]
    exact h.swept k m

/-- An entry is written with its link as it was. -/
theorem sound_modComp (h : Sound v s) {f : Compartment → Compartment} (hlink : (f s.comps[n]).link = s.comps[n].link)
    (hn : EntryAgrees v s n (f s.comps[n])) : Sound v (modComp n f s) :=
  sound_writeEntry (slot := s.maintSlot) h hlink hn fun m _ => (h.entry m).loop

/-! ### Free lists -/

theorem mem_leaveFree {cls : SizeClass} : m ∈ listOf cls (leaveFree n s).freeLists ↔ m ∈ listOf cls s.freeLists ∧ m ≠ n := by
  cases cls <;> simp [leaveFree, listOf]

theorem sound_leaveFree (n : CompNo) (h : Sound v s) : Sound (v.withLate n) (leaveFree n s) := by
  have hsub : ∀ cls, (listOf cls (leaveFree n s).freeLists).Sublist (listOf cls s.freeLists) := fun cls => by
    cases cls <;> exact List.filter_sublist
  refine ⟨h.good, fun m => ?_, fun cls => (h.once cls).sublist (hsub cls), h.linked, h.advised, h.slots, h.slotsOnce,
    h.swept, h.marked, h.heldOpen⟩
  have hm := h.entry m
  refine ⟨fun cls hmem => hm.listed cls (mem_leaveFree.mp hmem).1, fun hstate hdoor hbar => ?_, hm.unlinked, hm.pending,
    hm.phase, hm.held, hm.resumed, hm.loop⟩
  rw [mem_leaveFree]
  by_cases e : m = n
  · exact .inl (.inr e)
  · exact (hm.joined hstate hdoor hbar).imp .inl fun hmem => ⟨hmem, e⟩

/-- Out of every list. -/
theorem not_mem_leaveFree (n : CompNo) (s : State) (cls : SizeClass) : n ∉ listOf cls (leaveFree n s).freeLists :=
  fun h => (mem_leaveFree.mp h).2 rfl

theorem listOf_setList (cls d : SizeClass) (l : List CompNo) (x : FreeLists) :
    listOf d (setList cls l x) = if cls = d then l else listOf d x := by
  cases cls <;> cases d <;> rfl

/-- The compartment that may have to join its list has joined it, or is not to be listed. -/
theorem sound_joinFree (h : Sound (v.withLate n) s) : Sound v (joinFree n s) := by
  unfold joinFree
  dsimp only
  split
  · next hjoins =>
    obtain ⟨hstate, hdoor, hbar, habsent⟩ := hjoins
    have hmem : ∀ (m : CompNo) cls, m ∈ listOf cls (setList s.comps[n].cls (listOf s.comps[n].cls s.freeLists ++ [n]) s.freeLists) ↔
        m ∈ listOf cls s.freeLists ∨ (m = n ∧ s.comps[n].cls = cls) := fun m cls => by
      rw [listOf_setList]
      split
      · next e => subst e; simp
      · next e => exact ⟨.inl, fun hin => hin.resolve_right fun hn => e hn.2⟩
    refine ⟨h.good, fun m => ?_, fun cls => ?_, h.linked, h.advised, h.slots, h.slotsOnce, h.swept, h.marked, h.heldOpen⟩
    · have hm := h.entry m
      refine ⟨fun cls hin => ?_, fun a b c => ?_, hm.unlinked, hm.pending, hm.phase, hm.held, hm.resumed, hm.loop⟩
      · rcases (hmem m cls).mp hin with hin | ⟨rfl, rfl⟩
        · exact hm.listed cls hin
        · exact ⟨rfl, hstate, hdoor, hbar⟩
      · rw [hmem]
        rcases hm.joined a b c with (hlate | rfl) | hin
        · exact .inl hlate
        · exact .inr (.inr ⟨rfl, rfl⟩)
        · exact .inr (.inl hin)
    · show (listOf cls (setList _ _ _)).Nodup
      rw [listOf_setList]
      split
      · exact List.nodup_append.mpr ⟨h.once _, List.nodup_singleton n, fun a ha b hb e =>
          habsent (by rw [List.mem_singleton] at hb; subst hb; exact e ▸ ha)⟩
      · exact h.once cls
  · next hstays =>
    refine { h with entry := fun m => { h.entry m with joined := fun a b c => ?_ } }
    rcases (h.entry m).joined a b c with (hlate | rfl) | hin
    · exact .inl hlate
    · exact .inr (by_contra fun habsent => hstays ⟨a, b, c, habsent⟩)
    · exact .inr hin

/-! ### Door records and resumed marks -/

/-- A door record is written: a close it holds afterwards is one of a job in phase OPEN. -/
theorem sound_modDoor (h : Sound v s) {f : DoorRecord → DoorRecord}
    (hclose : (f s.doors.records[n]).heldClose ≠ none → isJob s.comps[n].state = true ∧ s.comps[n].phase = .opened)
    (hheld : v.held n → (f s.doors.records[n]).heldClose ≠ none) : Sound v (modDoor n f s) := by
  have hat := fun j => modDoor_at n j f s
  refine ⟨h.good, fun m => ?_, h.once, h.linked, h.advised, h.slots, h.slotsOnce, h.swept, h.marked, fun m hm => ?_⟩
  · have hm := h.entry m
    refine ⟨hm.listed, hm.joined, hm.unlinked, hm.pending, hm.phase, ?_, hm.resumed, hm.loop⟩
    rw [hat]
    split
    · next e =>
      subst e
      split
      · exact hclose
      · exact fun hcold => absurd rfl hcold
    · exact hm.held
  · rw [hat]
    split
    · next e =>
      subst e
      have hjob := hclose (hheld hm)
      rw [if_pos ((isFitted_iff n s).mpr fun hstate => by rw [hstate] at hjob; cases hjob.1)]
      exact hheld hm
    · exact h.heldOpen m hm

/-- A door record is written with the close it holds. -/
theorem sound_modDoor_same (h : Sound v s) {f : DoorRecord → DoorRecord} (hf : ∀ d, (f d).heldClose = d.heldClose) :
    Sound v (modDoor n f s) :=
  sound_modDoor h (by rw [hf]; exact (h.entry n).held) (by rw [hf]; exact h.heldOpen n)

/-- A door record is written without a held close. -/
theorem sound_modDoor_none (h : Sound v s) (hv : ¬ v.held n) {f : DoorRecord → DoorRecord} (hf : ∀ d, (f d).heldClose = none) :
    Sound v (modDoor n f s) :=
  sound_modDoor h (fun hc => absurd (hf _) hc) (fun hn => absurd hn hv)

theorem setResumed_at (n m : CompNo) (b : Bool) (s : State) :
    (setResumed n b s).deposit.resumed[m] = if n = m then b else s.deposit.resumed[m] := by
  show (s.deposit.resumed.set n.val b n.isLt)[m.val] = _
  rw [Vector.getElem_set]
  simp only [Fin.ext_iff]; rfl

/-- A resumed mark is cleared. -/
theorem sound_setResumed_false (h : Sound v s) (hv : ¬ v.marked n) : Sound v (setResumed n false s) := by
  have hat := fun j => setResumed_at n j false s
  refine ⟨h.good, fun m => ?_, h.once, h.linked, h.advised, h.slots, h.slotsOnce, fun k m hk hl => ?_, fun m hm => ?_, h.heldOpen⟩
  · have hm := h.entry m
    refine ⟨hm.listed, hm.joined, hm.unlinked, hm.pending, hm.phase, hm.held, ?_, hm.loop⟩
    rw [hat]
    split
    · exact fun hf => nomatch hf
    · exact hm.resumed
  · rw [hat]
    split
    · rfl
    · exact h.swept k m hk hl
  · rw [hat, if_neg fun e : n = m => hv (by rw [e]; exact hm)]
    exact h.marked m hm

/-- A compartment under a job is marked resumed, with no sweep under way. -/
theorem sound_setResumed_true (h : Sound v s) (hjob : isJob s.comps[n].state = true) (hswept : sweptRecord s = none) :
    Sound v (setResumed n true s) := by
  have hat := fun j => setResumed_at n j true s
  refine ⟨h.good, fun m => ?_, h.once, h.linked, h.advised, h.slots, h.slotsOnce, fun k m hk hl => ?_, fun m hm => ?_, h.heldOpen⟩
  · have hm := h.entry m
    refine ⟨hm.listed, hm.joined, hm.unlinked, hm.pending, hm.phase, hm.held, ?_, hm.loop⟩
    rw [hat]
    split
    · next e => subst e; exact fun _ => hjob
    · exact hm.resumed
  · exact nomatch hswept.symm.trans hk
  · rw [hat]
    split
    · rfl
    · exact h.marked m hm

theorem sound_stopJobTimers (h : Sound v s) (hv : v.spares n) : Sound v (stopJobTimers n s) :=
  sound_setResumed_false (sound_modDoor_none h hv.2 fun _ => rfl) hv.1

/-! ### Records -/

theorem compGood_of_comps (h : t.comps = s.comps) (n : CompNo) : compGood n t = compGood n s := by rw [compGood, compGood, h]

theorem wayGood_of_ways (h : t.creds.ways = s.creds.ways) (w : Way) : wayGood w t = wayGood w s := by rw [wayGood, wayGood, h]

/-- A record's write leaves entries in agreement with their check bytes. -/
theorem tablesGood_setParcel (h : TablesGood s) (k : Slot) (p : Parcel) : TablesGood (setParcel k p s) := by
  obtain ⟨hc, hp, hw⟩ := h
  exact ⟨fun m => (compGood_of_comps rfl m).trans (hc m), fun j => parcelGood_setParcel (hp j),
    fun w => (wayGood_of_ways rfl w).trans (hw w)⟩

/-- A record is written in its compartment. -/
theorem sound_setParcel (h : Sound v s) (hat : parcelAt k s = some p) {q : Parcel} (hcomp : q.comp = p.comp)
    (hadvised : q.state = .advised → p.comp = none) : Sound v (setParcel k q s) := by
  have hq := fun j => setParcel_at k j q s
  have hsame : ∀ (j : Slot) (n : CompNo), (∃ p, parcelAt j (setParcel k q s) = some p ∧ p.comp = some n) ↔
      ∃ p, parcelAt j s = some p ∧ p.comp = some n := fun j n => by
    rw [hq]
    split
    · next e =>
      subst e
      rw [hat]
      simp only [Option.some.injEq, exists_eq_left', sealParcel, hcomp]
    · rfl
  refine ⟨?_, fun m => ⟨(h.entry m).listed, (h.entry m).joined, (h.entry m).unlinked, (h.entry m).pending,
    (h.entry m).phase, (h.entry m).held, (h.entry m).resumed, (h.entry m).loop⟩, h.once,
    fun n j => (h.linked n j).trans (hsame j n).symm, fun j r hr => ?_, fun j => ?_, h.slotsOnce, h.swept, h.marked,
    h.heldOpen⟩
  · exact tablesGood_setParcel h.good k q
  · rw [hq] at hr
    split at hr
    · cases hr
      dsimp only [sealParcel]
      exact fun hstate => hcomp.trans (hadvised hstate)
    · exact h.advised j r hr
  · rw [hq]
    show j ∈ s.parcels.free ↔ _
    rw [h.slots]
    split
    · next e => subst e; rw [hat]; exact ⟨fun h => (nomatch h), fun h => (nomatch h)⟩
    · rfl

theorem sound_modParcel (h : Sound v s) {f : Parcel → Parcel} (hcomp : ∀ p, (f p).comp = p.comp)
    (hadvised : ∀ p, (f p).state ≠ .advised) : Sound v (modParcel k f s) := by
  unfold modParcel
  split
  · next hat => exact sound_setParcel h hat (hcomp _) fun hstate => absurd hstate (hadvised _)
  · exact h

/-- A record is changed in its compartment and its state. -/
theorem sound_modParcel_same (h : Sound v s) {f : Parcel → Parcel} (hcomp : ∀ p, (f p).comp = p.comp)
    (hstate : ∀ p, (f p).state = p.state) : Sound v (modParcel k f s) := by
  unfold modParcel
  split
  · next p hat => exact sound_setParcel h hat (hcomp p) fun e => h.advised k p hat ((hstate p).symm.trans e)
  · exact h

/-- The record that no compartment names stands in no compartment. -/
theorem Sound.comp_none (h : Sound v s) (hno : ∀ m : CompNo, s.comps[m].link ≠ some k) (hat : parcelAt k s = some p) :
    p.comp = none := by
  cases hcomp : p.comp with
  | none => rfl
  | some m => exact absurd ((h.linked m k).mpr ⟨p, hat, hcomp⟩) (hno m)

/-- A record that no compartment names is written ADVISED or otherwise, without compartment. -/
theorem sound_modParcel_out (h : Sound v s) {f : Parcel → Parcel} (hno : ∀ m : CompNo, s.comps[m].link ≠ some k)
    (hcomp : ∀ p, (f p).comp = none) : Sound v (modParcel k f s) := by
  unfold modParcel
  split
  · next hat =>
    have hout := h.comp_none hno hat
    exact sound_setParcel h hat ((hcomp _).trans hout.symm) fun _ => hout
  · exact h

/-! ### Links -/

/-- The record a compartment names. -/
theorem Sound.record_of_link (h : Sound v s) (hlink : s.comps[n].link = some k) :
    ∃ p, parcelAt k s = some p ∧ p.comp = some n := (h.linked n k).mp hlink

/-- Two compartments name no record in common. -/
theorem Sound.link_inj (h : Sound v s) (hn : s.comps[n].link = some k) (hm : s.comps[m].link = some k) : n = m := by
  obtain ⟨p, hp, hpn⟩ := h.record_of_link hn
  obtain ⟨q, hq, hqm⟩ := h.record_of_link hm
  cases hp.symm.trans hq
  exact Option.some.inj (hpn.symm.trans hqm)

/-- The link of a compartment is removed on both sides (R7, R43). -/
theorem sound_unlink (n : CompNo) (h : Sound v s) : Sound v (unlink n s) := by
  cases hlink : s.comps[n].link with
  | none =>
    unfold unlink
    rw [hlink]
    dsimp only
    have hn := h.entry n
    exact sound_modComp h hlink.symm ⟨hn.listed, hn.joined, fun _ => rfl, hn.pending, hn.phase, hn.held, hn.resumed, hn.loop⟩
  | some k =>
    obtain ⟨p, hat, hcomp⟩ := h.record_of_link hlink
    rw [unlink_linked hlink hat hcomp]
    have hq := fun j => setParcel_at k j { p with comp := none } s
    have hc : ∀ m : CompNo, (modComp n (fun c => { c with link := none }) (setParcel k { p with comp := none } s)).comps[m] =
        if n = m then sealCompartment n { s.comps[n] with link := none } else s.comps[m] := fun m => modComp_at n m _ _
    refine ⟨?_, fun m => ?_, h.once, fun m j => ?_, fun j r hr => ?_, fun j => ?_, h.slotsOnce, fun j m hj hl => ?_, h.marked,
      h.heldOpen⟩
    · obtain ⟨hgc, hp, hw⟩ := h.good
      exact ⟨fun m => compGood_setComp (hgc m), fun j => parcelGood_setParcel (hp j), hw⟩
    · have hm := h.entry m
      rw [hc]
      split
      · next e => subst e; exact ⟨hm.listed, hm.joined, fun _ => rfl, hm.pending, hm.phase, hm.held, hm.resumed, hm.loop⟩
      · exact ⟨hm.listed, hm.joined, hm.unlinked, hm.pending, hm.phase, hm.held, hm.resumed, hm.loop⟩
    · rw [hc]
      show _ ↔ ∃ q, parcelAt j (setParcel k { p with comp := none } s) = some q ∧ q.comp = some m
      rw [hq]
      by_cases hm : n = m
      · subst hm
        rw [if_pos rfl]
        refine ⟨fun hl => (nomatch hl), fun ⟨q, hq, hqn⟩ => ?_⟩
        split at hq
        · cases hq; cases hqn
        · next hk =>
          exact absurd (Option.some.inj (((h.linked n j).mpr ⟨q, hq, hqn⟩).symm.trans hlink)).symm hk
      · rw [if_neg hm, h.linked]
        by_cases hk : k = j
        · subst hk
          rw [if_pos rfl, hat]
          refine ⟨fun ⟨q, hq, hqm⟩ => ?_, fun ⟨q, hq, hqm⟩ => ?_⟩
          · cases hq
            exact absurd (Option.some.inj (hcomp.symm.trans hqm)) hm
          · cases hq; cases hqm
        · rw [if_neg hk]
    · replace hr : parcelAt j (setParcel k { p with comp := none } s) = some r := hr
      rw [hq] at hr
      split at hr
      · cases hr; exact fun _ => rfl
      · exact h.advised j r hr
    · show j ∈ s.parcels.free ↔ parcelAt j (setParcel k { p with comp := none } s) = none
      rw [hq, h.slots]
      split
      · next e => subst e; rw [hat]; exact ⟨fun h => (nomatch h), fun h => (nomatch h)⟩
      · rfl
    · rw [hc] at hl
      split at hl
      · cases hl
      · exact h.swept j m hj hl

/-- The links of a state from which a compartment's is removed. -/
theorem unlink_link (n m : CompNo) (s : State) :
    (unlink n s).comps[m].link = if n = m then none else s.comps[m].link := by
  have hmod : ∀ y : State, y.comps = s.comps →
      (modComp n (fun c => { c with link := none }) y).comps[m].link = if n = m then none else s.comps[m].link := by
    intro y hy
    rw [modComp_at]
    split
    · rfl
    · rw [hy]
  unfold unlink
  cases s.comps[n].link with
  | none => exact hmod s rfl
  | some k => exact hmod _ (modParcel_comps k _ s)

end Sys2Proof.Machine

/-! PROOFS. What the compartment manager's steps and the ends of a terminal's job keep of the agreement (1.5, 1.6, 2.5,
3.1, 6.2, 6.5). -/

namespace Sys2Proof.Machine

variable {s t x : State} {v : Awaited} {n m : CompNo} {k j : Slot} {p : Parcel} {c d : Compartment}

/-! ### Entries out of every list -/

/-- A compartment that is not to be listed is in no list. -/
theorem EntryAgrees.not_listed (h : EntryAgrees v s n c) (hn : c.state ≠ .vacant) (cls : SizeClass) :
    n ∉ listOf cls s.freeLists := fun hin => hn (h.listed cls hin).2.1

/-- An entry changed out of every list, neither into MAINT nor out of it. -/
theorem EntryAgrees.changed (h : EntryAgrees v s n c) (hout : ∀ cls, n ∉ listOf cls s.freeLists)
    (hlate : d.state = .vacant → v.late n) (hlink : d.state = .unfitted ∨ d.state = .vacant ∨ d.state = .maint → d.link = none)
    (hpending : d.pendingBar = true → d.state ≠ .unfitted ∧ d.state ≠ .vacant ∧ d.state ≠ .barred)
    (hphase : d.phase ≠ .none → isJob d.state = true ∨ d.state = .maint)
    (hheld : s.doors.records[n].heldClose ≠ none → isJob d.state = true ∧ d.phase = .opened)
    (hresumed : s.deposit.resumed[n] = true → isJob d.state = true) (hmaint : d.state = .maint ↔ c.state = .maint) :
    EntryAgrees v s n d :=
  ⟨fun cls hin => absurd hin (hout cls), fun hstate _ _ => .inl (hlate hstate), hlink, hpending, hphase, hheld, hresumed,
    hmaint.trans h.loop⟩

theorem stopJobTimers_held (n : CompNo) (s : State) : (stopJobTimers n s).doors.records[n].heldClose = none := by
  show (modDoor n (fun d => { d with confirm := none, openLimit := none, heldClose := none }) s).doors.records[n].heldClose = none
  rw [modDoor_at, if_pos rfl]
  split <;> rfl

theorem stopJobTimers_resumed (n : CompNo) (s : State) : (stopJobTimers n s).deposit.resumed[n] = false := by
  rw [stopJobTimers, setResumed_at, if_pos rfl]

/-- An entry whose job timers are stopped, changed out of every list into a state of no job. -/
theorem EntryAgrees.settled (h : EntryAgrees v (stopJobTimers n s) n c) (hout : ∀ cls, n ∉ listOf cls s.freeLists)
    (hlate : d.state = .vacant → v.late n) (hlink : d.state = .unfitted ∨ d.state = .vacant ∨ d.state = .maint → d.link = none)
    (hpending : d.pendingBar = true → d.state ≠ .unfitted ∧ d.state ≠ .vacant ∧ d.state ≠ .barred)
    (hphase : d.phase = .none) (hmaint : d.state = .maint ↔ c.state = .maint) : EntryAgrees v (stopJobTimers n s) n d :=
  h.changed hout hlate hlink hpending (fun hp => absurd hphase hp) (fun hh => absurd (stopJobTimers_held n s) hh)
    (fun hr => nomatch (stopJobTimers_resumed n s).symm.trans hr) hmaint

theorem isJob_facts {st : CompState} (h : isJob st = true) :
    st ≠ .vacant ∧ st ≠ .unfitted ∧ st ≠ .maint ∧ st ≠ .barred ∧ st ≠ .loaded := by
  cases st <;> simp_all [isJob]

/-! ### The compartment manager's steps (R10 to R13, R15) -/

theorem sound_withdraw (n : CompNo) (h : Sound v s) : Sound v (withdraw n s) := sound_of_parts h rfl

theorem sound_fill (b : Bool) (h : Sound v s) (hv : v.spares n) : Sound v (fill n b s) := by
  cases hjob : isJob s.comps[n].state with
  | false =>
    have hidle : fill n b s = s := by
      unfold fill
      cases hstate : s.comps[n].state with
      | held | loading | releasing | sweeping => rw [hstate] at hjob; cases hjob
      | _ => rfl
    rw [hidle]
    exact h
  | true =>
    obtain ⟨hvacant, hfitted, hmaint, hbarred, -⟩ := isJob_facts hjob
    rw [fill_job hjob, filledComp, stopJobTimers_modComp
      (by rw [isFitted_modComp]; exact (bne_iff_ne.mpr hfitted).symm)]
    refine sound_modComp (sound_stopJobTimers h hv) rfl ?_
    exact ((sound_stopJobTimers h hv).entry n).settled (fun cls => (h.entry n).not_listed hvacant cls) (fun e => nomatch e)
      (fun e => by simp at e) (fun _ => by simp) rfl ⟨fun e => (nomatch e), fun e => absurd e hmaint⟩

/-- The compartment is freed from its record, or holds none (R13). -/
theorem unlink_state (n m : CompNo) (s : State) :
    (unlink n s).comps[m] = if n = m then sealCompartment n { s.comps[n] with link := none } else s.comps[m] := by
  have hmod : ∀ y : State, y.comps = s.comps → (modComp n (fun c => { c with link := none }) y).comps[m] =
      if n = m then sealCompartment n { s.comps[n] with link := none } else s.comps[m] := by
    intro y hy
    rw [modComp_at, hy]
  unfold unlink
  cases s.comps[n].link with
  | none => exact hmod s rfl
  | some k => exact hmod _ (modParcel_comps k _ s)

theorem unlink_freeLists (n : CompNo) (s : State) : (unlink n s).freeLists = s.freeLists := by
  unfold unlink
  dsimp only
  split
  · show (modParcel _ _ s).freeLists = _
    unfold modParcel
    split <;> rfl
  · rfl

/-- A compartment that is free, or freed while VACANT or in use, agrees (R13). -/
theorem sound_free (h : Sound v s) (hv : v.spares n) : Sound v (free n s) := by
  by_cases hidle : s.comps[n].state = .unfitted ∨ s.comps[n].state = .vacant ∨ s.comps[n].state = .maint
  · rw [free_of_idle hidle]
    exact h
  by_cases hbarred : s.comps[n].state = .barred
  · rw [free_of_barred hbarred]
    exact sound_withdraw n (sound_unlink n h)
  have huse : s.comps[n].state = .loaded ∨ isJob s.comps[n].state = true := by
    cases hstate : s.comps[n].state <;> simp_all [isJob]
  have hnot : s.comps[n].state ≠ .vacant := fun e => hidle (.inr (.inl e))
  have hentry : ∀ y : State, y.comps = (unlink n s).comps → y.comps[n] = sealCompartment n { s.comps[n] with link := none } :=
    fun y hy => by rw [hy, unlink_state, if_pos rfl]
  rw [free_of_use huse]
  refine sound_joinFree ?_
  have hstopped : Sound (v.withLate n) (stopJobTimers n (withdraw n (unlink n s))) :=
    (sound_stopJobTimers (sound_withdraw n (sound_unlink n h)) hv).withLate n
  have hn := hstopped.entry n
  have hat := hentry (stopJobTimers n (withdraw n (unlink n s))) rfl
  refine sound_modComp hstopped ?_ ?_
  · rw [freed]
    split <;> rfl
  · rw [hat] at hn ⊢
    refine hn.settled (fun cls => ?_) (fun _ => .inr rfl) (fun _ => ?_) (fun hp => ?_) ?_ ?_
    · show n ∉ listOf cls (unlink n s).freeLists
      rw [unlink_freeLists]
      exact (h.entry n).not_listed hnot cls
    · unfold freed; split <;> rfl
    · unfold freed at hp
      split at hp
      · cases hp
      · next hbar => exact absurd hp hbar
    · unfold freed; split <;> rfl
    · refine ⟨fun e => ?_, fun e => absurd (.inr (.inr e)) hidle⟩
      unfold freed at e
      split at e <;> cases e

/-- What is freed names no record, and the others what they named. -/
theorem free_link (h : Sound v s) (hlink : s.comps[n].link = some k) (m : CompNo) :
    (free n s).comps[m].link = if n = m then none else s.comps[m].link := by
  have hidle : ¬ (s.comps[n].state = .unfitted ∨ s.comps[n].state = .vacant ∨ s.comps[n].state = .maint) := fun e =>
    nomatch ((h.entry n).unlinked e).symm.trans hlink
  by_cases hbarred : s.comps[n].state = .barred
  · rw [free_of_barred hbarred]
    exact unlink_link n m s
  have huse : s.comps[n].state = .loaded ∨ isJob s.comps[n].state = true := by
    cases hstate : s.comps[n].state <;> simp_all [isJob]
  have hjoin : ∀ y : State, (joinFree n y).comps = y.comps := fun y => by
    unfold joinFree
    dsimp only
    split <;> rfl
  rw [free_of_use huse, hjoin, modComp_at]
  have hat : (stopJobTimers n (withdraw n (unlink n s))).comps = (unlink n s).comps := rfl
  rw [hat, unlink_state, unlink_state, if_pos rfl]
  split
  · unfold freed
    split <;> rfl
  · rfl

/-- No compartment names the record of a compartment that was freed. -/
theorem free_names_none (h : Sound v s) (hlink : s.comps[n].link = some k) (m : CompNo) :
    (free n s).comps[m].link ≠ some k := by
  rw [free_link h hlink]
  split
  · exact fun e => nomatch e
  · next hne => exact fun hm => hne (h.link_inj hlink hm)

theorem sound_barWithoutReport (cause : BarCause) (h : Sound v s) (hv : v.spares n) : Sound v (barWithoutReport n cause s) := by
  unfold barWithoutReport
  dsimp only
  split
  · exact h
  next hfitted =>
  have hstopped : Sound (v.withLate n) (stopJobTimers n (withdraw n (leaveFree n s))) :=
    sound_stopJobTimers (sound_withdraw n (sound_leaveFree n h)) hv
  have hn := hstopped.entry n
  split
  · next hmaint =>
    refine Sound.notLate (sound_writeEntry (slot := none) hstopped rfl ?_ fun m hm => ?_) ?_
    · exact ⟨fun cls hin => absurd hin (not_mem_leaveFree n s cls), fun e => (nomatch e), fun e => by simp at e,
        fun e => (nomatch e), fun e => absurd rfl e, fun e => absurd (stopJobTimers_held n _) e,
        fun e => (nomatch (stopJobTimers_resumed n (withdraw n (leaveFree n s))).symm.trans e),
        ⟨fun e => (nomatch e), fun ⟨l, hl, _⟩ => nomatch hl⟩⟩
    · refine ⟨fun hstate => ?_, fun ⟨l, hl, _⟩ => nomatch hl⟩
      obtain ⟨l, hl, hlm⟩ := (h.entry m).loop.mp hstate
      obtain ⟨l', hl', hln⟩ := (h.entry n).loop.mp hmaint
      cases hl.symm.trans hl'
      exact absurd (hlm.symm.trans hln) hm
    · intro e
      have hstate := e.1
      dsimp only at hstate
      rw [modComp_state] at hstate
      cases hstate
  · next hmaint =>
    refine Sound.notLate (sound_modComp hstopped rfl ?_) ?_
    · exact hn.settled (not_mem_leaveFree n s) (fun e => (nomatch e)) (fun e => by simp at e) (fun e => (nomatch e)) rfl
        ⟨fun e => (nomatch e), fun e => absurd e hmaint⟩
    · intro e
      have hstate := e.1
      rw [modComp_state] at hstate
      cases hstate

/-- A LOADED compartment is released; refused, nothing changes (R10). -/
theorem sound_release {st : CompState} (hst : isJob st = true) (h : Sound v s) : Sound v (release n k st s) := by
  unfold release
  split
  · next htaken =>
    obtain ⟨hloaded, -⟩ := (releaseTaken_iff n k s).mp htaken
    obtain ⟨hvacant, hfitted, hmaint, hbarred, -⟩ := isJob_facts hst
    refine sound_modComp h rfl ?_
    refine (h.entry n).changed (fun cls => (h.entry n).not_listed (by rw [hloaded]; decide) cls) (fun e => absurd e hvacant)
      (fun e => ?_) (fun _ => ⟨hfitted, hvacant, hbarred⟩) (fun _ => .inl hst) (fun e => ?_) (fun _ => hst) ?_
    · rcases e with e | e | e
      · exact absurd e hfitted
      · exact absurd e hvacant
      · exact absurd e hmaint
    · have hjob := ((h.entry n).held e).1
      rw [hloaded] at hjob
      cases hjob
    · rw [hloaded]
      exact ⟨fun e => absurd e hmaint, fun e => nomatch e⟩
  · exact h

/-- A compartment under a job or in MAINT is in no list. -/
theorem EntryAgrees.not_listed_of_phase (h : EntryAgrees v s n c) (hphase : c.phase ≠ .none) (cls : SizeClass) :
    n ∉ listOf cls s.freeLists := h.not_listed (fun e => by
  have := h.phase hphase
  rw [e] at this
  simp [isJob] at this) cls

/-- A compartment under a job, or in MAINT, stays so. -/
theorem EntryAgrees.rephased (h : EntryAgrees v s n c) (hphase : c.phase ≠ .none)
    (hstate : d.state = c.state ∨ isJob c.state = true ∧ isJob d.state = true) (hlink : d.link = c.link)
    (hheld : s.doors.records[n].heldClose ≠ none → d.phase = .opened) :
    EntryAgrees v s n d := by
  have huse : isJob d.state = true ∨ d.state = .maint := by
    rcases hstate with e | ⟨-, e⟩
    · rw [e]; exact h.phase hphase
    · exact .inl e
  have hvacant : d.state ≠ .vacant ∧ d.state ≠ .unfitted ∧ d.state ≠ .barred := by
    rcases huse with e | e
    · obtain ⟨ha, hb, -, hc, -⟩ := isJob_facts e
      exact ⟨ha, hb, hc⟩
    · rw [e]; decide
  have hjob : isJob c.state = true → isJob d.state = true := fun e => by
    rcases hstate with q | ⟨-, q⟩
    · rw [q]; exact e
    · exact q
  have hmaint : d.state = .maint ↔ c.state = .maint := by
    rcases hstate with e | ⟨e, q⟩
    · rw [e]
    · exact ⟨fun r => absurd r (isJob_facts q).2.2.1, fun r => absurd r (isJob_facts e).2.2.1⟩
  refine h.changed (h.not_listed_of_phase hphase) (fun e => absurd e hvacant.1) (fun e => ?_)
    (fun _ => ⟨hvacant.2.1, hvacant.1, hvacant.2.2⟩) (fun _ => huse) (fun e => ⟨hjob (h.held e).1, hheld e⟩)
    (fun e => hjob (h.resumed e)) hmaint
  rw [hlink]
  rcases e with e | e | e
  · exact absurd e hvacant.2.1
  · exact absurd e hvacant.1
  · exact h.unlinked (.inr (.inr (hmaint.mp e)))

/-- A HELD compartment becomes LOADING, or the state stays (R11). -/
theorem loading_or_same (st : CompState) : (if st = .held then .loading else st) = st ∨
    isJob st = true ∧ isJob (if st = .held then .loading else st) = true := by
  by_cases h : st = .held
  · subst h; exact .inr ⟨rfl, rfl⟩
  · rw [if_neg h]; exact .inl rfl

/-- The opening of a compartment that awaits its grant or its opening (R11, R153). -/
theorem sound_expectedOpening (h : Sound v s) (hphase : s.comps[n].phase ≠ .none) : Sound v (expectedOpening n s) :=
  sound_withdraw n (sound_modDoor_same (sound_modComp h rfl
    ((h.entry n).rephased hphase (loading_or_same _) rfl fun _ => rfl)) fun _ => rfl)

/-- A link is written on both sides, on an entry and a record that had none. -/
theorem sound_writeLink {f : Compartment → Compartment} {q : Parcel} (h : Sound v s) (hat : parcelAt k s = some p)
    (hnone : s.comps[n].link = none) (hcomp : p.comp = none) (hf : (f s.comps[n]).link = some k) (hq : q.comp = some n)
    (hadvised : q.state ≠ .advised) (hresumed : s.deposit.resumed[n] = false) (hn : EntryAgrees v s n (f s.comps[n])) :
    Sound v (setParcel k q (modComp n f s)) := by
  have hc : ∀ m : CompNo, (setParcel k q (modComp n f s)).comps[m] =
      if n = m then sealCompartment n (f s.comps[n]) else s.comps[m] := fun m => modComp_at n m f s
  have hp : ∀ j, parcelAt j (setParcel k q (modComp n f s)) = if k = j then some (sealParcel k q) else parcelAt j s :=
    fun j => setParcel_at k j q _
  refine ⟨?_, fun m => ?_, h.once, fun m j => ?_, fun j r hr => ?_, fun j => ?_, h.slotsOnce, fun j m hj hl => ?_, h.marked,
    h.heldOpen⟩
  · obtain ⟨hgc, hgp, hgw⟩ := h.good
    exact tablesGood_setParcel ⟨fun m => compGood_setComp (hgc m), hgp, hgw⟩ k q
  · rw [hc]
    split
    · next e => subst e; exact ⟨hn.listed, hn.joined, hn.unlinked, hn.pending, hn.phase, hn.held, hn.resumed, hn.loop⟩
    · have hm := h.entry m
      exact ⟨hm.listed, hm.joined, hm.unlinked, hm.pending, hm.phase, hm.held, hm.resumed, hm.loop⟩
  · rw [hc, hp]
    by_cases hm : n = m
    · subst hm
      rw [if_pos rfl]
      refine ⟨fun hl => ?_, fun ⟨r, hr, hrn⟩ => ?_⟩
      · cases Option.some.inj (hf.symm.trans hl)
        exact ⟨_, if_pos rfl, by rw [sealParcel]; exact hq⟩
      · split at hr
        · next e => subst e; exact hf
        · exact nomatch hnone.symm.trans ((h.linked n j).mpr ⟨r, hr, hrn⟩)
    · rw [if_neg hm, h.linked]
      by_cases hk : k = j
      · subst hk
        rw [if_pos rfl, hat]
        refine ⟨fun ⟨r, hr, hrm⟩ => ?_, fun ⟨r, hr, hrm⟩ => ?_⟩
        · cases hr
          exact nomatch hcomp.symm.trans hrm
        · cases hr
          dsimp only [sealParcel] at hrm
          exact absurd (Option.some.inj (hq.symm.trans hrm)) hm
      · rw [if_neg hk]
  · rw [hp] at hr
    split at hr
    · cases hr
      dsimp only [sealParcel]
      exact fun e => absurd e hadvised
    · exact h.advised j r hr
  · show j ∈ s.parcels.free ↔ _
    rw [hp, h.slots]
    split
    · next e => subst e; rw [hat]; exact ⟨fun h => (nomatch h), fun h => (nomatch h)⟩
    · rfl
  · rw [hc] at hl
    split at hl
    · next e => subst e; exact hresumed
    · exact h.swept j m hj hl

/-- A listed compartment is taken for an ADVISED record, linked on both sides (R7, R51). -/
theorem sound_takeCompartment {cls : SizeClass} (h : Sound v s) (hlisted : n ∈ listOf cls s.freeLists) (hat : parcelAt k s = some p)
    (hadvised : p.state = .advised) : Sound v (takeCompartment n k s) := by
  have hn := h.entry n
  obtain ⟨-, hvacant, -, -⟩ := hn.listed cls hlisted
  have hidle : isJob s.comps[n].state = false := by rw [hvacant]; rfl
  have hresumed : s.deposit.resumed[n] = false := by
    by_contra e
    exact nomatch hidle.symm.trans (hn.resumed (by simpa using e))
  have hlive : parcelAt k (modComp n (fun c => { c with state := .held, phase := .awaitGrant, link := some k, attempts := 0 })
      (leaveFree n s)) = some p := hat
  have hentry : EntryAgrees (v.withLate n) (leaveFree n s) n
      { s.comps[n] with state := .held, phase := .awaitGrant, link := some k, attempts := 0 } :=
    ((sound_leaveFree n h).entry n).changed (not_mem_leaveFree n s) (fun e => nomatch e) (fun e => by simp at e)
      (fun _ => by simp) (fun _ => .inl rfl) (fun e => nomatch hidle.symm.trans (hn.held e).1) (fun _ => rfl)
      ⟨fun e => (nomatch e), fun e => nomatch hvacant.symm.trans e⟩
  have htaken := sound_writeLink
    (f := fun c => { c with state := .held, phase := .awaitGrant, link := some k, attempts := 0 })
    (q := { p with state := .depositing, comp := some n }) (sound_leaveFree n h) hat
    (hn.unlinked (.inr (.inl hvacant))) (h.advised k p hat hadvised) rfl rfl (fun e => nomatch e) hresumed hentry
  unfold takeCompartment
  dsimp only
  rw [modParcel_live hlive]
  refine htaken.notLate fun e => ?_
  have hstate := e.1
  rw [setParcel_comps, modComp_state] at hstate
  cases hstate

/-! ### Slots (R44) -/

/-- A record that no compartment names leaves its slot FREE (R44, R45). -/
theorem sound_freeSlot (h : Sound v s) (hlive : parcelAt k s ≠ none) (hno : ∀ m : CompNo, s.comps[m].link ≠ some k) :
    Sound v { s with parcels := { slots := s.parcels.slots.set k.val none k.isLt, free := s.parcels.free ++ [k] } } := by
  have hp : ∀ j, parcelAt j { s with parcels :=
      { slots := s.parcels.slots.set k.val none k.isLt, free := s.parcels.free ++ [k] } } =
      if k = j then none else parcelAt j s := fun j => by
    show (s.parcels.slots.set k.val none k.isLt)[j.val] = _
    rw [Vector.getElem_set]
    simp only [Fin.ext_iff]; rfl
  refine ⟨?_, fun m => ?_, h.once, fun m j => ?_, fun j r hr => ?_, fun j => ?_, ?_, h.swept, h.marked, h.heldOpen⟩
  · obtain ⟨hgc, hgp, hgw⟩ := h.good
    refine ⟨hgc, fun j => ?_, hgw⟩
    rw [parcelGood, hp]
    by_cases e : k = j
    · rw [if_pos e]
    · rw [if_neg e]; exact hgp j
  · have hm := h.entry m
    exact ⟨hm.listed, hm.joined, hm.unlinked, hm.pending, hm.phase, hm.held, hm.resumed, hm.loop⟩
  · rw [hp]
    split
    · next e => subst e; exact ⟨fun hl => absurd hl (hno m), fun ⟨r, hr, _⟩ => nomatch hr⟩
    · exact h.linked m j
  · rw [hp] at hr
    split at hr
    · cases hr
    · exact h.advised j r hr
  · rw [hp, List.mem_append, List.mem_singleton, h.slots]
    split
    · next e => subst e; exact ⟨fun _ => rfl, fun _ => .inr rfl⟩
    · next e => exact ⟨fun hj => hj.resolve_right (Ne.symm e), .inl⟩
  · exact List.nodup_append.mpr ⟨h.slotsOnce, List.nodup_singleton k, fun a ha b hb e => by
      rw [List.mem_singleton] at hb
      subst hb
      subst e
      exact hlive ((h.slots a).mp ha)⟩

/-- The head free slot takes an ADVISED record (R44, R46). -/
theorem sound_writeRecord {rest : List Slot} (h : Sound v s) (hfree : s.parcels.free = k :: rest) (hcomp : p.comp = none) :
    Sound v (setParcel k p { s with parcels := { s.parcels with free := rest } }) := by
  have hp : ∀ j, parcelAt j (setParcel k p { s with parcels := { s.parcels with free := rest } }) =
      if k = j then some (sealParcel k p) else parcelAt j s := fun j => setParcel_at k j p _
  have hk : parcelAt k s = none := (h.slots k).mp (by rw [hfree]; exact List.mem_cons_self ..)
  have honce := h.slotsOnce
  rw [hfree] at honce
  obtain ⟨hnot, honce⟩ := List.nodup_cons.mp honce
  refine ⟨?_, fun m => ?_, h.once, fun m j => ?_, fun j r hr => ?_, fun j => ?_, honce, h.swept, h.marked, h.heldOpen⟩
  · exact tablesGood_setParcel (s := { s with parcels := { s.parcels with free := rest } }) h.good k p
  · have hm := h.entry m
    exact ⟨hm.listed, hm.joined, hm.unlinked, hm.pending, hm.phase, hm.held, hm.resumed, hm.loop⟩
  · rw [hp]
    show s.comps[m].link = _ ↔ _
    rw [h.linked]
    split
    · next e =>
      subst e
      rw [hk]
      refine ⟨fun ⟨r, hr, _⟩ => (nomatch hr), fun ⟨r, hr, hrm⟩ => ?_⟩
      cases hr
      dsimp only [sealParcel] at hrm
      exact nomatch hcomp.symm.trans hrm
    · rfl
  · rw [hp] at hr
    split at hr
    · cases hr
      dsimp only [sealParcel]
      exact fun _ => hcomp
    · exact h.advised j r hr
  · rw [hp]
    show j ∈ rest ↔ _
    split
    · next e => subst e; exact ⟨fun hj => absurd hj hnot, fun e => nomatch e⟩
    · next e =>
      rw [← h.slots, hfree, List.mem_cons]
      exact ⟨.inr, fun hj => hj.resolve_left (Ne.symm e)⟩

/-! ### Credential ways -/

theorem sound_setWay (w : Way) (c : Credential) (h : Sound v s) : Sound v (setWay w c s) := by
  obtain ⟨hc, hp, hw⟩ := h.good
  exact ⟨⟨hc, hp, fun u => wayGood_setWay (hw u)⟩, fun m => ⟨(h.entry m).listed, (h.entry m).joined, (h.entry m).unlinked,
    (h.entry m).pending, (h.entry m).phase, (h.entry m).held, (h.entry m).resumed, (h.entry m).loop⟩, h.once, h.linked,
    h.advised, h.slots, h.slotsOnce, h.swept, h.marked, h.heldOpen⟩

theorem sound_freeWay (w : Way) (h : Sound v s) : Sound v (freeWay w s) := by
  obtain ⟨hc, hp, hw⟩ := h.good
  exact ⟨⟨hc, hp, fun u => wayGood_freeWay (hw u)⟩, fun m => ⟨(h.entry m).listed, (h.entry m).joined, (h.entry m).unlinked,
    (h.entry m).pending, (h.entry m).phase, (h.entry m).held, (h.entry m).resumed, (h.entry m).loop⟩, h.once, h.linked,
    h.advised, h.slots, h.slotsOnce, h.swept, h.marked, h.heldOpen⟩

end Sys2Proof.Machine

/-! PROOFS. What the ends of a terminal's job, the return of a record to STORED, its retirement and the ends of the
engines' jobs keep of the agreement (2.5, 3.1, 3.3, 5.5, 5.6, 6.2 to 6.5). -/

namespace Sys2Proof.Machine

variable {s t x : State} {v : Awaited} {n m : CompNo} {k j : Slot} {p : Parcel} {w : Sweep}

/-! ### The sweep, the return queue, contexts and markers -/

theorem sound_setSweep {w : Option Sweep} (h : Sound v s) (hw : ∀ k (n : CompNo), w.bind Sweep.current = some k →
    s.comps[n].link = some k → s.deposit.resumed[n] = false) : Sound v (setSweep w s) :=
  { h with
    entry := fun m => ⟨(h.entry m).listed, (h.entry m).joined, (h.entry m).unlinked, (h.entry m).pending, (h.entry m).phase,
      (h.entry m).held, (h.entry m).resumed, (h.entry m).loop⟩
    swept := hw }

/-- A sweep with no current record. -/
theorem sound_setSweep_none {w : Option Sweep} (h : Sound v s) (hw : w.bind Sweep.current = none) : Sound v (setSweep w s) :=
  sound_setSweep h fun _ _ hk => nomatch hw.symm.trans hk

/-- A sweep at the record it was at. -/
theorem sound_setSweep_same {u : Sweep} (h : Sound v s) (hw : s.returns.sweep = some w) (hu : u.current = w.current) :
    Sound v (setSweep (some u) s) :=
  sound_setSweep h fun k n hk => h.swept k n (sweptRecord_eq_some.mpr ⟨w, hw, hu.symm.trans hk⟩)

theorem sound_restartInactivity (t : Term) (h : Sound v s) : Sound v (restartInactivity t s) := by
  unfold restartInactivity
  split
  · exact sound_of_parts h rfl
  · exact h

theorem sound_endSweep (c : SweepEnd) (h : Sound v s) : Sound v (endSweep c s) := by
  unfold endSweep
  split
  · exact sound_setSweep_none (sound_raise _ h) rfl
  · exact h

theorem sound_sweepResolved (k : Slot) (c : SweepCount) (h : Sound v s) : Sound v (sweepResolved k c s) := by
  unfold sweepResolved
  split
  · split
    · exact sound_restartInactivity _ (sound_setSweep_none h (by cases c <;> rfl))
    · exact h
  · exact h

theorem sound_leaveReturnQueue (k : Slot) (h : Sound v s) : Sound v (leaveReturnQueue k s) := by
  by_cases hk : k ∈ s.returns.queue
  · rw [leaveReturnQueue_queued hk]
    refine sound_of_parts h ?_
    have hcurrent : ∀ o : Option Sweep, (o.map (fun w => if s.returns.queue.idxOf k < w.cursor then
        { w with cursor := w.cursor - 1 } else w)).bind Sweep.current = o.bind Sweep.current := by
      intro o
      cases o with
      | none => rfl
      | some w =>
        show Sweep.current (if _ then _ else w) = w.current
        split <;> rfl
    simp only [agreedParts, sweptRecord, hcurrent]
  · rw [leaveReturnQueue_absent hk]
    exact h

theorem sound_joinReturnQueue (k : Slot) (b : Bool) (h : Sound v s) : Sound v (joinReturnQueue k b s) := by
  unfold joinReturnQueue
  dsimp only
  have hjoined : Sound v (if k ∈ s.returns.queue then s
      else { s with returns := { s.returns with queue := s.returns.queue ++ [k] } }) :=
    sound_ite h (sound_of_parts h rfl)
  split
  · exact sound_raiseMarked _ _ _ hjoined
  · exact hjoined

theorem sound_setContextsOn (k : Slot) (f : QuoteContext → QuoteContext) (h : Sound v s) : Sound v (setContextsOn k f s) := by
  refine sound_foldl (fun t h => ?_) allTerms h
  dsimp only
  split
  · exact sound_of_parts h rfl
  · exact h

theorem sound_clearMarkers (k : Slot) (h : Sound v s) : Sound v (clearMarkers k s) := by
  refine sound_foldl (fun t h => ?_) allTerms h
  split
  · exact sound_ite (sound_of_parts h rfl) h
  · exact h

/-! ### The end of an open job (R32, R36, R118) -/

/-- The compartment whose opening a sweep still waits for is spared by a poll: it is neither marked resumed nor holds a
close. -/
theorem Sound.spares_swept (h : Sound v s) (hk : sweptRecord s = some k) (hlink : s.comps[n].link = some k)
    (hphase : s.comps[n].phase = .awaitGrant) : v.spares n := by
  refine ⟨fun hm => ?_, fun hh => ?_⟩
  · exact nomatch (h.swept k n hk hlink).symm.trans (h.marked n hm)
  · exact nomatch hphase.symm.trans ((h.entry n).held (h.heldOpen n hh)).2

theorem sound_putBackCurrent (h : Sound v s) (hv : v.spares n) : Sound v (putBackCurrent n k p s) := by
  have hfilled := sound_fill false h hv
  unfold putBackCurrent
  dsimp only
  rw [h.good.2.1 k, h.good.1 n, if_neg (by decide), if_pos rfl]
  exact sound_ite (sound_modParcel hfilled (fun _ => rfl) fun _ e => nomatch e) hfilled

theorem sound_stopSweep (c : SweepEnd) (h : Sound v s) : Sound v (stopSweep c s) := by
  unfold stopSweep
  split
  · exact h
  next w hw =>
  split
  · exact h
  split
  · exact sound_endSweep c h
  next k hk =>
  have hstopping : Sound v (setSweep (some { w with phase := .stopping, cause := some c }) s) := sound_setSweep_same h hw rfl
  dsimp only
  split
  · exact hstopping
  next p hat =>
  split
  · exact hstopping
  next n hcomp =>
  split
  · next hwaits =>
    have hspares := h.spares_swept (sweptRecord_eq_some.mpr ⟨w, hw, hk⟩) ((h.linked n k).mpr ⟨p, hat, hcomp⟩) hwaits.1
    exact sound_endSweep c (sound_putBackCurrent (sound_withdraw n h) hspares)
  · exact hstopping

theorem sound_signOff (t : Term) (h : Sound v s) : Sound v (signOff t s) := by
  have hidle : Sound v (modTerm t (fun c => { c with mode := .idle, signOffPending := false }) s) := sound_of_parts h rfl
  unfold signOff
  dsimp only
  split
  · exact sound_ite (sound_stopSweep _ hidle) hidle
  · exact hidle

theorem sound_courierRemoved (t : Term) (h : Sound v s) : Sound v (courierRemoved t s) := by
  unfold courierRemoved
  split
  · exact sound_signOff t h
  · exact sound_of_parts h rfl

theorem sound_endOpenJob (t : Term) (k : Slot) (b : Bool) (h : Sound v s) : Sound v (endOpenJob t k b s) := by
  have hended : Sound v (modTerm t (fun c => { c with openJob := none, lastQuoteLapsed := c.lastQuoteLapsed || b }) s) :=
    sound_of_parts h rfl
  unfold endOpenJob
  dsimp only
  split
  · split
    · exact sound_ite (sound_signOff t hended) (sound_restartInactivity t hended)
    · exact sound_of_parts hended rfl
  · exact h

theorem sound_endJobsOn (k : Slot) (h : Sound v s) : Sound v (endJobsOn k s) :=
  sound_foldl (fun t h => sound_endOpenJob t k false h) allTerms h

theorem sound_setOpenJob (t : Term) (k : Slot) (h : Sound v s) : Sound v (setOpenJob t k s) := sound_of_parts h rfl

theorem sound_depositOver (k : Slot) (h : Sound v s) : Sound v (depositOver k s) :=
  sound_endJobsOn k (sound_clearMarkers k h)

/-! ### Records an engine reads (R41, R43) -/

/-- With every record good, the engine's request is taken, or the record is not in a state of it. -/
theorem sound_onRecordElse {bad : State → State} {expected : List ParcelState} {f : Parcel → State → State} (h : Sound v s)
    (hf : ∀ p, parcelAt k s = some p → p.state ∈ expected → Sound v (f p s)) : Sound v (onRecordElse bad k expected f s) := by
  unfold onRecordElse
  split
  · exact h
  next p hat =>
  rw [h.good.2.1 k, if_pos rfl]
  split
  · next hstate => exact hf p hat hstate
  · exact h

theorem sound_onRecord {expected : List ParcelState} {f : Parcel → State → State} (h : Sound v s)
    (hf : ∀ p, parcelAt k s = some p → p.state ∈ expected → Sound v (f p s)) : Sound v (onRecord k expected f s) :=
  sound_onRecordElse h hf

theorem Sound.onComp (h : Sound v s) (n : CompNo) (f : State → State) : onComp n f s = f s := onComp_good (h.good.1 n) f

theorem Sound.verifyComp (h : Sound v s) (n : CompNo) : verifyComp n s = s := h.onComp n id

/-! ### The return to STORED, and retirement (R45, R93) -/

theorem sound_returnToStored (k : Slot) (credit : Amount) (h : Sound v s) : Sound v (returnToStored k credit s) := by
  unfold returnToStored
  split
  · exact h
  next hat =>
  have hwritten : ∀ q : Parcel, q.comp = _ → q.state ≠ .advised → Sound v (setParcel k q s) :=
    fun q hq hstate => sound_setParcel h hat hq fun e => absurd e hstate
  dsimp only
  split
  · exact sound_joinReturnQueue k false (hwritten _ rfl fun e => nomatch e)
  · exact hwritten _ rfl fun e => nomatch e

theorem sound_removeCredentialOf (k : Slot) (h : Sound v s) : Sound v (removeCredentialOf k s) := by
  unfold removeCredentialOf
  split
  · exact sound_freeWay _ h
  · exact h

theorem removeCredentialOf_parcels (k : Slot) (s : State) : (removeCredentialOf k s).parcels = s.parcels := by
  unfold removeCredentialOf
  split <;> rfl

theorem free_freeSlots (n : CompNo) (s : State) : (free n s).parcels.free = s.parcels.free := by
  have hunlink : (unlink n s).parcels.free = s.parcels.free := by
    unfold unlink
    dsimp only
    split
    · show (modParcel _ _ s).parcels.free = _
      unfold modParcel
      split <;> rfl
    · rfl
  have hjoin : ∀ y : State, (joinFree n y).parcels = y.parcels := fun y => by
    unfold joinFree
    dsimp only
    split <;> rfl
  unfold free
  split
  case h_6 => exact hunlink
  case h_7 => rfl
  all_goals
    dsimp only
    rw [hjoin]
    exact hunlink

/-- A live record is retired; its compartment is spared by a poll under way. -/
theorem sound_retireRecord (h : Sound v s) (hat : parcelAt k s = some p) (hv : ∀ n, p.comp = some n → v.spares n) :
    Sound v (retireRecord k s) := by
  have hleft := sound_leaveReturnQueue k (sound_removeCredentialOf k h)
  have hparcels : (leaveReturnQueue k (removeCredentialOf k s)).parcels = s.parcels := by
    rw [leaveReturnQueue_parcels, removeCredentialOf_parcels]
  have hat' : parcelAt k (leaveReturnQueue k (removeCredentialOf k s)) = some p := by
    rw [parcelAt_of_parcels hparcels, hat]
  unfold retireRecord
  dsimp only
  rw [hat', Option.bind_some]
  refine sound_endJobsOn k ?_
  cases hcomp : p.comp with
  | none =>
    refine sound_freeSlot hleft (by rw [hat']; exact fun e => nomatch e) fun m hm => ?_
    obtain ⟨q, hq, hqm⟩ := hleft.record_of_link hm
    cases hat'.symm.trans hq
    exact nomatch hcomp.symm.trans hqm
  | some n =>
    have hlink := (hleft.linked n k).mpr ⟨p, hat', hcomp⟩
    have hfreed := sound_free hleft (hv n hcomp)
    refine sound_freeSlot hfreed (fun e => ?_) (free_names_none hleft hlink)
    have hin := (hfreed.slots k).mpr e
    rw [free_freeSlots] at hin
    exact nomatch hat'.symm.trans ((hleft.slots k).mp hin)

end Sys2Proof.Machine

/-! PROOFS. What the ends of the engines' jobs, the walk of a sweep and the quotes keep of the agreement (3.3, 4.4, 4.5,
5.3 to 5.6, 6.3 to 6.5). -/

namespace Sys2Proof.Machine

open Sys2Proof.Wire

variable {s t x : State} {v : Awaited} {n m : CompNo} {k j : Slot} {p : Parcel} {w : Sweep} {cls : TraceClass}

/-! ### Deposits (R54 to R59) -/

theorem filledState_ne_advised (kind : ParcelKind) : filledState kind ≠ .advised := by cases kind <;> decide

/-- The record whose compartment was freed is ADVISED again. -/
theorem sound_advisedAgain (h : Sound v s) (hlink : s.comps[n].link = some k) (hv : v.spares n) :
    Sound v (modParcel k (fun p => { p with state := .advised, comp := none, arrival := none }) (free n s)) :=
  sound_modParcel_out (sound_free h hv) (free_names_none h hlink) fun _ => rfl

theorem sound_depositBack (o : DepositOutcome) (h : Sound v s) (hlink : s.comps[n].link = some k) (hv : v.spares n) :
    Sound v (depositBack n k o s) :=
  sound_onRecord h fun _ _ _ => sound_depositOver k (sound_raise _ (sound_advisedAgain h hlink hv))

theorem sound_depositFilled (b : Bool) (minute : Minute) (h : Sound v s) (hv : v.spares n) :
    Sound v (depositFilled n k b minute s) := by
  refine sound_onRecord h fun p _ _ => sound_depositOver k ?_
  have hstored : Sound v (modParcel k (fun p =>
      { p with state := filledState p.kind, arrival := some minute, suspect := p.suspect || b }) (fill n b s)) :=
    sound_modParcel (sound_fill b h hv) (fun _ => rfl) fun p => filledState_ne_advised p.kind
  cases p.kind with
  | delivery => exact sound_raiseMarked _ _ _ hstored
  | ret => exact sound_joinReturnQueue k b hstored

theorem sound_depositClose (occ : Occupancy) (minute : Minute) (h : Sound v s) (hlink : s.comps[n].link = some k)
    (hv : v.spares n) : Sound v (depositClose n k occ minute s) := by
  cases occ with
  | empty => exact sound_depositBack _ h hlink hv
  | filled => exact sound_depositFilled false minute h hv
  | uncertain => exact sound_depositFilled true minute h hv

/-- A bar keeps every link (R15). -/
theorem barWithoutReport_link (n m : CompNo) (c : BarCause) (s : State) :
    (barWithoutReport n c s).comps[m].link = s.comps[m].link := by
  by_cases hfitted : s.comps[n].state = .unfitted
  · rw [barWithoutReport_unfitted hfitted]
  have hat : ∀ c, (barredWith n c s).comps[m].link = s.comps[m].link := fun cause => by
    show (modComp n (fun c => { c with state := .barred, cause := cause, phase := .none, attempts := 0, pendingBar := false })
      (withdraw n (leaveFree n s))).comps[m].link = _
    rw [modComp_at]
    split
    · next e => subst e; rfl
    · rfl
  rw [barWithoutReport_fitted hfitted]
  dsimp only
  split <;> exact hat _

theorem sound_depositLockFault (h : Sound v s) (hlink : s.comps[n].link = some k) (hv : v.spares n) :
    Sound v (depositLockFault n k cls s) := by
  have hbarred := sound_barWithoutReport .lockFault h hv
  exact sound_onRecord h fun _ _ _ => sound_depositOver k (sound_raise _ (sound_raise _
    (sound_advisedAgain hbarred ((barWithoutReport_link n n .lockFault s).trans hlink) hv)))

theorem sound_depositBarred (before : DoorPhase) (h : Sound v s) (hlink : s.comps[n].link = some k) (hv : v.spares n) :
    Sound v (depositBarred n k before s) := by
  refine sound_onRecordElse h fun p _ _ => sound_depositOver k ?_
  split
  · have hsuspect : Sound v (raise (.deposit p.ref (compByte n) .barred (some s.time.minute)) (modParcel k (fun p =>
        { p with state := filledState p.kind, arrival := some s.time.minute, suspect := true }) s)) :=
      sound_raise _ (sound_modParcel h (fun _ => rfl) fun q => filledState_ne_advised q.kind)
    dsimp only
    cases p.kind with
    | delivery => exact hsuspect
    | ret => exact sound_joinReturnQueue k false hsuspect
  · exact sound_raise _ (sound_advisedAgain h hlink hv)

/-! ### Collections (R79, R80, R93 to R99) -/

theorem sound_collectionOver (k : Slot) (h : Sound v s) : Sound v (collectionOver k s) :=
  sound_endJobsOn k (sound_setContextsOn k _ h)

theorem sound_endReopen (k : Slot) (h : Sound v s) : Sound v (endReopen k s) :=
  have hleft := sound_setReopen (s.collection.reopen.filter (fun e => e.slot != k)) h
  sound_onRecord hleft fun _ _ _ => sound_returnToStored k _ hleft

theorem sound_joinReopen (k : Slot) (h : Sound v s) : Sound v (joinReopen k s) := by
  unfold joinReopen
  dsimp only
  have hjoined : ∀ l, Sound v (setReopen l s) := fun l => sound_setReopen l h
  exact sound_ite (sound_endReopen k (hjoined _)) (hjoined _)

theorem sound_collectionUntaken (o : CollectOutcome) (h : Sound v s) (hv : v.spares n) :
    Sound v (collectionUntaken n k o s) :=
  have hkept : Sound v (fill n false (modParcel k (fun p => { p with state := .untaken }) s)) :=
    sound_fill false (sound_modParcel h (fun _ => rfl) fun _ e => nomatch e) hv
  sound_onRecord h fun _ _ _ => sound_joinReopen k (sound_collectionOver k (sound_raise _ hkept))

/-- A record that no sweep is at, behind the end of its collection. -/
theorem collectionOver_record (hat : parcelAt k s = some p) (hgood : parcelGood k s = true) (hstate : p.state ≠ .sweeping) :
    parcelAt k (collectionOver k s) = some p := by
  have hat' : parcelAt k (setContextsOn k (fun _ => .none) s) = some p := by
    rw [parcelAt_of_parcels (setContextsOn_parcels k _ s), hat]
  refine (leaves_endJobsOn k _).record p hat' ?_ hstate
  rw [parcelGood_of_at (hat'.trans hat.symm)]
  exact hgood

/-- The collected record is retired behind its collection. -/
theorem sound_retireCollected (h : Sound v s) (hat : parcelAt k s = some p) (hstate : p.state ≠ .sweeping)
    (hcomp : ∀ m, p.comp = some m → v.spares m) : Sound v (retireRecord k (collectionOver k s)) :=
  sound_retireRecord (sound_collectionOver k h) (collectionOver_record hat (h.good.2.1 k) hstate) hcomp

/-- The compartment of the record that a compartment names is that compartment. -/
theorem Sound.spares_linked (h : Sound v s) (hlink : s.comps[n].link = some k) (hv : v.spares n) (hat : parcelAt k s = some p)
    (m : CompNo) (hm : p.comp = some m) : v.spares m := by
  obtain ⟨q, hq, hqn⟩ := h.record_of_link hlink
  cases hat.symm.trans hq
  cases hqn.symm.trans hm
  exact hv

theorem sound_collectionClose (occ : Occupancy) (h : Sound v s) (hlink : s.comps[n].link = some k) (hv : v.spares n) :
    Sound v (collectionClose n k occ s) := by
  have hnot : ∀ {p : Parcel}, p.state ∈ [ParcelState.releasing] → p.state ≠ .sweeping := fun hp e => by
    rw [e] at hp
    simp at hp
  cases occ with
  | filled => exact sound_collectionUntaken _ h hv
  | empty =>
    refine sound_onRecord h fun p hat hstate => ?_
    exact sound_retireCollected (sound_raise _ h) hat (hnot hstate)
      (h.spares_linked hlink hv hat)
  | uncertain =>
    refine sound_onRecord h fun p hat hstate => ?_
    have hraised := sound_raiseMarked (.collected p.ref (compByte n) .taken) false true h
    refine sound_retireCollected (sound_barWithoutReport .sensor hraised hv) ?_ (hnot hstate) (h.spares_linked hlink hv hat)
    rw [parcelAt_of_parcels (barWithoutReport_parcels n .sensor _)]
    exact hat

theorem sound_collectionLockFault (h : Sound v s) (hv : v.spares n) : Sound v (collectionLockFault n k cls s) :=
  have hstranded : Sound v (modParcel k (fun p => { p with state := .stranded }) (barWithoutReport n .lockFault s)) :=
    sound_modParcel (sound_barWithoutReport .lockFault h hv) (fun _ => rfl) fun _ e => nomatch e
  sound_onRecord h fun _ _ _ => sound_collectionOver k (sound_raise _ (sound_raise _ hstranded))

theorem sound_collectionBarred (h : Sound v s) : Sound v (collectionBarred n k s) :=
  sound_onRecord h fun p _ _ => sound_collectionOver k (sound_raise _
    (sound_returnToStored k (p.tendered - p.change) h))

/-! ### Swept records (R114 to R116) -/

theorem sound_sweptBack (k : Slot) (h : Sound v s) :
    Sound v (modParcel k (fun p => { p with state := .returnQueued }) s) :=
  sound_modParcel h (fun _ => rfl) fun _ e => nomatch e

theorem sound_sweepKept (h : Sound v s) (hv : v.spares n) : Sound v (sweepKept n k s) :=
  sound_onRecord h fun _ _ _ => sound_sweepResolved k _ (sound_fill false (sound_sweptBack k h) hv)

theorem sound_sweepClose (occ : Occupancy) (h : Sound v s) (hlink : s.comps[n].link = some k) (hv : v.spares n) :
    Sound v (sweepClose n k occ s) := by
  cases occ with
  | filled => exact sound_sweepKept h hv
  | empty =>
    refine sound_onRecord h fun p hat _ => sound_sweepResolved k _ ?_
    exact sound_retireRecord (sound_raise _ h) hat (h.spares_linked hlink hv hat)
  | uncertain =>
    refine sound_onRecord h fun p hat _ => sound_sweepResolved k _ ?_
    have hraised := sound_raiseMarked (.ret p.ref .swept) false true h
    refine sound_retireRecord (sound_barWithoutReport .sensor hraised hv) ?_ (h.spares_linked hlink hv hat)
    rw [parcelAt_of_parcels (barWithoutReport_parcels n .sensor _)]
    exact hat

theorem sound_sweepLockFault (h : Sound v s) (hv : v.spares n) : Sound v (sweepLockFault n k cls s) :=
  sound_onRecord h fun _ _ _ => sound_sweepResolved k _ (sound_raise _
    (sound_sweptBack k (sound_barWithoutReport .lockFault h hv)))

theorem sound_sweepBarred (k : Slot) (h : Sound v s) : Sound v (sweepBarred k s) :=
  sound_onRecord h fun _ _ _ => sound_sweepResolved k _ (sound_sweptBack k h)

/-! ### A cause bar (R15) -/

theorem sound_tellEngine (before : Compartment) (h : Sound v s) (hv : v.spares n) : Sound v (tellEngine n before s) := by
  unfold tellEngine
  split
  · exact h
  next k hlink =>
  split
  · exact sound_depositBarred _ h hlink hv
  · exact sound_depositBarred _ h hlink hv
  · exact sound_collectionBarred h
  · exact sound_sweepBarred k h
  · exact h

theorem sound_causeBar (cause : BarCause) (h : Sound v s) (hv : v.spares n) : Sound v (causeBar n cause s) :=
  sound_tellEngine _ (sound_barWithoutReport cause h hv) hv

end Sys2Proof.Machine

/-! PROOFS. What the walk of a sweep, quotes and computations, the door supervisor outside a poll and the column bus keep of
the agreement (4.4, 4.5, 5.3, 5.4, 6.4, 7.1 to 7.8, 8.3, 8.4). -/

namespace Sys2Proof.Machine

open Sys2Proof.Wire

variable {s t x : State} {v : Awaited} {n m : CompNo} {k j : Slot} {p : Parcel} {w : Sweep} {cls : TraceClass}

/-! ### The walk of a sweep (R111, R112) -/

/-- A LOADED compartment is not marked resumed. -/
theorem Sound.not_resumed (h : Sound v s) (hn : isJob s.comps[n].state = false) : s.deposit.resumed[n] = false := by
  by_contra e
  exact nomatch hn.symm.trans ((h.entry n).resumed (by simpa using e))

theorem sound_sweepTake (h : Sound v s) : Sound v (sweepTake n k s) :=
  sound_requestGrant n .sweep (sound_modParcel (sound_release rfl h) (fun _ => rfl) fun _ e => nomatch e)

theorem Sound.badComp_none (h : Sound v s) (k : Slot) : badComp k s = none := by
  unfold badComp
  rw [Option.filter_eq_none_iff]
  intro n _
  rw [h.good.1 n]
  exact Bool.false_ne_true

theorem sound_examine (fuel : Nat) (h : Sound v s) : Sound v (examine fuel s) := by
  induction fuel generalizing s with
  | zero => exact h
  | succ fuel ih =>
    unfold examine
    split
    · exact h
    next w hw =>
    split
    · exact sound_endSweep _ h
    next k _ =>
    have hpassed : ∀ i, Sound v (setSweep (some { w with cursor := i }) s) := fun i => sound_setSweep_same h hw rfl
    rw [h.good.2.1 k, if_neg (by decide), h.badComp_none]
    split
    · dsimp only
      split
      · next n hn =>
        obtain ⟨-, htaken⟩ := (sweepRelease_some k n s).mp hn
        obtain ⟨hloaded, hlink⟩ := (releaseTaken_iff n k s).mp htaken
        refine sound_sweepTake (sound_setSweep h fun j m hj hm => ?_)
        cases Option.some.inj hj
        cases h.link_inj hlink hm
        exact h.not_resumed (by rw [hloaded]; rfl)
      · exact ih (hpassed _)
    · exact ih (hpassed _)

theorem sound_walkOn (h : Sound v s) : Sound v (walkOn s) := by
  unfold walkOn
  split
  · split
    · split
      · exact sound_examine _ h
      · exact sound_endSweep _ h
    · exact h
  · exact h

/-! ### Quotes and computations (R69, R74, R85, R86, R89) -/

theorem sound_releaseAndAsk {st : CompState} (cls : GrantClass) (hst : isJob st = true) (h : Sound v s) :
    Sound v (releaseAndAsk n k st cls s) := by
  unfold releaseAndAsk
  split
  · exact sound_requestGrant n cls (sound_release hst h)
  · exact h

theorem sound_settlement (t : Term) (owed : Amount) (l : Option LastTender) (h : Sound v s) :
    Sound v (settlement t k n owed l s) :=
  sound_releaseAndAsk .collect rfl (sound_setContext t _ (sound_modParcel h (fun _ => rfl) fun _ e => nomatch e))

theorem sound_endQuoting (e : QueuedCharge) (c : ReplyCode) (h : Sound v s) : Sound v (endQuoting e c s) :=
  sound_refuse _ c (sound_endOpenJob e.terminal e.slot false (sound_setContext e.terminal .none h))

theorem sound_expiredAtQuote (e : QueuedCharge) (h : Sound v s) : Sound v (expiredAtQuote e s) :=
  sound_endQuoting e .expired (sound_joinReturnQueue e.slot false (sound_sweptBack e.slot h))

theorem sound_quoteWritten (e : QueuedCharge) (sn : Snapshot) (n : CompNo) (h : Sound v s) :
    Sound v (quoteWritten e sn n s) := by
  unfold quoteWritten
  have hdue : ∀ q : Quote, Sound v (modParcel e.slot (fun p => { p with quote := some q, tendered := 0, change := 0, state := .due }) s) :=
    fun q => sound_modParcel h (fun _ => rfl) fun _ e => nomatch e
  dsimp only
  split
  · exact sound_answer _ _ (sound_settlement e.terminal 0 none (hdue _))
  · exact sound_answer _ _ (sound_setContext e.terminal _ (hdue _))

theorem sound_judgeQuote (e : QueuedCharge) (sn : Snapshot) (h : Sound v s) : Sound v (judgeQuote e sn s) := by
  unfold judgeQuote
  rw [h.good.2.1 e.slot, if_pos rfl]
  split
  · exact sound_releasePlace h
  next p _ =>
  split
  · exact sound_refuse _ _ (sound_endOpenJob _ _ _ (sound_setContext _ _ h))
  split
  · exact sound_releasePlace h
  split
  · exact sound_releasePlace h
  next n _ =>
  rw [h.verifyComp n]
  dsimp only
  split
  · exact sound_endQuoting e _ (sound_returnToStored e.slot p.tendered h)
  · exact sound_quoteWritten e sn n h

theorem sound_startComputations (fuel : Nat) (h : Sound v s) : Sound v (startComputations fuel s) := by
  induction fuel generalizing s with
  | zero => exact h
  | succ fuel ih =>
    unfold startComputations
    split
    · next e rest _ _ =>
      rw [h.good.2.1 e.slot, if_pos rfl]
      have hrest := sound_setCharge rest none h
      split
      · exact ih (sound_releasePlace hrest)
      · dsimp only
        split
        · exact ih (sound_expiredAtQuote e hrest)
        · split
          · exact ih (sound_judgeQuote e _ hrest)
          · exact sound_setCharge _ _ h
    · exact h

theorem sound_completeComputation (h : Sound v s) : Sound v (completeComputation s) := by
  unfold completeComputation
  split
  · exact sound_judgeQuote _ _ (sound_setCharge _ _ h)
  · exact h

/-! ### The door supervisor outside a poll (R11, R143, R157 to R162) -/

theorem sound_startTimers (n : CompNo) (h : Sound v s) : Sound v (startTimers n s) := by
  unfold startTimers
  exact sound_modDoor_same h fun _ => rfl

theorem sound_queueTrace (n : CompNo) (h : Sound v s) : Sound v (queueTrace n s) := by
  unfold queueTrace
  split
  · exact sound_enqueueOp _ (sound_modDoor_same h fun _ => rfl)
  · exact h

theorem sound_takeDelivery (h : Sound v s) (hphase : s.comps[n].phase ≠ .none) : Sound v (takeDelivery n s) := by
  have hdelivered : Sound v (modComp n deliveredComp s) := by
    refine sound_modComp h rfl ((h.entry n).rephased hphase (loading_or_same _) rfl fun e => ?_)
    show (if s.comps[n].phase = .awaitGrant then DoorPhase.awaitOpen else s.comps[n].phase) = .opened
    rw [((h.entry n).held e).2]
    rfl
  unfold takeDelivery
  exact sound_ite (sound_startTimers n hdelivered) hdelivered

theorem sound_deliver (n : CompNo) (length : Nat) (h : Sound v s) : Sound v (deliver n length s) := by
  have hflown : Sound v (count .pulses (goInFlight n length s)) := sound_of_parts h rfl
  unfold deliver
  dsimp only
  split
  · exact hflown
  · next hlive =>
    rw [hflown.onComp n]
    refine sound_takeDelivery hflown fun e => hlive ?_
    rw [deliveryIsStale, e]
    rfl

theorem sound_confirmExpired (n : CompNo) (h : Sound v s) : Sound v (confirmExpired n s) := by
  have hstopped : Sound v (modDoor n (fun d => { d with confirm := none }) s) := sound_modDoor_same h fun _ => rfl
  unfold confirmExpired
  dsimp only
  split
  · split
    · exact sound_modDoor_same hstopped fun _ => rfl
    · exact sound_queueTrace n hstopped
  · exact hstopped

theorem sound_openLimitExpired (h : Sound v s) (hv : v.spares n) : Sound v (openLimitExpired n s) := by
  have hstopped : Sound v (modDoor n (fun d => { d with openLimit := none }) s) := sound_modDoor_same h fun _ => rfl
  unfold openLimitExpired
  rw [hstopped.onComp n]
  split
  · exact hstopped
  next k hlink =>
  split
  · exact sound_depositBack _ hstopped hlink hv
  · exact sound_depositBack _ hstopped hlink hv
  · exact sound_collectionUntaken _ hstopped hv
  · exact sound_sweepKept hstopped hv
  · exact hstopped

theorem sound_lockFault (cls : TraceClass) (h : Sound v s) (hv : v.spares n) : Sound v (lockFault n cls s) := by
  have hcounted := sound_count .lockFaults h
  unfold lockFault
  dsimp only
  split
  · exact hcounted
  next k hlink =>
  split
  · exact sound_depositLockFault hcounted hlink hv
  · exact sound_depositLockFault hcounted hlink hv
  · exact sound_collectionLockFault hcounted hv
  · exact sound_sweepLockFault hcounted hv
  · exact hcounted

theorem sound_raiseAttempts (n : CompNo) (h : Sound v s) :
    Sound v (modComp n (fun c => { c with attempts := raiseAttempts c.attempts }) s) :=
  have hn := h.entry n
  sound_modComp h rfl ⟨hn.listed, hn.joined, hn.unlinked, hn.pending, hn.phase, hn.held, hn.resumed, hn.loop⟩

theorem sound_retry (b : Bool) (h : Sound v s) : Sound v (retry n b s) :=
  sound_requestGrant n _ (sound_ite (sound_raiseAttempts n h) h)

/-- The maintenance loop returns to phase NONE (R19, R162). -/
theorem sound_maintOver (h : Sound v s) (hv : v.spares n) (hmaint : s.comps[n].state = .maint) :
    Sound v (stopJobTimers n (modComp n (fun c => { c with phase := .none }) s)) := by
  rw [stopJobTimers_modComp (isFitted_modComp _)]
  have hstopped := sound_stopJobTimers h hv
  have hn := hstopped.entry n
  refine sound_modComp hstopped rfl (hn.settled (fun cls => (h.entry n).not_listed (by rw [hmaint]; decide) cls) (fun e => ?_)
    hn.unlinked hn.pending rfl Iff.rfl)
  exact nomatch hmaint.symm.trans e

theorem sound_traceAction (cls : TraceClass) (h : Sound v s) (hv : v.spares n) : Sound v (traceAction n cls s) := by
  unfold traceAction
  dsimp only
  split
  · next hmaint => exact sound_maintOver h hv hmaint
  · have hretried : Sound v (if s.doors.records[n].pulseEnd = .cut then retry n false s
        else if s.comps[n].attempts = 2 then lockFault n cls s else retry n true s) :=
      sound_ite (sound_retry false h) (sound_ite (sound_lockFault cls h hv) (sound_retry true h))
    cases cls with
    | boltMoved => exact h
    | coilFault => exact sound_lockFault _ h hv
    | boltStuck => exact hretried
    | boltSlow => exact hretried

theorem sound_actOnTrace (cls : TraceClass) (h : Sound v s) (hv : v.spares n) : Sound v (actOnTrace n cls s) := by
  have hread : Sound v (modDoor n (fun d => { d with traceStep := .none }) s) := sound_modDoor_same h fun _ => rfl
  unfold actOnTrace
  dsimp only
  rw [hread.onComp n]
  exact sound_ite (sound_ite (sound_traceAction cls hread hv) hread) h

theorem sound_traceAnswer (col : Col) (l : List PositionTrace) (h : Sound v s) (hv : v.spares n) :
    Sound v (traceAnswer n col l s) := by
  unfold traceAnswer
  split
  · exact h
  · exact sound_actOnTrace _ (sound_of_parts h rfl) hv

theorem sound_traceBusy (col : Col) (h : Sound v s) (hv : v.spares n) : Sound v (traceBusy n col s) := by
  unfold traceBusy
  exact sound_ite h (sound_ite (sound_actOnTrace _ h hv) (sound_enqueueOp _ (sound_modDoor_same h fun _ => rfl)))

theorem sound_traceOwed (n : CompNo) (h : Sound v s) : Sound v (traceOwed n s) :=
  sound_ite (sound_modDoor_same h fun _ => rfl) h

theorem sound_notePulseEnd (n : CompNo) (e : PulseEnd) (h : Sound v s) : Sound v (notePulseEnd n e s) := by
  have hnoted : Sound v (modDoor n (fun d => { d with pulseEnd := e }) s) := sound_modDoor_same h fun _ => rfl
  unfold notePulseEnd
  exact sound_ite (sound_queueTrace n hnoted) hnoted

/-! ### Closes (R164) -/

theorem sound_handClose (occ : Occupancy) (minute : Minute) (h : Sound v s) (hv : v.spares n) :
    Sound v (handClose n occ minute s) := by
  have hdropped : Sound v (modDoor n (fun d => { d with heldClose := none }) s) := sound_modDoor_none h hv.2 fun _ => rfl
  unfold handClose
  dsimp only
  split
  · exact hdropped
  next k hlink =>
  split
  · exact sound_depositClose occ minute hdropped hlink hv
  · exact sound_depositClose occ minute hdropped hlink hv
  · exact sound_collectionClose occ hdropped hlink hv
  · exact sound_sweepClose occ hdropped hlink hv
  · exact hdropped

/-- A close in phase OPEN (R164). -/
theorem sound_close (occ : Occupancy) (minute : Minute) (h : Sound v s) (hv : v.spares n) (hphase : s.comps[n].phase = .opened) :
    Sound v (close n occ minute s) := by
  unfold close
  split
  · next hmaint => exact sound_maintOver h hv hmaint
  next hmaint =>
  have hjob := ((h.entry n).phase (by rw [hphase]; decide)).resolve_right hmaint
  cases occ with
  | uncertain => exact sound_modDoor h (fun _ => ⟨hjob, hphase⟩) fun _ e => nomatch e
  | empty => exact sound_handClose _ minute h hv
  | filled => exact sound_handClose _ minute h hv

end Sys2Proof.Machine

/-! PROOFS. What a poll answer keeps of the agreement: its openings are taken before its closes, so between them
compartments have still to join their lists, and marks and held closes read at the poll have still to be judged (8.2,
8.5 to 8.7). -/

namespace Sys2Proof.Machine

open Sys2Proof.Wire

variable {s t : State} {v : Awaited} {n m : CompNo} {k j : Slot} {x y : PolledDoor} {l opens closes : List PolledDoor}

/-! ### What a poll leaves open -/

/-- The reading closes a compartment judged by its events. -/
def closesByEvent (x : PolledDoor) : Prop :=
  x.how = .events ∧ x.reading.door = .closed ∧ (x.before = .opened ∨ x.reading.latched = true)

/-- The poll with these openings and these closes still to be taken. -/
def awaiting (opens closes : List PolledDoor) : Awaited :=
  { late := fun m => ∃ x ∈ closes, x.comp = m ∧ closesByEvent x
    marked := fun m => (∃ x ∈ opens, x.comp = m ∧ x.how = .resumption) ∨
      ∃ x ∈ closes, x.comp = m ∧ x.how = .resumption ∧ x.reading.door = .closed
    held := fun m => (∃ x ∈ opens, x.comp = m ∧ ∃ h, x.how = .held h) ∨
      ∃ x ∈ closes, x.comp = m ∧ (∃ h, x.how = .held h) ∧ x.reading.door = .closed }

theorem awaiting_late_cons (h : ¬ closesByEvent x) (hm : (awaiting opens (x :: closes)).late m) :
    (awaiting opens closes).late m := by
  obtain ⟨y, hy, hym, hcloses⟩ := hm
  rcases List.mem_cons.mp hy with rfl | hy
  · exact absurd hcloses h
  · exact ⟨y, hy, hym, hcloses⟩

theorem awaiting_late_withLate (hm : (awaiting opens (x :: closes)).late m) :
    ((awaiting opens closes).withLate x.comp).late m := by
  obtain ⟨y, hy, hym, hcloses⟩ := hm
  rcases List.mem_cons.mp hy with rfl | hy
  · exact .inr hym.symm
  · exact .inl ⟨y, hy, hym, hcloses⟩

/-- The door's opening is taken: what is left open of it waits for its close. -/
theorem awaiting_opened (h : Sound (awaiting (x :: opens) closes) s) : Sound (awaiting opens (x :: closes)) s := by
  refine h.mono (fun m ⟨y, hy, hym⟩ => ⟨y, List.mem_cons_of_mem x hy, hym⟩) (fun m hm => ?_) (fun m hm => ?_)
  · rcases hm with ⟨y, hy, hym, hhow⟩ | ⟨y, hy, hym, hhow, hdoor⟩
    · exact .inl ⟨y, List.mem_cons_of_mem x hy, hym, hhow⟩
    · rcases List.mem_cons.mp hy with rfl | hy
      · exact .inl ⟨y, List.mem_cons_self .., hym, hhow⟩
      · exact .inr ⟨y, hy, hym, hhow, hdoor⟩
  · rcases hm with ⟨y, hy, hym, hhow⟩ | ⟨y, hy, hym, hhow, hdoor⟩
    · exact .inl ⟨y, List.mem_cons_of_mem x hy, hym, hhow⟩
    · rcases List.mem_cons.mp hy with rfl | hy
      · exact .inl ⟨y, List.mem_cons_self .., hym, hhow⟩
      · exact .inr ⟨y, hy, hym, hhow, hdoor⟩

/-- The door's close is taken next: its own compartment may be late, the others wait. -/
theorem awaiting_closed (h : Sound (awaiting [] (x :: closes)) s) : Sound ((awaiting [] closes).withLate x.comp) s :=
  h.mono (fun _ => awaiting_late_withLate)
    (fun _ hm => hm.imp (fun ⟨_, hy, _⟩ => nomatch hy) fun ⟨y, hy, hym⟩ => ⟨y, List.mem_cons_of_mem x hy, hym⟩)
    (fun _ hm => hm.imp (fun ⟨_, hy, _⟩ => nomatch hy) fun ⟨y, hy, hym⟩ => ⟨y, List.mem_cons_of_mem x hy, hym⟩)

theorem awaiting_passed (hx : ¬ closesByEvent x) (h : Sound (awaiting [] (x :: closes)) s) : Sound (awaiting [] closes) s :=
  { (awaiting_closed h) with
    entry := fun m => { h.entry m with joined := fun a b c => ((h.entry m).joined a b c).imp_left (awaiting_late_cons hx) } }

/-- A compartment that no other door of the poll reads is spared, unless its own close is still to be judged so. -/
theorem awaiting_spares (ho : ∀ y ∈ opens, y.comp ≠ x.comp) (hc : ∀ y ∈ closes, y.comp ≠ x.comp)
    (hx : x.how = .events ∨ x.reading.door = .opened) : (awaiting opens (x :: closes)).spares x.comp := by
  refine ⟨fun hm => ?_, fun hm => ?_⟩
  · rcases hm with ⟨y, hy, hym, -⟩ | ⟨y, hy, hym, hhow, hdoor⟩
    · exact ho y hy hym
    · rcases List.mem_cons.mp hy with rfl | hy
      · rcases hx with e | e
        · exact nomatch hhow.symm.trans e
        · exact nomatch hdoor.symm.trans e
      · exact hc y hy hym
  · rcases hm with ⟨y, hy, hym, -⟩ | ⟨y, hy, hym, ⟨h, hhow⟩, hdoor⟩
    · exact ho y hy hym
    · rcases List.mem_cons.mp hy with rfl | hy
      · rcases hx with e | e
        · exact nomatch hhow.symm.trans e
        · exact nomatch hdoor.symm.trans e
      · exact hc y hy hym

theorem awaiting_spares_closed (hc : ∀ y ∈ closes, y.comp ≠ n) : (awaiting [] closes).spares n :=
  ⟨fun hm => hm.elim (fun ⟨_, hy, _⟩ => nomatch hy) fun ⟨y, hy, hym, _⟩ => hc y hy hym,
    fun hm => hm.elim (fun ⟨_, hy, _⟩ => nomatch hy) fun ⟨y, hy, hym, _⟩ => hc y hy hym⟩

/-! ### What is sensed (R135, R152, R165) -/

/-- The door is sensed: a listed compartment stays closed, and one that closes may have to join its list. -/
theorem sound_senseDoor {r : PositionReading} (h : Sound v s) (hlisted : ∀ cls, n ∈ listOf cls s.freeLists → r.door = .closed)
    (hlate : r.door = .closed → s.comps[n].door = .opened → v.late n) : Sound v (senseDoor n r s) := by
  have hn := h.entry n
  have hsensed : Sound v (modComp n (fun c => { c with door := r.door, occ := r.occupancy }) s) := by
    refine sound_modComp h rfl ⟨fun cls hin => ?_, fun hstate hdoor hbar => ?_, hn.unlinked, hn.pending, hn.phase, hn.held,
      hn.resumed, hn.loop⟩
    · obtain ⟨hcls, hstate, -, hbar⟩ := hn.listed cls hin
      exact ⟨hcls, hstate, hlisted cls hin, hbar⟩
    · cases hwas : s.comps[n].door with
      | opened => exact .inl (hlate hdoor hwas)
      | closed => exact hn.joined hstate hwas hbar
  rw [senseDoor_eq]
  exact sound_modDoor_same hsensed fun d => by split <;> rfl

theorem senseDoor_door (n : CompNo) (r : PositionReading) (s : State) : (senseDoor n r s).comps[n].door = r.door := by
  rw [senseDoor_comp, sealCompartment]

theorem senseDoor_leaveFree (n : CompNo) (r : PositionReading) (s : State) :
    leaveFree n (senseDoor n r s) = senseDoor n r (leaveFree n s) := by
  rw [senseDoor_eq, senseDoor_eq]
  rfl

/-! ### Openings (R153 to R155) -/

theorem sound_lateOpening (h : Sound v s) : Sound v (lateOpening n s) := by
  unfold lateOpening
  split
  · next hphase => exact sound_expectedOpening h (by rw [hphase]; decide)
  · next hphase => exact sound_expectedOpening h (by rw [hphase]; decide)
  · exact h
  · exact h

/-- An opening of a compartment that is not VACANT. -/
theorem sound_openedEvent (h : Sound v s) (hv : v.spares n) (hvacant : s.comps[n].state ≠ .vacant) :
    Sound v (openedEvent n s) := by
  unfold openedEvent
  split
  · next hphase => exact sound_expectedOpening h (by rw [hphase]; decide)
  · next hphase => exact sound_expectedOpening h (by rw [hphase]; decide)
  · exact h
  · split
    · exact sound_count _ (sound_raise _ (sound_causeBar .tamper h hv))
    · next hstate => exact absurd hstate hvacant
    · exact h

/-- A compartment judged by its events, behind what is sensed of it (R152). -/
theorem sound_openingOf (hdoor : s.comps[x.comp].door = x.before) (hlate : closesByEvent x → v.late x.comp)
    (hhow : x.how = .events) (hv : v.spares x.comp) (h : Sound v s) :
    Sound v (openingOf x.comp x.before x.reading (senseDoor x.comp x.reading s)) := by
  have hstate := senseDoor_state x.comp x.reading s
  have hphase := senseDoor_phase x.comp x.reading s
  have hn := h.entry x.comp
  have hclosing : x.reading.door = .closed → s.comps[x.comp].door = .opened → v.late x.comp := fun hread hwas =>
    hlate ⟨hhow, hread, .inl (hdoor.symm.trans hwas)⟩
  have hvacant : s.comps[x.comp].state = .vacant → s.comps[x.comp].phase = .none := fun e => by
    by_contra hp
    have := hn.phase hp
    rw [e] at this
    simp [isJob] at this
  by_cases hopens : x.before = .closed ∧ (x.reading.door = .opened ∨ x.reading.latched = true)
  · rw [openingOf_opens hopens]
    by_cases hidle : s.comps[x.comp].state = .vacant
    · rw [openedEvent_vacant (hphase.trans (hvacant hidle)) (hstate.trans hidle), senseDoor_leaveFree]
      have hsensed : Sound (v.withLate x.comp) (senseDoor x.comp x.reading (leaveFree x.comp s)) :=
        sound_senseDoor (sound_leaveFree x.comp h) (fun cls hin => absurd hin (not_mem_leaveFree x.comp s cls))
          fun _ _ => .inr rfl
      refine sound_count _ (sound_raise _ ?_)
      cases hread : x.reading.door with
      | opened =>
        refine hsensed.notLate fun e => ?_
        rw [senseDoor_door, hread] at e
        exact nomatch e.2.1
      | closed =>
        have hin : v.late x.comp := hlate ⟨hhow, hread, .inr (hopens.2.resolve_left (by rw [hread]; decide))⟩
        exact hsensed.mono (fun m hm => hm.elim id fun e => e ▸ hin) (fun _ => id) fun _ => id
    · refine sound_openedEvent (sound_senseDoor h (fun cls hin => absurd (hn.listed cls hin).2.1 hidle) hclosing) hv ?_
      rw [hstate]
      exact hidle
  · have hsensed : Sound v (senseDoor x.comp x.reading s) := by
      refine sound_senseDoor h (fun cls hin => ?_) hclosing
      have hclosed := hdoor.symm.trans (hn.listed cls hin).2.2.1
      cases hread : x.reading.door with
      | closed => rfl
      | opened => exact absurd ⟨hclosed, .inl hread⟩ hopens
    by_cases hcloses : x.before = .opened ∧ x.reading.door = .closed
    · rw [openingOf_closes hcloses]
      exact sound_lateOpening hsensed
    · rw [openingOf_neither hopens hcloses]
      exact hsensed

/-- A compartment under a job is sensed. -/
theorem sound_senseDoor_job {r : PositionReading} (h : Sound v s) (hjob : isJob s.comps[n].state = true) :
    Sound v (senseDoor n r s) := by
  have hn := h.entry n
  have hvacant := (isJob_facts hjob).1
  have hsensed : Sound v (modComp n (fun c => { c with door := r.door, occ := r.occupancy }) s) :=
    sound_modComp h rfl ⟨fun cls hin => absurd hin (hn.not_listed hvacant cls), fun e => absurd e hvacant, hn.unlinked,
      hn.pending, hn.phase, hn.held, hn.resumed, hn.loop⟩
  rw [senseDoor_eq]
  exact sound_modDoor_same hsensed fun d => by split <;> rfl

/-- A compartment under a job is in phase OPEN. -/
theorem sound_openJob (h : Sound v s) (hjob : isJob s.comps[n].state = true) :
    Sound v (modComp n (fun c => { c with phase := .opened }) s) :=
  have hn := h.entry n
  sound_modComp h rfl ⟨hn.listed, hn.joined, hn.unlinked, hn.pending, fun _ => .inl hjob, fun _ => ⟨hjob, rfl⟩, hn.resumed,
    hn.loop⟩

theorem sound_takeOpening (ho : ∀ y ∈ opens, y.comp ≠ x.comp) (hc : ∀ y ∈ closes, y.comp ≠ x.comp)
    (hdoor : s.comps[x.comp].door = x.before) (h : Sound (awaiting (x :: opens) closes) s) :
    Sound (awaiting opens (x :: closes)) (takeOpening s x) := by
  have hopened := awaiting_opened h
  cases hhow : x.how with
  | events =>
    rw [takeOpening_events hhow]
    exact sound_openingOf hdoor (fun hcloses => ⟨x, List.mem_cons_self .., rfl, hcloses⟩) hhow
      (awaiting_spares ho hc (.inl hhow)) hopened
  | resumption =>
    have hjob := (h.entry x.comp).resumed (h.marked x.comp (.inl ⟨x, List.mem_cons_self .., rfl, hhow⟩))
    have hsensed := sound_senseDoor_job (r := x.reading) hopened hjob
    unfold takeOpening openingAtPoll
    rw [hhow]
    cases hread : x.reading.door with
    | closed => exact hsensed
    | opened =>
      refine sound_openJob (sound_setResumed_false hsensed (awaiting_spares ho hc (.inr hread)).1) ?_
      show isJob (senseDoor x.comp x.reading s).comps[x.comp].state = true
      rw [senseDoor_state]
      exact hjob
  | held hd =>
    have hjob := ((h.entry x.comp).held (h.heldOpen x.comp (.inl ⟨x, List.mem_cons_self .., rfl, hd, hhow⟩))).1
    have hsensed := sound_senseDoor_job (r := x.reading) hopened hjob
    unfold takeOpening openingAtPoll
    rw [hhow]
    cases hread : x.reading.door with
    | closed => exact hsensed
    | opened => exact sound_modDoor_none hsensed (awaiting_spares ho hc (.inr hread)).2 fun _ => rfl

/-! ### Closes (R164, R168) -/

theorem sound_repoll {hd : HeldClose} {r : PositionReading} (minute : Minute) (h : Sound v s) (hv : v.spares n)
    (hheld : s.doors.records[n].heldClose ≠ none) : Sound v (repoll n hd r minute s) := by
  obtain ⟨hjob, hphase⟩ := (h.entry n).held hheld
  have hagain : ∀ f : DoorRecord → DoorRecord, (∀ d, (f d).heldClose ≠ none) → Sound v (modDoor n f s) := fun f hf =>
    sound_modDoor h (fun _ => ⟨hjob, hphase⟩) fun _ => hf _
  unfold repoll
  split
  · exact sound_close r.occupancy minute (sound_modDoor_none h hv.2 fun _ => rfl) hv hphase
  · cases r.occupancy with
    | uncertain =>
      exact sound_ite (hagain _ fun _ e => nomatch e) (sound_ite (hagain _ fun _ e => nomatch e) (sound_handClose _ _ h hv))
    | empty => exact sound_handClose _ _ h hv
    | filled => exact sound_handClose _ _ h hv

/-- A CLOSED event of a compartment that may still have to join its list. -/
theorem sound_closedEvent (occ : Occupancy) (minute : Minute) (h : Sound (v.withLate n) s) (hv : v.spares n) :
    Sound v (closedEvent n occ minute s) := by
  have hbusy : s.comps[n].phase ≠ .none → Sound v s := fun hp => h.notLate fun ⟨e, _⟩ => by
    have := (h.entry n).phase hp
    rw [e] at this
    simp [isJob] at this
  unfold closedEvent
  split
  · next hphase => exact sound_close occ minute (hbusy (by rw [hphase]; decide)) hv hphase
  · next hphase => exact hbusy (by rw [hphase]; decide)
  · next hphase => exact hbusy (by rw [hphase]; decide)
  · exact sound_joinFree h

theorem sound_resumedPoll {before : DoorState} {r : PositionReading} (minute : Minute) (h : Sound v s) (hv : v.spares n)
    (hmarked : s.deposit.resumed[n] = true) : Sound v (resumedPoll n before r minute s) := by
  have hjob := (h.entry n).resumed hmarked
  have hcleared := sound_setResumed_false h hv.1
  unfold resumedPoll
  dsimp only
  split
  · refine sound_close r.occupancy minute (sound_openJob hcleared hjob) hv ?_
    rw [modComp_at, if_pos rfl]
    rfl
  · next hstays =>
    split
    · have hn := hcleared.entry n
      refine sound_requestGrant n .collect (sound_modComp hcleared rfl ⟨hn.listed, hn.joined, hn.unlinked, hn.pending,
        fun _ => .inl hjob, fun hh => absurd (.inr (.inr (.inl (hn.held hh).2))) hstays, hn.resumed, hn.loop⟩)
    · split
      · exact sound_sweepKept hcleared hv
      · exact hcleared
    · exact hcleared

theorem sound_driverFault (n : CompNo) (h : Sound v s) : Sound v (driverFault n s) :=
  sound_ite (sound_confirmExpired n h) h

theorem sound_takeClosing (minute : Minute) (hc : ∀ y ∈ closes, y.comp ≠ x.comp) (h : Sound (awaiting [] (x :: closes)) s) :
    Sound (awaiting [] closes) (takeClosing minute s x) := by
  have hv := awaiting_spares_closed hc
  suffices hclosed : Sound (awaiting [] closes) (closingAtPoll minute x s) by
    unfold takeClosing
    exact sound_ite (sound_driverFault x.comp hclosed) hclosed
  have hpassed : ¬ closesByEvent x → Sound (awaiting [] closes) s := fun hx => awaiting_passed hx h
  cases hread : x.reading.door with
  | opened =>
    have hx := hpassed fun e => nomatch hread.symm.trans e.2.1
    unfold closingAtPoll
    rw [hread]
    cases x.how with
    | events =>
      dsimp only
      unfold closingOf
      rw [hread]
      cases x.before <;> exact hx
    | resumption => exact hx
    | held hd => exact hx
  | closed =>
    unfold closingAtPoll
    rw [hread]
    cases hhow : x.how with
    | events =>
      dsimp only
      unfold closingOf
      rw [hread]
      cases hbefore : x.before with
      | opened => exact sound_closedEvent _ minute (awaiting_closed h) hv
      | closed =>
        dsimp only
        split
        · exact sound_closedEvent _ minute (awaiting_closed h) hv
        · next hlatched =>
          exact hpassed fun e => e.2.2.elim (fun q => nomatch hbefore.symm.trans q) hlatched
    | resumption =>
      exact sound_resumedPoll minute (hpassed fun e => nomatch hhow.symm.trans e.1) hv
        (h.marked x.comp (.inr ⟨x, List.mem_cons_self .., rfl, hhow, hread⟩))
    | held hd =>
      exact sound_repoll minute (hpassed fun e => nomatch hhow.symm.trans e.1) hv
        (h.heldOpen x.comp (.inr ⟨x, List.mem_cons_self .., rfl, ⟨hd, hhow⟩, hread⟩))

/-! ### The answer (R135, R152, R167) -/

/-- A table in which one entry is written reads the others as they were. -/
theorem comps_other {t : State} (h : n ≠ m) (ht : ∃ c, t.comps = s.comps.set n.val c n.isLt) : t.comps[m] = s.comps[m] := by
  obtain ⟨c, ht⟩ := ht
  rw [ht, Fin.getElem_fin, Vector.getElem_set, if_neg (Fin.val_ne_of_ne h)]
  rfl

theorem barWithoutReport_other (h : n ≠ m) (c : BarCause) (s : State) : (barWithoutReport n c s).comps[m] = s.comps[m] := by
  by_cases hfitted : s.comps[n].state = .unfitted
  · rw [barWithoutReport_unfitted hfitted]
  · rw [barWithoutReport_fitted hfitted]
    dsimp only
    split <;> exact comps_other h ⟨_, rfl⟩

theorem senseDoor_other (h : n ≠ m) (r : PositionReading) (s : State) : (senseDoor n r s).comps[m] = s.comps[m] := by
  rw [senseDoor_eq]
  exact comps_other h ⟨_, rfl⟩

theorem expectedOpening_other (h : n ≠ m) (s : State) : (expectedOpening n s).comps[m] = s.comps[m] :=
  comps_other h ⟨_, rfl⟩

theorem openedEvent_others (h : n ≠ m) (s : State) : (openedEvent n s).comps[m] = s.comps[m] := by
  unfold openedEvent
  split
  · exact expectedOpening_other h s
  · exact expectedOpening_other h s
  · rfl
  · split
    · next hstate =>
      have hbarred : causeBar n .tamper s = barWithoutReport n .tamper s := causeBar_jobless (by rw [hstate]; rfl) .tamper
      rw [hbarred]
      exact barWithoutReport_other h .tamper s
    · rfl
    · rfl

theorem lateOpening_other (h : n ≠ m) (s : State) : (lateOpening n s).comps[m] = s.comps[m] := by
  unfold lateOpening
  split
  · exact expectedOpening_other h s
  · exact expectedOpening_other h s
  · rfl
  · rfl

/-- The opening of one door changes no other compartment. -/
theorem takeOpening_other (h : x.comp ≠ m) (s : State) : (takeOpening s x).comps[m] = s.comps[m] := by
  have hsensed := senseDoor_other h x.reading s
  unfold takeOpening openingAtPoll
  split
  · exact (comps_other (s := senseDoor x.comp x.reading s) h ⟨_, rfl⟩).trans hsensed
  · exact hsensed
  · exact hsensed
  · exact hsensed
  · unfold openingOf
    split
    · exact (openedEvent_others h _).trans hsensed
    · exact (lateOpening_other h _).trans hsensed
    · split
      · exact (openedEvent_others h _).trans hsensed
      · exact hsensed
    · exact hsensed

theorem sound_openings (hnodup : ((opens.reverse ++ closes).map PolledDoor.comp).Nodup)
    (hdoors : ∀ x ∈ opens, s.comps[x.comp].door = x.before) (h : Sound (awaiting opens closes) s) :
    Sound (awaiting [] (opens.reverse ++ closes)) (opens.foldl takeOpening s) := by
  induction opens generalizing s closes with
  | nil => exact h
  | cons x opens ih =>
    rw [List.reverse_cons, List.append_assoc, List.singleton_append] at hnodup ⊢
    have hsplit := hnodup
    rw [List.map_append, List.map_cons, List.nodup_append] at hsplit
    obtain ⟨-, hclosing, hdisjoint⟩ := hsplit
    have ho : ∀ y ∈ opens, y.comp ≠ x.comp := fun y hy => hdisjoint y.comp
      (List.mem_map_of_mem (List.mem_reverse.mpr hy)) x.comp (List.mem_cons_self ..)
    have hc : ∀ y ∈ closes, y.comp ≠ x.comp := fun y hy e =>
      (List.nodup_cons.mp hclosing).1 (e ▸ List.mem_map_of_mem hy)
    refine ih hnodup (fun y hy => ?_) (sound_takeOpening ho hc (hdoors x (List.mem_cons_self ..)) h)
    rw [takeOpening_other (Ne.symm (ho y hy))]
    exact hdoors y (List.mem_cons_of_mem x hy)

theorem sound_closes (minute : Minute) (hnodup : (closes.map PolledDoor.comp).Nodup) (h : Sound (awaiting [] closes) s) :
    Sound (awaiting [] []) (closes.foldl (takeClosing minute) s) := by
  induction closes generalizing s with
  | nil => exact h
  | cons x closes ih =>
    obtain ⟨hx, hnodup⟩ := List.nodup_cons.mp hnodup
    exact ih hnodup (sound_takeClosing minute (fun y hy e => hx (e ▸ List.mem_map_of_mem hy)) h)

/-- The doors an answer is read for are those of different compartments. -/
theorem polledComps_nodup (c : Col) (readings : List PositionReading) (s : State) :
    (((polledComps c readings s).map (asPolled s)).map PolledDoor.comp).Nodup := by
  have hcomps : ((polledComps c readings s).map (asPolled s)).map PolledDoor.comp =
      (List.finRange 240).filter (fun n => (readingOf n c readings s).isSome) := by
    rw [List.map_map, polledComps, List.map_filterMap, ← List.filterMap_eq_filter]
    refine congrArg (fun f => (List.finRange 240).filterMap f) (funext fun n => ?_)
    cases hr : readingOf n c readings s <;> simp [Option.guard, asPolled, hr]
  rw [hcomps]
  exact (List.nodup_finRange 240).filter _

theorem sound_takeReadings (c : Col) (readings : List PositionReading) (h : Sound .nothing s) :
    Sound .nothing (takeReadings c readings s) := by
  rw [takeReadings_good readings h.good]
  dsimp only
  have hnodup := polledComps_nodup c readings s
  generalize hl : (polledComps c readings s).map (asPolled s) = l at hnodup ⊢
  have hread : ∀ x ∈ l, s.comps[x.comp].door = x.before ∧ x.how = judgementOf x.comp s := fun x hx => by
    rw [← hl] at hx
    obtain ⟨y, -, rfl⟩ := List.mem_map.mp hx
    exact ⟨rfl, rfl⟩
  have hpolled : Sound (awaiting l []) s := by
    refine ⟨h.good, fun m => { h.entry m with joined := fun a b c => .inr (((h.entry m).joined a b c).resolve_left id) },
      h.once, h.linked, h.advised, h.slots, h.slotsOnce, h.swept, fun m hm => ?_, fun m hm => ?_⟩
    · rcases hm with ⟨y, hy, rfl, hhow⟩ | ⟨y, hy, -⟩
      · have hjudged := (hread y hy).2.symm.trans hhow
        unfold judgementOf at hjudged
        split at hjudged
        · next hres => exact (Bool.and_eq_true_iff.mp hres).1
        · split at hjudged <;> cases hjudged
      · exact nomatch hy
    · rcases hm with ⟨y, hy, rfl, hd, hhow⟩ | ⟨y, hy, -⟩
      · have hjudged := (hread y hy).2.symm.trans hhow
        unfold judgementOf at hjudged
        split at hjudged
        · cases hjudged
        · split at hjudged
          · next hsome => rw [hsome]; exact fun e => nomatch e
          · cases hjudged
      · exact nomatch hy
  have hopened := sound_openings (opens := l) (closes := []) (by rw [List.append_nil, List.map_reverse]; exact List.nodup_reverse.mpr hnodup)
    (fun x hx => (hread x hx).1) hpolled
  rw [List.append_nil] at hopened
  have hready : Sound (awaiting [] l) (l.foldl takeOpening s) := by
    refine hopened.mono (fun m ⟨y, hy, hm⟩ => ⟨y, List.mem_reverse.mp hy, hm⟩) (fun m hm => ?_) fun m hm => ?_
    · exact hm.imp id fun ⟨y, hy, hm⟩ => ⟨y, List.mem_reverse.mpr hy, hm⟩
    · exact hm.imp id fun ⟨y, hy, hm⟩ => ⟨y, List.mem_reverse.mpr hy, hm⟩
  exact (sound_closes s.time.minute hnodup hready).mono (fun m ⟨_, hy, _⟩ => nomatch hy) (fun _ => False.elim) fun _ => False.elim

theorem sound_requeueOwed (n : CompNo) (h : Sound v s) : Sound v (requeueOwed n s) := by
  unfold requeueOwed
  exact sound_ite (sound_queueTrace n h) h

theorem sound_pollAnswer (c : Col) (readings : List PositionReading) (h : Sound .nothing s) :
    Sound .nothing (pollAnswer c readings s) := by
  have htaken : Sound .nothing (takeReadings c readings (setFirstPoll c false s)) :=
    sound_takeReadings c readings (sound_of_parts h rfl)
  unfold pollAnswer
  exact sound_ite (sound_foldl (fun n h => sound_ite (sound_requeueOwed n h) h) _ htaken) htaken

end Sys2Proof.Machine

/-! PROOFS. What the column bus, the hold and dormancy, and what follows every taking keep of the agreement (7.1 to 7.8,
9.4, 11.5). -/

namespace Sys2Proof.Machine

open Sys2Proof.Wire

variable {s t : State} {v : Awaited} {n m : CompNo} {k j : Slot}

/-! ### The operation queue and the columns -/

theorem sound_setBus (b : ColumnBus) (h : Sound v s) : Sound v { s with bus := b } := sound_of_parts h rfl
theorem sound_setDormancy (d : Dormancy) (h : Sound v s) : Sound v { s with dormancy := d } := sound_of_parts h rfl
theorem sound_setArbiter (a : Arbiter) (h : Sound v s) : Sound v { s with arbiter := a } := sound_of_parts h rfl
theorem sound_setLink (l : LinkInterface) (h : Sound v s) : Sound v { s with link := l } := sound_of_parts h rfl

theorem sound_answerRelay (c : ReplyCode) (op : Op) (h : Sound v s) : Sound v (answerRelay c op s) :=
  sound_sameBut h (answerRelay_sameBut c op s)

theorem sound_dropOps (f : Op → Bool) (h : Sound v s) : Sound v (dropOps f s) := sound_of_parts h rfl

theorem sound_enqueueBroadcast (b : Broadcast) (h : Sound v s) : Sound v (enqueueBroadcast b s) := by
  unfold enqueueBroadcast
  have hdropped : Sound v (if b = .wakeAll then dropOps (fun o => o == .broadcast .sleepAll) s else s) :=
    sound_ite (sound_dropOps _ h) h
  exact sound_ite hdropped (sound_enqueueOp _ hdropped)

theorem sound_modColumn (c : Col) (f : ColumnEntry → ColumnEntry) (h : Sound v s) : Sound v (modColumn c f s) :=
  sound_of_parts h rfl

theorem sound_modColumns (f : Col → ColumnEntry → ColumnEntry) (h : Sound v s) : Sound v (modColumns f s) :=
  sound_foldl (fun c h => sound_modColumn c (f c) h) allCols h

theorem sound_setUse (u : BusUse) (h : Sound v s) : Sound v (setUse u s) := sound_of_parts h rfl

theorem sound_setRetry (r : Option Retry) (h : Sound v s) : Sound v (setRetry r s) := sound_of_parts h rfl

theorem sound_takeBack (n : CompNo) (h : Sound v s) : Sound v (takeBack n s) := by
  unfold takeBack
  split
  · exact h
  · exact sound_ite (sound_of_parts h rfl) (sound_of_parts h rfl)

theorem sound_returnGrant (n : CompNo) (b : Bool) (h : Sound v s) : Sound v (returnGrant n b s) := by
  have hback := sound_takeBack n h
  unfold returnGrant
  dsimp only
  rw [hback.onComp n]
  exact sound_lookOver (sound_ite (sound_raiseAttempts n hback) hback)

theorem sound_disposeOp (op : Op) (h : Sound v s) : Sound v (disposeOp op s) := by
  cases op with
  | relay c k m tag origin => exact sound_answerRelay .columnDown (.relay c k m tag origin) h
  | traceRead n c => exact sound_traceOwed n h
  | pulse n c p l => exact sound_takeBack n h
  | _ => exact h

theorem sound_pollOver (c : Col) (h : Sound v s) : Sound v (pollOver c s) :=
  sound_of_parts (sound_modColumn c (fun e => { e with pollDue := false }) h) rfl

theorem sound_columnAway (c : Col) (h : Sound v s) : Sound v (columnAway c s) := sound_of_parts h rfl
theorem sound_leaveCommitted (n : CompNo) (h : Sound v s) : Sound v (leaveCommitted n s) := sound_of_parts h rfl

theorem sound_columnAbsent (c : Col) (op : Option Op) (h : Sound v s) : Sound v (columnAbsent c op s) := by
  have hnoted : Sound v (columnAway c (raiseAbsent c (modColumn c (fun e => { e with state := .absent }) s))) :=
    sound_of_parts h rfl
  have hdropped := sound_dropOps (leavesWith c) hnoted
  unfold columnAbsent
  exact sound_lookOver (sound_pollOver c (sound_setBus _ (sound_foldl (fun o h => sound_disposeOp o h) _ hdropped)))

/-! ### Probes (R128 to R130) -/

theorem sound_probeOver (c : Col) (b : Bool) (h : Sound v s) : Sound v (probeOver c b s) := by
  have hmarked : Sound v (modColumn c (fun e => { e with probeDue := false }) s) := sound_modColumn c _ h
  unfold probeOver
  split
  · exact hmarked
  · split
    · dsimp only
      split
      · have hended : Sound v { modColumn c (fun e => { e with probeDue := false }) s with bus :=
            { (modColumn c (fun e => { e with probeDue := false }) s).bus with enumeration := none } } :=
          sound_of_parts hmarked rfl
        split
        · exact sound_placeReply _ hended
        · exact hended
      · exact sound_of_parts hmarked rfl
    · exact sound_ite h hmarked

theorem sound_mapCheck (c : Col) (h : Sound .nothing s) : Sound .nothing (mapCheck c s) := by
  have hbarred : ∀ l : List CompNo, Sound .nothing (l.foldl (fun s n => onComp n (causeBar n .mapMismatch) s) s) := fun l =>
    sound_foldl (fun n h => by rw [h.onComp n]; exact sound_causeBar _ h (nothing_spares n)) l h
  unfold mapCheck
  exact sound_ite (sound_raise _ (hbarred _)) (hbarred _)

theorem sound_probeAnswer (c : Col) (b : Byte) (h : Sound .nothing s) : Sound .nothing (probeAnswer c b s) := by
  have hchecked : Sound .nothing (mapCheck c (modColumn c (fun e =>
      { e with state := .present, count := clampCount b, pollDue := true }) s)) := sound_mapCheck c (sound_modColumn c _ h)
  unfold probeAnswer
  exact sound_lookOver (sound_of_parts (sound_ite (sound_raise _ hchecked) hchecked) rfl)

theorem sound_probeNoAnswer (c : Col) (h : Sound v s) : Sound v (probeNoAnswer c s) := by
  unfold probeNoAnswer
  split
  · exact h
  · exact sound_ite (sound_of_parts h rfl) (sound_modColumn c _ h)
  · exact sound_columnAbsent c none h
  · exact sound_columnAbsent c none h

/-! ### How an operation ends (R124 to R127, R138) -/

theorem sound_noAnswerFailure (x : Exchange) (h : Sound v s) : Sound v (noAnswerFailure x s) := by
  unfold noAnswerFailure
  split
  · exact h
  · exact sound_probeOver _ _ (sound_probeNoAnswer _ h)
  · split
    · exact h
    · split
      · exact sound_columnAbsent _ _ h
      · exact sound_columnAbsent _ _ h
      · exact sound_lookOver (sound_disposeOp _ h)
      · exact sound_lookOver (sound_disposeOp _ h)

theorem sound_busyFailure (x : Exchange) (h : Sound .nothing s) : Sound .nothing (busyFailure x s) := by
  unfold busyFailure
  split
  · exact h
  · exact sound_returnGrant _ true h
  · exact sound_pollOver _ h
  · exact sound_traceBusy _ h (nothing_spares _)
  · exact sound_answerRelay _ _ h
  · exact sound_probeOver _ _ h

theorem sound_attemptAgain (x : Exchange) (w : RetryWait) (h : Sound v s) : Sound v (attemptAgain x w s) := by
  have hfree := sound_setUse .free h
  unfold attemptAgain
  dsimp only
  split
  · exact sound_returnGrant _ false hfree
  · exact sound_setRetry _ hfree

theorem sound_silent (x : Exchange) (h : Sound v s) : Sound v (silent x s) :=
  sound_ite (sound_attemptAgain _ _ h) (sound_noAnswerFailure x (sound_setUse .free h))

theorem sound_heardNothing (x : Exchange) (h : Sound v s) : Sound v (heardNothing x s) := by
  unfold heardNothing
  split
  · exact sound_silent x (sound_count _ h)
  · exact h

theorem sound_stalled (x : Exchange) (h : Sound v s) : Sound v (stalled x s) := by
  unfold stalled
  split
  · exact sound_silent x (sound_count _ h)
  · exact h

theorem sound_busyHeard (x : Exchange) (h : Sound .nothing s) : Sound .nothing (busyHeard x s) := by
  unfold busyHeard
  split
  · exact h
  · exact sound_ite (sound_attemptAgain _ _ (sound_count _ h)) (sound_busyFailure x (sound_setUse .free (sound_count _ h)))

theorem sound_wakeHeard (x : Exchange) (h : Sound v s) : Sound v (wakeHeard x s) := by
  unfold wakeHeard
  split
  · exact h
  · exact sound_ite (sound_silent x (sound_count _ h)) (sound_attemptAgain _ _ (sound_count _ h))

/-! ### Answers -/

theorem sound_answered (address : Byte) {f : Exchange → Col → State → State} (hf : ∀ x c, Sound v s → Sound v (f x c s))
    (h : Sound v s) : Sound v (answered address f s) := by
  unfold answered
  split
  · exact h
  · exact sound_ite (hf _ _ h) (sound_heardNothing _ h)

theorem sound_acceptPoll (l : List PositionReading) (x : Exchange) (c : Col) (h : Sound .nothing s) :
    Sound .nothing (acceptPoll l x c s) := by
  unfold acceptPoll
  split
  · exact sound_pollOver c (sound_ite (sound_pollAnswer c l (sound_setUse .free h)) (sound_setUse .free h))
  · exact h

theorem sound_acceptProbe (b : Byte) (x : Exchange) (c : Col) (h : Sound .nothing s) : Sound .nothing (acceptProbe b x c s) := by
  unfold acceptProbe
  split
  · exact sound_probeOver c _ (sound_probeAnswer c b (sound_setUse .free h))
  · exact h

theorem sound_acceptPulse (x : Exchange) (c : Col) (h : Sound v s) : Sound v (acceptPulse x c s) := by
  unfold acceptPulse
  split
  · exact sound_deliver _ _ (sound_setUse .free h)
  · exact h

theorem sound_acceptTrace (l : List PositionTrace) (x : Exchange) (c : Col) (h : Sound .nothing s) :
    Sound .nothing (acceptTrace l x c s) := by
  unfold acceptTrace
  split
  · exact sound_traceAnswer c l (sound_setUse .free h) (nothing_spares _)
  · exact h

theorem sound_acceptRelay (x : Exchange) (c : Col) (h : Sound v s) : Sound v (acceptRelay x c s) := by
  unfold acceptRelay
  split
  · exact sound_answerRelay _ _ (sound_setUse .free h)
  · exact h

/-! ### Polls and probes due, and what uses the bus next (R128, R132, R134) -/

theorem sound_markPolls (h : Sound v s) : Sound v (markPolls s) := sound_modColumns _ h

theorem sound_startRound (h : Sound v s) : Sound v (startRound s) := by
  unfold startRound
  exact sound_of_parts (sound_markPolls h) rfl

theorem sound_markProbes (h : Sound v s) : Sound v (markProbes s) := by
  unfold markProbes
  exact sound_setBus _ (sound_modColumns _ h)

theorem sound_startEnumeration (r : Option (Byte × Byte)) (h : Sound v s) : Sound v (startEnumeration r s) := by
  unfold startEnumeration
  exact sound_setBus _ (sound_modColumns _ h)

theorem sound_queuePoll (h : Sound v s) : Sound v (queuePoll s) := by
  unfold queuePoll
  split
  · exact h
  · split
    · exact h
    · exact sound_enqueueOp _ (sound_of_parts h rfl)

theorem sound_queueProbe (h : Sound v s) : Sound v (queueProbe s) := by
  unfold queueProbe
  split
  · exact h
  · split
    · exact h
    · exact sound_enqueueOp _ h

theorem sound_takeOp (op : Op) (h : Sound v s) : Sound v (takeOp op s) :=
  sound_ite (sound_of_parts h rfl) (sound_of_parts h rfl)

theorem sound_chooseBus (h : Sound v s) : Sound v (chooseBus s) := by
  unfold chooseBus
  split
  · exact h
  · exact h
  · split
    · exact sound_setUse _ (sound_takeOp _ h)
    · split
      · exact sound_ite (sound_setUse _ (sound_setRetry none h)) h
      · split
        · exact sound_setUse _ (sound_takeOp _ h)
        · exact h

theorem sound_chooseTx (h : Sound v s) : Sound v (chooseTx s) := by
  unfold chooseTx
  split
  · exact h
  · exact h
  · split
    · exact sound_of_parts h rfl
    · split
      · split
        · exact sound_of_parts h rfl
        · exact h
      · exact h

/-! ### Broadcasts, dormancy and the hold (R133, R148, R149, R209 to R211) -/

theorem sound_cutPulses (h : Sound v s) : Sound v (cutPulses s) := by
  unfold cutPulses
  exact sound_lookOver (sound_foldl (fun n h => sound_notePulseEnd n .cut (sound_leaveCommitted n h)) _ h)

theorem sound_sleepColumns (h : Sound v s) : Sound v (sleepColumns s) := by
  have hanswered : ∀ l : List Op, Sound v (l.foldl (fun s op => answerRelay .columnDown op s) (dropOps (relayToPresent s) s)) :=
    fun l => sound_foldl (fun o h => sound_answerRelay _ o h) l (sound_dropOps _ h)
  unfold sleepColumns
  dsimp only
  exact sound_foldl (fun c h => sound_columnAway c h) _ (sound_modColumns _ (sound_setBus _ (hanswered _)))

theorem sound_restartIdle (h : Sound v s) : Sound v (restartIdle s) := sound_of_parts h rfl

theorem sound_wakeCause (h : Sound v s) : Sound v (wakeCause s) := by
  unfold wakeCause
  exact sound_ite (sound_enqueueBroadcast .wakeAll (sound_of_parts h rfl)) h

theorem sound_wakeSettled (h : Sound v s) : Sound v (wakeSettled s) := by
  unfold wakeSettled
  dsimp only
  exact sound_lookOver (sound_setDormancy _ (sound_markPolls (sound_modColumns _ h)))

theorem sound_endWakeRound (h : Sound v s) : Sound v (endWakeRound s) := by
  unfold endWakeRound
  split
  · exact sound_restartIdle (sound_of_parts h rfl)
  · exact h

theorem sound_recallPulses (h : Sound v s) : Sound v (recallPulses s) := by
  have hdropped := sound_dropOps isPulse h
  unfold recallPulses
  refine sound_foldl (fun n h => sound_takeBack n h) _ ?_
  have hretried : ∀ l : List CompNo, Sound v (if l = [] then dropOps isPulse s else setRetry none (dropOps isPulse s)) :=
    fun l => sound_ite hdropped (sound_setRetry none hdropped)
  split
  · exact sound_ite (sound_setUse _ (hretried _)) (hretried _)
  · exact hretried _

theorem sound_holdOnset (src : HoldSource) (h : Sound v s) : Sound v (holdOnset src s) := by
  have hheld : Sound v { s with arbiter := { s.arbiter with holdActive := true } } := sound_of_parts h rfl
  unfold holdOnset
  exact sound_stopSweep .hold (sound_count _ (sound_raise _ (sound_enqueueBroadcast .holdAll (sound_recallPulses hheld))))

theorem sound_holdRelease (src : HoldSource) (h : Sound v s) : Sound v (holdRelease src s) := by
  unfold holdRelease
  exact sound_lookOver (sound_raise _ (sound_of_parts h rfl))

theorem sound_judgeHold (src : HoldSource) (h : Sound v s) : Sound v (judgeHold src s) := by
  unfold judgeHold
  split
  · exact sound_holdOnset src h
  · exact sound_holdRelease src h
  · exact h

theorem sound_senseHold (b : Bool) (h : Sound v s) : Sound v (senseHold b s) := by
  unfold senseHold
  exact sound_ite h (sound_judgeHold _ (sound_wakeCause (sound_of_parts h rfl)))

theorem sound_requestHold (b : Bool) (h : Sound v s) : Sound v (requestHold b s) := by
  unfold requestHold
  exact sound_ite h (sound_judgeHold _ (sound_wakeCause (sound_of_parts h rfl)))

/-! ### What follows every taking -/

theorem sound_settle (h : Sound v s) : Sound v (settle s) := by
  have hrounds := sound_endWakeRound (sound_walkOn (sound_startComputations (s.charge.queue.length + 1) h))
  have hchosen := sound_chooseTx (sound_chooseBus (sound_queueProbe (sound_queuePoll (sound_setBus
    (refill (endWakeRound (walkOn (chargeStarts s))).bus) hrounds))))
  unfold settle
  exact sound_ite hchosen (sound_restartIdle hchosen)

end Sys2Proof.Machine

/-! PROOFS. What the requests of the credential unit, the parcel store and the engines keep of the agreement (2.2 to 2.7,
3.2, 3.3, 5.2 to 5.5, 6.1 to 6.5). -/

namespace Sys2Proof.Machine

open Sys2Proof.Wire

variable {s t : State} {v : Awaited} {n m : CompNo} {k j : Slot} {h : Header} {p : Parcel}

/-! ### Where a request comes from, and what it names -/

theorem sound_fromOffice {f : State → State} (hf : Sound v s → Sound v (f s)) (hs : Sound v s) : Sound v (fromOffice h f s) := by
  unfold fromOffice
  split
  · exact hf hs
  · exact sound_refuse _ _ hs

theorem sound_fromTerminal {f : Term → State → State} (hf : ∀ t, Sound v s → Sound v (f t s)) (hs : Sound v s) :
    Sound v (fromTerminal h f s) := by
  unfold fromTerminal
  split
  · exact hf _ hs
  · exact sound_refuse _ _ hs

theorem sound_namingComp {b : Byte} {f : CompNo → State → State} (hf : ∀ n, Sound v s → Sound v (f n s)) (hs : Sound v s) :
    Sound v (namingComp h b f s) := by
  unfold namingComp
  split
  · exact hf _ hs
  · exact sound_refuse _ _ hs

theorem sound_readingComp {f : State → State} (hf : Sound v s → Sound v (f s)) (hs : Sound v s) :
    Sound v (readingComp h n f s) := by
  rw [readingComp, if_pos (hs.good.1 n)]
  exact hf hs

theorem sound_readingRecord {f : State → State} (hf : Sound v s → Sound v (f s)) (hs : Sound v s) :
    Sound v (readingRecord h k f s) := by
  rw [readingRecord, if_pos (hs.good.2.1 k)]
  exact hf hs

theorem sound_namingRecord {ref : Reference} {f : Slot → Parcel → State → State}
    (hf : ∀ k p, parcelAt k s = some p → Sound v s → Sound v (f k p s)) (hs : Sound v s) :
    Sound v (namingRecord h ref f s) := by
  unfold namingRecord
  split
  · exact sound_refuse _ _ hs
  · refine sound_readingRecord (fun hs => ?_) hs
    split
    · next hat => exact hf _ _ hat hs
    · exact sound_refuse _ _ hs

/-! ### The credential unit -/

theorem sound_verifyWays (l : List Way) (hs : Sound v s) : Sound v (verifyWays l s) :=
  sound_foldl (fun w hs => by rw [if_pos (hs.good.2.2 w)]; exact hs) l hs

theorem sound_refuseLockedOut (i : Nat) (hs : Sound v s) : Sound v (refuseLockedOut h i s) := sound_placeReply _ hs

theorem sound_beginLockout (t : Term) (hs : Sound v s) : Sound v (beginLockout h t s) :=
  sound_refuseLockedOut _ (sound_count _ (sound_modTerm t _ hs))

theorem sound_failedLookup (t : Term) (hs : Sound v s) : Sound v (failedLookup h t s) := by
  have hcounted := sound_count .wrongCodes hs
  unfold failedLookup
  exact sound_ite (sound_placeReply _ (sound_modTerm t _ hcounted)) (sound_beginLockout t hcounted)

theorem sound_resetFailures (t : Term) (hs : Sound v s) : Sound v (resetFailures t s) := sound_modTerm t _ hs

theorem sound_unlessLockedOut {f : State → State} (t : Term) (hf : Sound v s → Sound v (f s)) (hs : Sound v s) :
    Sound v (unlessLockedOut h t f s) := sound_ite (sound_refuseLockedOut _ hs) (hf hs)

theorem sound_presenting {needs : CredKind → Bool} {f : CredKind → State → State} {code : CodeValue} (t : Term)
    (hf : ∀ kind {s}, Sound v s → Sound v (f kind s)) (hs : Sound v s) : Sound v (presenting h t code needs f s) := by
  have hverified := sound_verifyWays (bucketWays code) hs
  unfold presenting lookingUp
  split
  · dsimp only
    split
    · exact hf _ hverified
    · exact sound_failedLookup t hverified
    · exact sound_refuse _ _ hverified
  · exact sound_refuse _ _ hs

theorem sound_signOnFitting (t : Term) (kind : CredKind) (hs : Sound v s) : Sound v (signOnFitting h t kind s) := by
  have hreset := sound_resetFailures t hs
  unfold signOnFitting
  dsimp only
  split
  · exact sound_ite (sound_refuse _ _ hreset) (sound_answer _ _ (sound_modTerm t _ hreset))
  · exact hreset

theorem sound_takeSignOn (code : CodeValue) (hs : Sound v s) : Sound v (takeSignOn h code s) :=
  sound_fromTerminal (fun t hs => sound_ite
    (sound_unlessLockedOut t (sound_presenting t fun kind _ hs => sound_signOnFitting t kind hs) hs) (sound_refuse _ _ hs)) hs

theorem sound_takeSignOff (hs : Sound v s) : Sound v (takeSignOff h s) := by
  refine sound_fromTerminal (fun t hs => ?_) hs
  split
  · exact sound_refuse _ _ hs
  · exact sound_ite (sound_refuse _ _ hs) (sound_answer _ _ (sound_signOff t hs))

theorem sound_insertCourier (code : CodeValue) (r : Route) (d w : Bool) (hs : Sound v s) :
    Sound v (insertCourier h code r d w s) := by
  unfold insertCourier
  split
  · exact sound_refuse _ _ hs
  · exact sound_refuse _ _ hs
  · exact sound_refuse _ _ hs
  · exact sound_answer _ _ (sound_setWay _ _ hs)

theorem sound_takeEnrol (code : CodeValue) (r d w : Byte) (hs : Sound v s) : Sound v (takeEnrol h code r d w s) := by
  refine sound_fromOffice (fun hs => ?_) hs
  split
  · exact sound_insertCourier _ _ _ _ (sound_verifyWays _ hs)
  · exact sound_refuse _ _ hs

theorem sound_removeCourierFrom (i : CourierNo) (hs : Sound v s) : Sound v (removeCourierFrom i s) := by
  refine sound_foldl (fun t hs => ?_) allTerms hs
  split
  · exact sound_ite (sound_courierRemoved t hs) hs
  · exact hs

theorem sound_takeRevoke (b : Byte) (hs : Sound v s) : Sound v (takeRevoke h b s) := by
  refine sound_fromOffice (fun hs => ?_) hs
  split
  · exact sound_refuse _ _ hs
  · split
    · exact sound_refuse _ _ hs
    · exact sound_answer _ _ (sound_removeCourierFrom _ (sound_freeWay _ hs))

/-! ### The parcel store (R46 to R49, R63) -/

theorem sound_insertAdvice (a : Advice) (hs : Sound v s) : Sound v (insertAdvice h a s) := by
  unfold insertAdvice
  split
  · exact sound_refuse _ _ hs
  next k rest hfree =>
  have hverified := sound_verifyWays (bucketWays a.code) hs
  have hstays : ∀ (l : List Way) (y : State), Sound v y → (verifyWays l y).parcels = y.parcels := fun l y hy =>
    congrArg State.parcels (foldl_of_fixed fun w _ => if_pos (hy.good.2.2 w))
  dsimp only
  split
  · exact sound_refuse _ _ hverified
  · exact sound_refuse _ _ hverified
  · next w _ =>
    refine sound_answer _ _ (sound_writeRecord (sound_setWay w _ hverified) ?_ rfl)
    rw [setWay_parcels, hstays _ s hs]
    exact hfree

theorem sound_verifyRecords (hs : Sound v s) : Sound v (verifyRecords s) :=
  sound_foldl (fun k hs => by rw [if_pos (hs.good.2.1 k)]; exact hs) _ hs

theorem sound_takeAdvise (a : AdviceFields) (hs : Sound v s) : Sound v (takeAdvise h a s) := by
  refine sound_fromOffice (fun hs => ?_) hs
  split
  · exact sound_refuse _ _ hs
  · exact sound_ite (sound_refuse _ _ (sound_verifyRecords hs)) (sound_insertAdvice _ (sound_verifyRecords hs))

theorem sound_retired (hs : Sound .nothing s) (hat : parcelAt k s = some p) : Sound .nothing (retireRecord k s) :=
  sound_retireRecord hs hat fun n _ => nothing_spares n

theorem sound_takeWithdraw (ref : Reference) (hs : Sound .nothing s) : Sound .nothing (takeWithdraw h ref s) :=
  sound_fromOffice (sound_namingRecord fun _ _ hat hs =>
    sound_ite (sound_answer _ _ (sound_retired hs hat)) (sound_refuse _ _ hs)) hs

theorem sound_replaceCode (code : CodeValue) (hs : Sound v s) : Sound v (replaceCode h k p code s) := by
  have hverified := sound_verifyWays (bucketWays code) hs
  unfold replaceCode
  dsimp only
  split
  · exact sound_refuse _ _ hverified
  · exact sound_refuse _ _ hverified
  · exact sound_answer _ _ (sound_setWay _ _ (sound_removeCredentialOf k hverified))

theorem sound_takeReissue (ref : Reference) (code : CodeValue) (hs : Sound v s) : Sound v (takeReissue h ref code s) :=
  sound_fromOffice (fun hs => sound_ite (sound_namingRecord (fun _ _ _ hs =>
    sound_ite (sound_refuse _ _ hs) (sound_replaceCode code hs)) hs) (sound_refuse _ _ hs)) hs

theorem sound_takeStatusCompartment (b : Byte) (hs : Sound v s) : Sound v (takeStatusCompartment h b s) :=
  sound_namingComp (fun _ => sound_readingComp fun hs => sound_answer _ _ hs) hs

theorem sound_statusTerminal (t : Term) (hs : Sound v s) : Sound v (statusTerminal h t k s) := by
  refine sound_ite (sound_readingRecord (fun hs => ?_) hs) (sound_refuse _ _ hs)
  split
  · exact sound_ite (sound_refuse _ _ hs) (sound_answer _ _ hs)
  · exact sound_refuse _ _ hs

theorem sound_takeStatusParcel (ref : Reference) (hs : Sound v s) : Sound v (takeStatusParcel h ref s) := by
  unfold takeStatusParcel
  split
  · exact sound_refuse _ _ hs
  · split
    · exact sound_statusTerminal _ hs
    · split
      · rw [statusOffice, if_pos (hs.good.2.1 _)]
        exact sound_answer _ _ hs
      · exact sound_refuse _ _ hs

theorem sound_takeTimeSet (m : Minute) (b : Byte) (hs : Sound v s) : Sound v (takeTimeSet h m b s) := by
  refine sound_fromOffice (fun hs => ?_) hs
  split
  · exact sound_refuse _ _ hs
  · exact sound_answer _ _ (sound_of_parts hs rfl)

/-! ### The deposit engine (R7, R8, R51 to R54) -/

theorem sound_unlessClockOrHold {f : State → State} (hf : Sound v s → Sound v (f s)) (hs : Sound v s) :
    Sound v (unlessClockOrHold h f s) :=
  sound_ite (sound_refuse _ _ hs) (sound_ite (sound_refuse _ _ hs) (hf hs))

/-- The compartment an allocation finds stands in a list (R7, R8). -/
theorem findCompartment_listed {cls : SizeClass} {up : Bool} (hfound : findCompartment cls up s = some n) :
    ∃ c, n ∈ listOf c s.freeLists := by
  obtain ⟨c, -, hc⟩ := List.exists_of_findSome?_eq_some hfound
  exact ⟨c, List.mem_of_find?_eq_some hc⟩

theorem sound_allocate (t : Term) (hat : parcelAt k s = some p) (hadvised : p.state = .advised) (hs : Sound v s) :
    Sound v (allocate h t k p s) := by
  unfold allocate
  split
  · exact sound_refuse _ _ hs
  · next n hfound =>
    obtain ⟨c, hlisted⟩ := findCompartment_listed hfound
    refine sound_readingComp (fun hs => sound_answer _ _ (sound_requestGrant n .deposit ?_)) hs
    exact sound_setMarker t _ (sound_setOpenJob t k (sound_takeCompartment hs hlisted hat hadvised))

theorem sound_depositOn (t : Term) (hat : parcelAt k s = some p) (hs : Sound v s) : Sound v (depositOn h t k p s) := by
  unfold depositOn
  split
  · exact sound_refuse _ _ hs
  · split
    · next hstate => exact sound_allocate t hat hstate hs
    · exact sound_refuse _ _ hs
    · exact sound_refuse _ _ hs

theorem sound_takeDeposit (ref : Reference) (hs : Sound v s) : Sound v (takeDeposit h ref s) := by
  refine sound_fromTerminal (fun t hs => ?_) hs
  dsimp only
  split
  · refine sound_ite (sound_refuse _ _ hs) (sound_ite (sound_refuse _ _ hs) (sound_ite (sound_refuse _ _ hs) ?_))
    exact sound_unlessClockOrHold (sound_namingRecord fun _ _ hat hs => sound_depositOn t hat hs) hs
  · exact sound_refuse _ _ hs

theorem sound_returnOn (t : Term) (hs : Sound v s) : Sound v (returnOn h t k s) := by
  refine sound_readingRecord (fun hs => ?_) hs
  split
  · exact sound_refuse _ _ hs
  · next hat =>
    split
    · next hstate => exact sound_allocate t hat hstate hs
    · exact sound_refuse _ _ hs
    · exact sound_refuse _ _ hs

theorem sound_customerAt {f : State → State} (t : Term) (hf : Sound v s → Sound v (f s)) (hs : Sound v s) :
    Sound v (customerAt h t f s) := by
  unfold customerAt
  split
  · exact sound_refuse _ _ hs
  · exact sound_ite (sound_refuse _ _ hs) (hf hs)

theorem sound_takeReturnDrop (code : CodeValue) (hs : Sound v s) : Sound v (takeReturnDrop h code s) := by
  refine sound_fromTerminal (fun t => sound_customerAt t (sound_unlessLockedOut t (sound_unlessClockOrHold
    (sound_presenting t fun kind s hs => ?_)))) hs
  split
  · exact sound_returnOn t (sound_resetFailures t hs)
  · exact hs

theorem sound_abandonOn (m : DepositMarker) (hs : Sound .nothing s) : Sound .nothing (abandonOn h m s) := by
  unfold abandonOn
  split
  · next hin =>
    have hlink : s.comps[m.comp].link = some m.slot := beq_iff_eq.mp (Bool.and_eq_true_iff.mp hin).2
    exact sound_answer _ _ (sound_depositBack _ (sound_withdraw m.comp hs) hlink (nothing_spares _))
  · exact sound_refuse _ _ hs

theorem sound_takeAbandon (hs : Sound .nothing s) : Sound .nothing (takeAbandon h s) := by
  refine sound_fromTerminal (fun t hs => ?_) hs
  split
  · exact sound_refuse _ _ hs
  · exact sound_readingComp (fun hs => sound_ite (sound_readingRecord (sound_abandonOn _) hs) (sound_refuse _ _ hs)) hs

/-! ### The collection engine (R81 to R92) -/

theorem sound_collectStored (t : Term) (hs : Sound v s) : Sound v (collectStored h t k p s) := by
  unfold collectStored startQuoting
  exact sound_ite (sound_refuse _ _ (sound_joinReturnQueue k false (sound_sweptBack k hs)))
    (sound_setCharge _ _ (sound_setContext t _ (sound_setOpenJob t k
      (sound_modParcel hs (fun _ => rfl) fun _ e => nomatch e))))

theorem sound_reopenRelease (t : Term) (hs : Sound v s) : Sound v (reopenRelease h t k n p s) := by
  unfold reopenRelease
  exact sound_answer _ _ (sound_releaseAndAsk .collect rfl (sound_setContext t _ (sound_setOpenJob t k (sound_setReopen _
    (sound_modParcel hs (fun _ => rfl) fun _ e => nomatch e)))))

theorem sound_collectableComp {f : CompNo → State → State} (t : Term) (hf : ∀ n {s}, Sound v s → Sound v (f n s))
    (hs : Sound v s) : Sound v (collectableComp h t p f s) := by
  unfold collectableComp
  split
  · exact sound_refuse _ _ hs
  · next n _ =>
    rw [if_pos (hs.good.1 n)]
    have hreset := sound_resetFailures t hs
    exact sound_ite (sound_refuse _ _ hs) (sound_ite (sound_refuse _ _ hreset) (hf n hreset))

theorem sound_collectOn (t : Term) (hs : Sound v s) : Sound v (collectOn h t k p s) := by
  have hrefused : ∀ c, Sound v (refuse h c (resetFailures t s)) := fun c => sound_refuse _ c (sound_resetFailures t hs)
  unfold collectOn
  split
  · exact sound_collectableComp t (fun _ _ hs => sound_collectStored t hs) hs
  · exact sound_collectableComp t (fun _ _ hs => sound_reopenRelease t hs) hs
  all_goals exact hrefused _

theorem sound_collectRecord (t : Term) (hs : Sound v s) : Sound v (collectRecord h t k s) := by
  rw [collectRecord, if_pos (hs.good.2.1 k)]
  split
  · exact sound_collectOn t hs
  · exact sound_refuse _ _ (sound_resetFailures t hs)

theorem sound_clearVoid (t : Term) (hs : Sound v s) : Sound v (clearVoid t s) := by
  unfold clearVoid
  split
  · exact sound_setContext t .none hs
  · exact hs

theorem sound_takeCollect (code : CodeValue) (hs : Sound v s) : Sound v (takeCollect h code s) := by
  refine sound_fromTerminal (fun t => sound_customerAt t fun hs => sound_unlessLockedOut t (fun hs =>
    sound_ite (sound_presenting t (fun kind s hs => ?_) hs) (sound_refuse _ _ hs)) (sound_clearVoid t hs)) hs
  split
  · exact sound_collectRecord t hs
  · exact hs

theorem sound_addTender (t : Term) (w : Nat) (owed total : Amount) (r : BitVec 32) (hs : Sound v s) :
    Sound v (addTender h t k n w owed total r s) := by
  have hadded : Sound v (modParcel k (fun p => { p with tendered := total }) s) :=
    sound_modParcel_same hs (fun _ => rfl) fun _ => rfl
  unfold addTender
  exact sound_ite (sound_answer _ _ (sound_setContext t _ hadded)) (sound_answer _ _ (sound_settlement t _ _ hadded))

theorem sound_tenderOn (t : Term) (w a : Nat) (r : BitVec 32) (hs : Sound v s) : Sound v (tenderOn h t k p w a r s) := by
  unfold tenderOn
  split
  · exact sound_readingComp (fun hs => sound_ite (sound_refuse _ _ hs) (sound_ite (sound_refuse _ _ hs)
      (sound_ite (sound_refuse _ _ hs) (sound_addTender t w _ _ r hs)))) hs
  · exact sound_refuse _ _ hs

theorem sound_tenderAt (t : Term) (a : Nat) (r : BitVec 32) (hs : Sound v s) : Sound v (tenderAt h t a r s) := by
  unfold tenderAt
  split
  · exact sound_refuse _ _ (sound_setContext t .none hs)
  · exact sound_refuse _ _ hs
  · exact sound_refuse _ _ hs
  · split
    · exact sound_answer _ _ hs
    · exact sound_refuse _ _ hs
  · split
    · exact sound_answer _ _ hs
    · refine sound_readingRecord (fun hs => ?_) hs
      split
      · exact sound_tenderOn t _ _ r hs
      · exact sound_refuse _ _ hs

theorem sound_takeTender (a : BitVec 24) (r : BitVec 32) (hs : Sound v s) : Sound v (takeTender h a r s) :=
  sound_fromTerminal (fun t hs => sound_ite (sound_tenderAt t _ r hs) (sound_refuse _ _ hs)) hs

theorem sound_giveUp (t : Term) (b : Bool) (hs : Sound v s) : Sound v (giveUp t k b p s) :=
  sound_setContext t .none (sound_endOpenJob t k b (sound_returnToStored k p.tendered hs))

theorem sound_discardCharge (k : Slot) (hs : Sound v s) : Sound v (discardCharge k s) :=
  sound_ite (sound_releasePlace (sound_setCharge _ _ hs)) hs

theorem sound_cancelOn (t : Term) (st : ParcelState) {discard : State → State} (hd : Sound v s → Sound v (discard s))
    (hs : Sound v s) : Sound v (cancelOn h t k st discard s) := by
  refine sound_readingRecord (fun hs => ?_) hs
  split
  · exact sound_ite (sound_answer _ _ (sound_giveUp t false (hd hs))) (sound_refuse _ _ hs)
  · exact sound_refuse _ _ hs

theorem sound_takeCancel (hs : Sound v s) : Sound v (takeCancel h s) := by
  refine sound_fromTerminal (fun t hs => ?_) hs
  split
  · exact sound_refuse _ _ (sound_setContext t .none hs)
  · exact sound_cancelOn t .quoting (sound_discardCharge _) hs
  · exact sound_cancelOn t .due id hs
  · exact sound_refuse _ _ hs
  · exact sound_refuse _ _ hs

theorem sound_lapse (t : Term) (hs : Sound v s) : Sound v (lapse t s) := by
  unfold lapse
  split
  · exact sound_onRecord hs fun _ _ _ => sound_giveUp t true hs
  · exact hs

/-! ### The return engine (R102, R103, R108, R110, R119) -/

theorem sound_startSweep (t : Term) (i : CourierInfo) (hs : Sound v s) : Sound v (startSweep h t i s) :=
  sound_answer _ _ (sound_walkOn (sound_setSweep_none hs rfl))

theorem sound_takeSweepStart (hs : Sound v s) : Sound v (takeSweepStart h s) := by
  refine sound_fromTerminal (fun t hs => ?_) hs
  dsimp only
  split
  · exact sound_ite (sound_refuse _ _ hs) (sound_ite (sound_refuse _ _ hs) (sound_ite (sound_refuse _ _ hs)
      (sound_ite (sound_refuse _ _ hs) (sound_ite (sound_refuse _ _ hs) (sound_startSweep t _ hs)))))
  · exact sound_refuse _ _ hs

theorem sound_takeSweepStop (hs : Sound v s) : Sound v (takeSweepStop h s) := by
  refine sound_fromTerminal (fun t hs => ?_) hs
  split
  · exact sound_refuse _ _ hs
  · split
    · exact sound_refuse _ _ hs
    · exact sound_ite (sound_answer _ _ (sound_stopSweep .stop hs)) (sound_refuse _ _ hs)

/-- A LOADED compartment takes a pending bar (R14, R108). -/
theorem sound_pendingBar (hs : Sound v s) (huse : s.comps[n].state ≠ .unfitted ∧ s.comps[n].state ≠ .vacant ∧
    s.comps[n].state ≠ .barred) : Sound v (modComp n (fun c => { c with pendingBar := true }) s) :=
  have hn := hs.entry n
  sound_modComp hs rfl ⟨fun _ hin => absurd hin (hn.not_listed huse.2.1 _), fun e => absurd e huse.2.1, hn.unlinked,
    fun _ => huse, hn.phase, hn.held, hn.resumed, hn.loop⟩

theorem barUnlessEmpty_parcels (n : CompNo) (s : State) : (barUnlessEmpty n s).parcels = s.parcels := by
  unfold barUnlessEmpty
  split <;> rfl

theorem sound_barUnlessEmpty (n : CompNo) (hs : Sound v s) : Sound v (barUnlessEmpty n s) := by
  unfold barUnlessEmpty
  split
  · next hloaded => exact sound_pendingBar hs (by rw [hloaded.1]; decide)
  · exact hs

theorem sound_takeRetire (ref : Reference) (hs : Sound .nothing s) : Sound .nothing (takeRetire h ref s) := by
  refine sound_fromOffice (sound_namingRecord fun k p hat hs => ?_) hs
  split
  · cases p.comp with
    | none => exact sound_answer _ _ (sound_retired hs hat)
    | some n =>
      dsimp only
      rw [hs.verifyComp n]
      refine sound_answer _ _ (sound_retired (p := p) (sound_barUnlessEmpty n hs) ?_)
      rw [parcelAt_of_parcels (barUnlessEmpty_parcels n s), hat]
  · exact sound_refuse _ _ hs

theorem sound_boundary (m : Minute) (hs : Sound v s) : Sound v (boundary m s) := by
  unfold boundary
  exact sound_ite hs (sound_ite (sound_of_parts hs rfl) (sound_of_parts hs rfl))

theorem sound_judgeExpiry (m : Minute) (hs : Sound v s) : Sound v (judgeExpiry k m s) := by
  unfold judgeExpiry
  split
  · exact hs
  · rw [hs.good.2.1 k, if_neg (by decide)]
    exact sound_ite (sound_joinReturnQueue k false (sound_sweptBack k hs)) hs

theorem sound_scanOn (k : Slot) (hs : Sound v s) : Sound v (scanOn k s) := by
  unfold scanOn
  dsimp only
  split
  · exact sound_of_parts hs rfl
  · exact sound_ite (sound_of_parts hs rfl) (sound_of_parts hs rfl)

theorem sound_scanVisit (hs : Sound v s) : Sound v (scanVisit s) :=
  sound_ite (sound_scanOn _ (sound_judgeExpiry _ hs)) hs

end Sys2Proof.Machine

/-! PROOFS. What the requests of the compartment manager, the column bus, the notice unit and the management unit keep of
the agreement (1.3, 1.6, 1.7, 7.3, 7.6, 10.1, 10.6, 11.1 to 11.3). -/

namespace Sys2Proof.Machine

open Sys2Proof.Wire

variable {s t : State} {v : Awaited} {n m : CompNo} {k j : Slot} {h : Header} {p : Parcel} {c d : Compartment}

/-! ### Entries of compartments under no job -/

/-- A compartment under no job and not in MAINT is in phase NONE, holds no close and is not marked resumed. -/
theorem EntryAgrees.idle_facts (hn : EntryAgrees v s n c) (hjob : isJob c.state = false) :
    (c.phase ≠ .none → c.state = .maint) ∧ s.doors.records[n].heldClose = none ∧ s.deposit.resumed[n] = false := by
  refine ⟨fun hp => (hn.phase hp).resolve_left (by rw [hjob]; decide), ?_, ?_⟩
  · by_contra e
    exact nomatch hjob.symm.trans (hn.held e).1
  · by_contra e
    exact nomatch hjob.symm.trans (hn.resumed (by simpa using e))

/-- An entry under no job, changed out of every list and into no job. -/
theorem EntryAgrees.idle (hn : EntryAgrees v s n c) (hjob : isJob c.state = false) (hout : ∀ cls, n ∉ listOf cls s.freeLists)
    (hlate : d.state = .vacant → v.late n ∨ d.door ≠ .closed)
    (hlink : d.state = .unfitted ∨ d.state = .vacant ∨ d.state = .maint → d.link = none)
    (hpending : d.pendingBar = true → d.state ≠ .unfitted ∧ d.state ≠ .vacant ∧ d.state ≠ .barred)
    (hphase : d.phase ≠ .none → d.state = .maint) (hmaint : d.state = .maint ↔ c.state = .maint) : EntryAgrees v s n d := by
  obtain ⟨-, hheld, hresumed⟩ := hn.idle_facts hjob
  refine ⟨fun cls hin => absurd hin (hout cls), fun hstate hdoor _ => .inl ((hlate hstate).resolve_right fun e => e hdoor), hlink,
    hpending, fun hp => .inr (hphase hp), fun e => absurd hheld e, fun e => ?_, hmaint.trans hn.loop⟩
  exact nomatch hresumed.symm.trans e

/-! ### BAR, UNBAR (R14, R16) -/

theorem sound_barOn (n : CompNo) (hs : Sound v s) : Sound v (barOn h n s) := by
  have hn := hs.entry n
  unfold barOn
  split
  · exact sound_refuse _ _ hs
  · exact sound_answer _ _ hs
  · next hvacant =>
    have hleft := sound_leaveFree n hs
    have hpending := hn.pending
    rw [hvacant] at hpending
    refine sound_answer _ _ ((sound_modComp hleft rfl ?_).notLate fun e => ?_)
    · refine (hleft.entry n).idle (by rw [leaveFree_comps, hvacant]; rfl) (not_mem_leaveFree n s) (fun e => nomatch e)
        (fun e => by simp at e) (fun e => absurd rfl (hpending e).2.1) (fun e => ?_)
        ⟨fun e => (nomatch e), fun e => nomatch hvacant.symm.trans e⟩
      exact nomatch hvacant.symm.trans (((hleft.entry n).idle_facts (by rw [leaveFree_comps, hvacant]; rfl)).1 e)
    · have hstate := e.1
      rw [modComp_state] at hstate
      cases hstate
  · next hunfitted hbarred hvacant => exact sound_answer _ _ (sound_pendingBar hs ⟨hunfitted, hvacant, hbarred⟩)

theorem sound_takeBar (b : Byte) (hs : Sound v s) : Sound v (takeBar h b s) :=
  sound_fromOffice (sound_namingComp fun n => sound_readingComp (sound_barOn n)) hs

/-- A BARRED compartment is VACANT without link, or LOADED with one (R16). -/
theorem sound_unbarTo {st : CompState} (hs : Sound v s) (hbarred : s.comps[n].state = .barred)
    (hst : st = .vacant ∧ s.comps[n].link = none ∨ st = .loaded) : Sound v (unbarTo n st s) := by
  have hlate := hs.withLate n
  have hn := hlate.entry n
  have hjob : isJob s.comps[n].state = false := by rw [hbarred]; rfl
  have hpending := hn.pending
  rw [hbarred] at hpending
  have hnot : st ≠ .maint ∧ st ≠ .unfitted := by rcases hst with ⟨rfl, -⟩ | rfl <;> decide
  refine sound_joinFree (sound_modComp hlate rfl (hn.idle hjob (hn.not_listed (by rw [hbarred]; decide)) (fun _ => .inl (.inr rfl))
    (fun e => ?_) (fun e => absurd rfl (hpending e).2.2) (fun e => ?_)
    ⟨fun e => absurd e hnot.1, fun e => nomatch hbarred.symm.trans e⟩))
  · rcases hst with ⟨-, hlink⟩ | rfl
    · exact hlink
    · simp at e
  · exact nomatch hbarred.symm.trans ((hn.idle_facts hjob).1 e)

theorem sound_unbarOn (n : CompNo) (hs : Sound v s) : Sound v (unbarOn h n s) := by
  have hn := hs.entry n
  unfold unbarOn
  dsimp only
  split
  · next hbarred =>
    refine sound_ite (sound_refuse _ _ hs) ?_
    split
    · next hlink => exact sound_answer _ _ (sound_unbarTo hs hbarred (.inl ⟨rfl, hlink⟩))
    · exact sound_ite (sound_refuse _ _ hs) (sound_answer _ _ (sound_unbarTo hs hbarred (.inr rfl)))
  · split
    · next hbar =>
      have huse := hn.pending hbar
      exact sound_answer _ _ (sound_modComp hs rfl ⟨fun _ hin => absurd hin (hn.not_listed huse.2.1 _),
        fun e => absurd e huse.2.1, hn.unlinked, fun e => (nomatch e), hn.phase, hn.held, hn.resumed, hn.loop⟩)
    · exact sound_refuse _ _ hs

theorem sound_takeUnbar (b : Byte) (hs : Sound v s) : Sound v (takeUnbar h b s) :=
  sound_fromOffice (sound_namingComp fun n => sound_readingComp (sound_unbarOn n)) hs

/-! ### The maintenance loop (R17 to R20) -/

/-- A VACANT compartment, or a BARRED one without link, enters the empty loop (R17). -/
theorem sound_enterLoop {o : MaintFrom} (hs : Sound v s) (hslot : s.maintSlot = none)
    (hstate : s.comps[n].state = .vacant ∨ s.comps[n].state = .barred) (hlink : s.comps[n].link = none) :
    Sound v (enterLoop n o s) := by
  have hleft := sound_leaveFree n hs
  have hn := hleft.entry n
  have hnone : ∀ m : CompNo, s.comps[m].state ≠ .maint := fun m e => by
    obtain ⟨l, hl, -⟩ := (hs.entry m).loop.mp e
    exact nomatch hslot.symm.trans hl
  have hjob : isJob s.comps[n].state = false := by rcases hstate with e | e <;> rw [e] <;> rfl
  obtain ⟨-, hheld, hresumed⟩ := hn.idle_facts hjob
  refine (sound_writeEntry (f := fun c => { c with state := .maint, phase := .none }) (slot := some { comp := n, origin := o })
    hleft rfl ⟨fun cls hin => absurd hin (not_mem_leaveFree n s cls), fun e => (nomatch e), fun _ => hlink, fun _ => by simp,
      fun e => absurd rfl e, fun e => absurd hheld e, fun e => (nomatch hresumed.symm.trans e),
      ⟨fun _ => ⟨_, rfl, rfl⟩, fun _ => rfl⟩⟩ fun m hm => ?_).notLate fun e => ?_
  · refine ⟨fun e => absurd e (hnone m), fun ⟨l, hl, hlm⟩ => ?_⟩
    cases hl
    exact absurd hlm.symm hm
  · have hmaint := e.1
    dsimp only at hmaint
    rw [modComp_state] at hmaint
    cases hmaint

theorem sound_takeMaintEnter (b : Byte) (hs : Sound v s) : Sound v (takeMaintEnter h b s) := by
  refine sound_fromOffice (sound_namingComp fun n hs => ?_) hs
  split
  · exact sound_refuse _ _ hs
  · next hslot =>
    have hslot : s.maintSlot = none := by simpa using hslot
    refine sound_readingComp (fun hs => ?_) hs
    split
    · next hvacant =>
      exact sound_answer _ _ (sound_enterLoop hs hslot (.inl hvacant) ((hs.entry n).unlinked (.inr (.inl hvacant))))
    · next hbarred hlink => exact sound_answer _ _ (sound_enterLoop hs hslot (.inr hbarred) hlink)
    · exact sound_refuse _ _ hs

theorem Sound.maint_of_slot (hs : Sound v s) {l : MaintSlot} (hslot : s.maintSlot = some l) (hn : l.comp = n) :
    s.comps[n].state = .maint :=
  (hs.entry n).loop.mpr ⟨l, hslot, hn⟩

theorem sound_testPulseOn (hs : Sound v s) (hmaint : s.comps[n].state = .maint) : Sound v (testPulseOn h n s) := by
  have hn := hs.entry n
  have hjob : isJob s.comps[n].state = false := by rw [hmaint]; rfl
  have hpulsed : Sound v (modComp n (fun c => { c with phase := .awaitGrant, attempts := 0 }) s) :=
    sound_modComp hs rfl (hn.idle hjob (hn.not_listed (by rw [hmaint]; decide)) (fun e => nomatch hmaint.symm.trans e) hn.unlinked
      hn.pending (fun _ => hmaint) Iff.rfl)
  unfold testPulseOn
  exact sound_ite (sound_refuse _ _ hs) (sound_ite (sound_refuse _ _ hs) (sound_ite (sound_refuse _ _ hs)
    (sound_ite (sound_refuse _ _ hs) (sound_answer _ _ (sound_requestGrant n .maint hpulsed)))))

theorem sound_takeTestPulse (b : Byte) (hs : Sound v s) : Sound v (takeTestPulse h b s) := by
  refine sound_fromOffice (sound_namingComp fun n hs => ?_) hs
  split
  · next hin =>
    unfold inLoop at hin
    split at hin
    · next l hslot =>
      have hmaint := hs.maint_of_slot hslot (beq_iff_eq.mp hin)
      exact sound_readingComp (fun hs => sound_testPulseOn hs hmaint) hs
    · cases hin
  · exact sound_refuse _ _ hs

theorem leftLoop_facts (o : MaintFrom) (c : Compartment) :
    ((leftLoop o c).state = .barred ∨ (leftLoop o c).state = .vacant) ∧ (leftLoop o c).phase = .none ∧
      (leftLoop o c).pendingBar = false ∧ (leftLoop o c).link = c.link := by
  unfold leftLoop
  split
  · exact ⟨.inl rfl, rfl, rfl, rfl⟩
  · split
    · exact ⟨.inl rfl, rfl, rfl, rfl⟩
    · next hbar => exact ⟨.inr rfl, rfl, by simpa using hbar, rfl⟩

theorem leaveLoop_written (o : MaintFrom) (hfitted : isFitted n s = true) : leaveLoop n o s =
    joinFree n { modComp n (leftLoop o) (stopJobTimers n s) with maintSlot := none } := by
  rw [leaveLoop_eq, loopLeft]
  have hfitted' : isFitted n (modComp n (leftLoop o) s) = isFitted n s := by
    rw [hfitted, isFitted_modComp]
    rcases (leftLoop_facts o s.comps[n]).1 with e | e <;> rw [e] <;> rfl
  rw [stopJobTimers_modComp hfitted']

theorem sound_leaveLoop (o : MaintFrom) (hs : Sound v s) (hv : v.spares n) (hmaint : s.comps[n].state = .maint) :
    Sound v (leaveLoop n o s) := by
  have hstopped := (sound_stopJobTimers hs hv).withLate n
  have hn := hstopped.entry n
  obtain ⟨hstate, hphase, hbar, hlink⟩ := leftLoop_facts o s.comps[n]
  rw [leaveLoop_written o ((isFitted_iff n s).mpr (by rw [hmaint]; decide))]
  refine sound_joinFree (sound_writeEntry hstopped hlink ⟨fun cls hin => absurd hin (hn.not_listed ?_ cls), fun _ _ _ => .inl (.inr rfl),
    fun _ => hlink.trans (hn.unlinked (.inr (.inr hmaint))), fun e => (nomatch hbar.symm.trans e), fun e => absurd hphase e,
    fun e => absurd (stopJobTimers_held n s) e, fun e => (nomatch (stopJobTimers_resumed n s).symm.trans e), ?_⟩ fun m hm => ?_)
  · show s.comps[n].state ≠ .vacant
    rw [hmaint]
    decide
  · refine ⟨fun e => ?_, fun ⟨l, hl, _⟩ => nomatch hl⟩
    rcases hstate with q | q <;> exact nomatch q.symm.trans e
  · refine ⟨fun e => ?_, fun ⟨l, hl, _⟩ => nomatch hl⟩
    obtain ⟨l, hl, hlm⟩ := (hs.entry m).loop.mp e
    obtain ⟨l', hl', hln⟩ := (hs.entry n).loop.mp hmaint
    cases hl.symm.trans hl'
    exact absurd (hlm.symm.trans hln) hm

theorem sound_exitOn (o : MaintFrom) (hs : Sound .nothing s) (hmaint : s.comps[n].state = .maint) :
    Sound .nothing (exitOn h n o s) := by
  unfold exitOn
  split
  · exact sound_answer _ _ (sound_leaveLoop o hs (nothing_spares n) hmaint)
  · exact sound_ite (sound_answer _ _ (sound_leaveLoop o (sound_withdraw n hs) (nothing_spares n) hmaint)) (sound_refuse _ _ hs)
  · exact sound_refuse _ _ hs
  · exact sound_refuse _ _ hs

theorem sound_takeMaintExit (b : Byte) (hs : Sound .nothing s) : Sound .nothing (takeMaintExit h b s) := by
  refine sound_fromOffice (sound_namingComp fun n hs => ?_) hs
  split
  · next l hslot =>
    split
    · next hcomp =>
      have hmaint := hs.maint_of_slot hslot hcomp
      exact sound_readingComp (fun hs => sound_exitOn _ hs hmaint) hs
    · exact sound_refuse _ _ hs
  · exact sound_refuse _ _ hs

/-! ### The map write (R4) -/

theorem mapWritable_facts (hn : EntryAgrees v s n c) (hw : mapWritable c = true) :
    (c.state = .unfitted ∨ c.state = .vacant ∨ c.state = .barred) ∧ c.link = none := by
  unfold mapWritable at hw
  split at hw
  · next hstate => exact ⟨.inl hstate, hn.unlinked (.inl hstate)⟩
  · next hstate => exact ⟨.inr (.inl hstate), hn.unlinked (.inr (.inl hstate))⟩
  · next hstate hlink => exact ⟨.inr (.inr hstate), hlink⟩
  · cases hw

theorem writable_facts (hn : EntryAgrees v s n c) (hstate : c.state = .unfitted ∨ c.state = .vacant ∨ c.state = .barred) :
    isJob c.state = false ∧ c.state ≠ .maint ∧ c.pendingBar = false ∧ c.phase = .none := by
  have hjob : isJob c.state = false := by rcases hstate with e | e | e <;> rw [e] <;> rfl
  have hmaint : c.state ≠ .maint := by rcases hstate with e | e | e <;> rw [e] <;> decide
  refine ⟨hjob, hmaint, ?_, ?_⟩
  · by_contra e
    obtain ⟨h1, h2, h3⟩ := hn.pending (by simpa using e)
    rcases hstate with q | q | q
    · exact h1 q
    · exact h2 q
    · exact h3 q
  · by_contra e
    exact hmaint ((hn.idle_facts hjob).1 e)

theorem sound_unfit (cls : SizeClass) (hs : Sound v s) (hv : v.spares n) (hw : mapWritable s.comps[n] = true) :
    Sound v (unfit n cls s) := by
  have hleft := sound_leaveFree n hs
  have hn := hleft.entry n
  obtain ⟨hstate, hlink⟩ := mapWritable_facts (hs.entry n) hw
  obtain ⟨hjob, hmaint, hbar, hphase⟩ := writable_facts (hs.entry n) hstate
  have hunfitted : Sound (v.withLate n) (modComp n (fun c =>
      { c with place := none, cls := cls, state := .unfitted, cause := none, suspect := false, door := .closed, occ := .empty })
      (leaveFree n s)) :=
    sound_modComp hleft rfl (hn.idle hjob (not_mem_leaveFree n s) (fun e => nomatch e) (fun _ => hlink)
      (fun e => nomatch hbar.symm.trans e) (fun e => absurd hphase e) ⟨fun e => (nomatch e), fun e => absurd e hmaint⟩)
  unfold unfit
  refine sound_modDoor_none (hunfitted.notLate fun e => ?_) hv.2 fun _ => rfl
  have hwritten := e.1
  rw [modComp_state] at hwritten
  cases hwritten

theorem sound_reclass (cls : SizeClass) (hs : Sound v s) : Sound v (reclass n cls s) := by
  have hn := hs.entry n
  unfold reclass
  split
  · exact sound_modComp hs rfl hn
  · split
    · next hin =>
      obtain ⟨-, hvacant, hclosed, hbar⟩ := hn.listed _ hin
      have hleft := sound_leaveFree n hs
      have hln := hleft.entry n
      exact sound_joinFree (sound_modComp hleft rfl ⟨fun c hc => absurd hc (not_mem_leaveFree n s c), fun _ _ _ => .inl (.inr rfl),
        hln.unlinked, hln.pending, hln.phase, hln.held, hln.resumed, hln.loop⟩)
    · next hout =>
      refine sound_modComp hs rfl ⟨fun c hc => ?_, fun hstate hdoor hbar => ?_, hn.unlinked, hn.pending, hn.phase, hn.held,
        hn.resumed, hn.loop⟩
      · obtain ⟨rfl, -⟩ := hn.listed c hc
        exact absurd hc hout
      · exact .inl ((hn.joined hstate hdoor hbar).resolve_right hout)

theorem sound_refit (p : MapPlace) (cls : SizeClass) (hs : Sound v s) (hv : v.spares n) (hw : mapWritable s.comps[n] = true) :
    Sound v (refit n p cls s) := by
  have hleft := sound_leaveFree n hs
  have hn := hleft.entry n
  obtain ⟨hstate, hlink⟩ := mapWritable_facts (hs.entry n) hw
  obtain ⟨hjob, hmaint, hbar, hphase⟩ := writable_facts (hs.entry n) hstate
  have hnot : (if s.comps[n].state = .barred then CompState.barred else .vacant) ≠ .maint := by split <;> decide
  have hplaced : Sound (v.withLate n) (modComp n (fun c =>
      { c with place := some p, cls := cls, door := .opened, occ := .uncertain
               state := if c.state = .barred then .barred else .vacant }) (leaveFree n s)) :=
    sound_modComp hleft rfl (hn.idle hjob (not_mem_leaveFree n s) (fun _ => .inl (.inr rfl)) (fun _ => hlink)
      (fun e => nomatch hbar.symm.trans e) (fun e => absurd hphase e) ⟨fun e => absurd e hnot, fun e => absurd e hmaint⟩)
  have hopen : (modComp n (fun c =>
      { c with place := some p, cls := cls, door := .opened, occ := .uncertain
               state := if c.state = .barred then .barred else .vacant }) (leaveFree n s)).comps[n].door = .opened := by
    rw [modComp_at, if_pos rfl]
    rfl
  have hstopped := sound_modDoor_none (hplaced.notLate fun e => nomatch hopen.symm.trans e.2.1) hv.2
    (f := fun d => { d with confirm := none, openLimit := none, traceStep := .none, heldClose := none, ajar := none
                            openSeconds := 0 }) fun _ => rfl
  have hbarred := sound_causeBar .mapMismatch hstopped hv
  unfold refit
  exact sound_ite (sound_ite (sound_raise _ hbarred) hbarred) hstopped

theorem sound_writePlace (place : Option MapPlace) (cls : SizeClass) (hs : Sound v s) (hv : v.spares n)
    (hw : mapWritable s.comps[n] = true) : Sound v (writePlace n place cls s) := by
  unfold writePlace
  split
  · exact sound_unfit cls hs hv hw
  · exact sound_ite (sound_reclass cls hs) (sound_refit _ cls hs hv hw)

theorem sound_judgeMapWrite {place : Option (Byte × Byte)} {cls : Byte} (hs : Sound .nothing s) :
    judgeMapWrite n place cls s = .ok t → Sound .nothing t := by
  unfold judgeMapWrite
  intro e
  split at e
  · cases e
  · next hw =>
    have hw : mapWritable s.comps[n] = true := by simpa using hw
    split at e
    · split at e
      · cases e
      · cases e
        exact sound_writePlace _ _ hs (nothing_spares n) hw
    · cases e
      exact sound_writePlace _ _ hs (nothing_spares n) hw
    · cases e

/-! ### The column bus, the notice unit, the counter bank and the record checker -/

theorem sound_takeRelay (a b : Byte) (l : List Byte) (hs : Sound v s) : Sound v (takeRelay h a b l s) := by
  unfold takeRelay
  split
  · exact sound_ite (sound_refuse _ _ hs) (sound_ite (sound_refuse _ _ hs) (sound_ite (sound_refuse _ _ hs) (sound_setBus _ hs)))
  · exact sound_refuse _ _ hs

theorem sound_takeEnumerate (hs : Sound v s) : Sound v (takeEnumerate h s) :=
  sound_fromOffice (fun hs => sound_ite (sound_refuse _ _ hs) (sound_ite (sound_refuse _ _ hs) (sound_startEnumeration _ hs))) hs

theorem sound_takeMaintTrace (b : Byte) (hs : Sound v s) : Sound v (takeMaintTrace h b s) := by
  refine sound_fromOffice (fun hs => ?_) hs
  split
  · exact sound_refuse _ _ hs
  · split
    · exact sound_refuse _ _ hs
    · exact sound_answer _ _ hs

theorem sound_modClass (c : NoticeClass) (f : ClassQueue → ClassQueue) (hs : Sound v s) : Sound v (modClass c f s) :=
  sound_of_parts hs rfl

theorem sound_takeMask (m : Vector Byte 12) (hs : Sound v s) : Sound v (takeMask h m s) := by
  refine sound_fromOffice (fun hs => ?_) hs
  split
  · exact sound_refuse _ _ hs
  · exact sound_answer _ _ (sound_foldl (fun c hs => sound_modClass c _ hs) allClasses hs)

theorem sound_drillNotice (step : Fin 8) (hs : Sound v s) : Sound v (drillNotice step s) := by
  unfold drillNotice
  split
  · exact sound_foldl (fun c hs => sound_modClass c _ hs) allClasses hs
  · exact sound_count _ (sound_raiseMarked _ _ _ hs)
  · exact sound_count _ (sound_raiseMarked _ _ _ hs)
  · exact sound_count _ (sound_raiseMarked _ _ _ hs)
  · exact sound_count _ (sound_raiseMarked _ _ _ hs)
  · exact sound_count _ (sound_raiseMarked _ _ _ hs)
  · exact sound_count _ (sound_raiseMarked _ _ _ hs)
  · exact sound_raiseMarked _ _ _ hs

theorem sound_takeDrillStep (hs : Sound v s) : Sound v (takeDrillStep h s) :=
  sound_fromOffice (fun hs => sound_answer _ _ (sound_drillNotice _ (sound_of_parts hs rfl))) hs

theorem sound_takeSnapshot (hs : Sound v s) : Sound v (takeSnapshot h s) :=
  sound_fromOffice (fun hs => sound_answer _ _ (sound_of_parts hs rfl)) hs

theorem sound_takeClearIntegrity (hs : Sound v s) : Sound v (takeClearIntegrity h s) :=
  sound_fromOffice (fun hs => sound_answer _ _ (sound_of_parts hs rfl)) hs

theorem sound_scrubVisit (hs : Sound v s) : Sound v (scrubVisit s) := by
  have hread : scrubEntry s.checker.cursor.val s = s := by
    unfold scrubEntry
    split
    · exact hs.verifyComp _
    · split
      · exact if_pos (hs.good.2.1 _)
      · split
        · exact if_pos (hs.good.2.2 _)
        · rfl
  unfold scrubVisit
  dsimp only
  rw [hread]
  exact sound_ite (sound_of_parts hs rfl) hs

/-! ### The management unit (11.1 to 11.3) -/

theorem sound_setCursor (c : TableCursor) (hs : Sound v s) : Sound v (setCursor c s) := sound_of_parts hs rfl

theorem sound_advance (hs : Sound v s) : Sound v (advance s) := sound_ite hs (sound_setCursor _ hs)

theorem sound_takeCursor (a : Byte) (i : BitVec 16) (b : Byte) (hs : Sound v s) : Sound v (takeCursor h a i b s) := by
  refine sound_fromOffice (fun hs => ?_) hs
  split
  · exact sound_answer _ _ (sound_setCursor _ hs)
  · exact sound_refuse _ _ hs

theorem sound_answerRead (b : Bool) (l : List Byte) (hs : Sound v s) : Sound v (answerRead h b l s) :=
  sound_answer _ _ (sound_ite (sound_advance hs) hs)

theorem sound_readQueue (hs : Sound v s) : Sound v (readQueue h s) := by
  unfold readQueue
  dsimp only
  split
  · exact sound_refuse _ _ hs
  · split
    · exact sound_answerRead _ _ (sound_setCursor _ hs)
    · exact sound_refuse _ _ hs

theorem sound_readAt (t : TableId) (i : Nat) (hs : Sound v s) : Sound v (readAt h t i s) := by
  have hread : ∀ l, Sound v (answerRead h false l s) := fun l => sound_answerRead false l hs
  have hrefused := sound_refuse h .noMatch hs
  unfold readAt
  cases t with
  | returnQueue => exact sound_readQueue hs
  | map =>
    dsimp only
    split
    · exact sound_readingComp (fun hs => sound_answerRead _ _ hs) hs
    · exact hrefused
  | parcel =>
    dsimp only
    split
    · exact sound_readingRecord (fun hs => sound_answerRead _ _ hs) hs
    · exact hrefused
  | credential =>
    dsimp only
    split
    · rw [if_pos (hs.good.2.2 _)]
      exact hread _
    · exact hrefused
  | tariff | peak | column | counters | snapshot =>
    dsimp only
    split
    · exact hread _
    · exact hrefused

theorem sound_takeRead (hs : Sound v s) : Sound v (takeRead h s) := sound_fromOffice (sound_readAt _ _) hs

theorem sound_judgedWrite {r : Except ReplyCode State} (hr : ∀ t, r = .ok t → Sound v t) (hs : Sound v s) :
    Sound v (judgedWrite h r s) := by
  cases r with
  | ok t => exact sound_answer _ _ (sound_ite (sound_advance (hr t rfl)) (hr t rfl))
  | error c => exact sound_refuse _ c hs

theorem sound_takeWriteTariff (f : PlanFields) (hs : Sound v s) : Sound v (takeWriteTariff h f s) := by
  refine sound_fromOffice (fun hs => sound_judgedWrite (fun t e => ?_) hs) hs
  unfold judgePlanWrite at e
  split at e
  · cases e; exact sound_of_parts hs rfl
  · cases e

theorem sound_takeWritePeak (a b c : BitVec 16) (hs : Sound v s) : Sound v (takeWritePeak h a b c s) := by
  refine sound_fromOffice (fun hs => sound_judgedWrite (fun t e => ?_) hs) hs
  unfold judgePeakWrite at e
  split at e
  · split at e
    · cases e; exact sound_of_parts hs rfl
    · cases e
  · cases e

theorem sound_modConfig (f : ConfigRecord → ConfigRecord) (hs : Sound v s) : Sound v (modConfig f s) := sound_of_parts hs rfl

theorem sound_takeWriteColumn (a b c : Byte) (hs : Sound v s) : Sound v (takeWriteColumn h a b c s) := by
  refine sound_fromOffice (fun hs => sound_judgedWrite (fun t e => ?_) hs) hs
  unfold judgePermissionWrite at e
  split at e
  · cases e; exact sound_modConfig _ hs
  · cases e

theorem sound_takeWriteMap (place : Option (Byte × Byte)) (cls : Byte) (hs : Sound .nothing s) :
    Sound .nothing (takeWriteMap h place cls s) := by
  refine sound_fromOffice (fun hs => ?_) hs
  split
  · exact sound_readingComp (fun hs => sound_judgedWrite (fun _ => sound_judgeMapWrite hs) hs) hs
  · exact sound_refuse _ _ hs

theorem sound_configChanged (c : ConfigRecord) (hs : Sound v s) : Sound v (configChanged c s) := by
  have hscan : Sound v (if c.expiryScan && !(cfg s).expiryScan then setScanner { s.returns.scanner with due := false } s else s) :=
    sound_ite (sound_of_parts hs rfl) hs
  have hidle : Sound v (if c.idle ≠ (cfg (if c.expiryScan && !(cfg s).expiryScan then
      setScanner { s.returns.scanner with due := false } s else s)).idle then
      restartIdle (if c.expiryScan && !(cfg s).expiryScan then setScanner { s.returns.scanner with due := false } s else s)
      else (if c.expiryScan && !(cfg s).expiryScan then setScanner { s.returns.scanner with due := false } s else s)) :=
    sound_ite (sound_restartIdle hscan) hscan
  unfold configChanged
  exact sound_ite (sound_lookOver hidle) hidle

theorem sound_takeConfigSet (l : List (Byte × BitVec 16)) (hs : Sound v s) : Sound v (takeConfigSet h l s) := by
  refine sound_fromOffice (fun hs => ?_) hs
  dsimp only
  have hchanged := fun c f => sound_configChanged c (sound_modConfig f hs)
  split
  · split
    · exact sound_answer _ _ (sound_of_parts (hchanged _ _) rfl)
    · exact sound_answer _ _ (hchanged _ _)
  · exact sound_refuse _ _ hs

theorem sound_takeConfigGet (hs : Sound v s) : Sound v (takeConfigGet h s) := sound_fromOffice (fun hs => sound_answer _ _ hs) hs

theorem sound_takeHold (hs : Sound v s) : Sound v (takeHold h s) :=
  sound_fromOffice (fun hs => sound_answer _ _ (sound_requestHold true hs)) hs

theorem sound_takeUnhold (hs : Sound v s) : Sound v (takeUnhold h s) :=
  sound_fromOffice (fun hs => sound_answer _ _ (sound_requestHold false hs)) hs

theorem sound_clearRecord (hs : Sound .nothing s) (hat : parcelAt k s = some p) : Sound .nothing (clearRecord h k p s) := by
  unfold clearRecord
  cases p.comp with
  | none => exact sound_answer _ _ (sound_retired hs hat)
  | some n =>
    dsimp only
    rw [hs.verifyComp n]
    exact sound_answer _ _ (sound_retired hs hat)

theorem sound_namingSlot {w : BitVec 16} {f : Slot → Parcel → State → State}
    (hf : ∀ k p, parcelAt k s = some p → Sound v s → Sound v (f k p s)) (hs : Sound v s) : Sound v (namingSlot h w f s) := by
  unfold namingSlot
  split
  · exact sound_refuse _ _ hs
  · split
    · exact sound_refuse _ _ hs
    · next hat => exact hf _ _ hat hs

theorem sound_takeClearStranded (w : BitVec 16) (hs : Sound .nothing s) : Sound .nothing (takeClearStranded h w s) :=
  sound_fromOffice (sound_namingSlot fun _ _ hat => sound_readingRecord fun hs =>
    sound_ite (sound_clearRecord hs hat) (sound_refuse _ _ hs)) hs

theorem sound_takeClearQuarantine (w : BitVec 16) (hs : Sound .nothing s) : Sound .nothing (takeClearQuarantine h w s) :=
  sound_fromOffice (sound_namingSlot fun _ _ hat hs => sound_ite (sound_clearRecord hs hat) (sound_refuse _ _ hs)) hs

end Sys2Proof.Machine

/-! PROOFS. What the resolution of the jobs in flight leaves standing at a warm start and an engine restart, whatever
entries it meets damaged (R9, R61, R100, R121, R207). -/

namespace Sys2Proof.Machine

variable {a s t : State} {n m : CompNo} {k j : Slot} {p : Parcel}

/-! ### The parts that no resolution changes -/

/-- The parts of the state that the jobs in flight do not reach at a start. -/
structure StartParts where
  link : LinkInterface
  terms : Vector TermContext 4
  markers : Vector (Option DepositMarker) 4
  charge : ChargeEngine
  contexts : Vector QuoteContext 4
  sweep : Option Sweep
  scanner : Scanner
  arbiter : Arbiter
  bus : ColumnBus
  dormancy : Dormancy
  doors : DoorSupervisor
  mgmt : ManagementUnit
  time : TimeBase
  lines : Lines

/-- The parts of a state that the jobs in flight do not reach at a start. -/
def startParts (s : State) : StartParts :=
  { link := s.link, terms := s.creds.terms, markers := s.deposit.markers, charge := s.charge, contexts := s.collection.contexts
    sweep := s.returns.sweep, scanner := s.returns.scanner, arbiter := s.arbiter, bus := s.bus, dormancy := s.dormancy
    doors := s.doors, mgmt := s.mgmt, time := s.time, lines := s.lines }

/-- The jobs in flight find every engine at rest: no open job, marker, computation, quote context, sweep or waiting
request, and the door records stopped. -/
structure AtStart (s : State) : Prop where
  jobless : ∀ u : Term, s.creds.terms[u].openJob = none
  unmarked : ∀ u : Term, s.deposit.markers[u] = none
  uncharged : s.charge.queue = []
  idle : s.charge.running = none
  unquoted : ∀ u : Term, s.collection.contexts[u] = .none
  unswept : s.returns.sweep = none
  nothingWaits : s.arbiter.waiting = []
  stopped : ∀ m : CompNo, s.doors.records[m] = Cold.doorRecord

theorem AtStart.of_parts (h : AtStart s) (e : startParts t = startParts s) : AtStart t := by
  simp only [startParts, StartParts.mk.injEq] at e
  obtain ⟨-, hterms, hmarkers, hcharge, hcontexts, hsweep, -, harbiter, -, -, hdoors, -, -, -⟩ := e
  refine ⟨?_, ?_, ?_, ?_, ?_, ?_, ?_, ?_⟩
  · rw [hterms]; exact h.jobless
  · rw [hmarkers]; exact h.unmarked
  · rw [hcharge]; exact h.uncharged
  · rw [hcharge]; exact h.idle
  · rw [hcontexts]; exact h.unquoted
  · rw [hsweep]; exact h.unswept
  · rw [harbiter]; exact h.nothingWaits
  · rw [hdoors]; exact h.stopped

/-- The engines are at rest as they were at the start `a`. -/
structure StartKept (a s : State) : Prop where
  atStart : AtStart s
  parts : startParts s = startParts a

theorem StartKept.of_parts (h : StartKept a s) (e : startParts t = startParts s) : StartKept a t :=
  ⟨h.atStart.of_parts e, e.trans h.parts⟩

theorem kept_foldl {α : Type} {f : State → α → State} (hf : ∀ {s} x, StartKept a s → StartKept a (f s x)) (l : List α)
    (h : StartKept a s) : StartKept a (l.foldl f s) := by
  induction l generalizing s with
  | nil => exact h
  | cons x l ih => exact ih (hf x h)

theorem kept_ite {q : Prop} [Decidable q] (h : StartKept a s) (g : StartKept a t) : StartKept a (if q then s else t) := by
  split <;> assumption

/-! ### What finds nothing to do at a start -/

theorem AtStart.endJobsOn (h : AtStart s) (k : Slot) : endJobsOn k s = s :=
  endJobsOn_of_none fun u e => nomatch (h.jobless u).symm.trans e

theorem AtStart.clearMarkers (h : AtStart s) (k : Slot) : clearMarkers k s = s :=
  foldl_of_fixed fun u _ => by rw [h.unmarked u]

theorem AtStart.depositOver (h : AtStart s) (k : Slot) : depositOver k s = s := by
  rw [Machine.depositOver, h.clearMarkers, h.endJobsOn]

theorem AtStart.setContextsOn (h : AtStart s) (k : Slot) (f : QuoteContext → QuoteContext) : setContextsOn k f s = s :=
  foldl_of_fixed fun u _ => by
    dsimp only
    rw [h.unquoted u]
    exact if_neg fun e => nomatch e

theorem AtStart.collectionOver (h : AtStart s) (k : Slot) : collectionOver k s = s := by
  rw [Machine.collectionOver, h.setContextsOn, h.endJobsOn]

theorem AtStart.sweepResolved (h : AtStart s) (k : Slot) (c : SweepCount) : sweepResolved k c s = s := by
  rw [Machine.sweepResolved, h.unswept]

theorem AtStart.withdraw (h : AtStart s) (n : CompNo) : withdraw n s = s := by
  have he : s.arbiter.waiting.filter (fun r => r.comp != n) = s.arbiter.waiting := by rw [h.nothingWaits]; rfl
  rw [Machine.withdraw, he]

/-- A door record stopped already. -/
theorem AtStart.modDoor (h : AtStart s) (n : CompNo) {f : DoorRecord → DoorRecord} (hf : f Cold.doorRecord = Cold.doorRecord) :
    modDoor n f s = s := by
  have he : s.doors.records.set n.val (if isFitted n s then f s.doors.records[n] else Cold.doorRecord) n.isLt =
      s.doors.records := by
    ext i hi
    rw [Vector.getElem_set, h.stopped n, hf, ite_self]
    split
    · next e => exact (h.stopped ⟨i, hi⟩).symm
    · rfl
  rw [Machine.modDoor, he]

theorem AtStart.stopJobTimers (h : AtStart s) (n : CompNo) : stopJobTimers n s = setResumed n false s := by
  rw [Machine.stopJobTimers, h.modDoor n rfl]

theorem AtStart.dropCharge (h : AtStart s) (k : Slot) : dropCharge k s = s := by
  have hcharge : ∀ c : ChargeEngine, c.queue = [] → c.running = none →
      { c with
        queue := c.queue.filter (fun e => e.slot != k)
        running := match c.queue with
          | e :: _ => if e.slot = k then none else c.running
          | [] => c.running } = c := by
    rintro ⟨plans, peaks, queue, running⟩ rfl rfl
    rfl
  exact congrArg (fun c => { s with charge := c }) (hcharge s.charge h.uncharged h.idle)

/-! ### The manager's changes, and the ends of jobs -/

theorem StartKept.clearMarkers (h : StartKept a s) (k : Slot) : StartKept a (clearMarkers k s) := by
  rw [h.atStart.clearMarkers]
  exact h

theorem StartKept.depositOver (h : StartKept a s) (k : Slot) : StartKept a (depositOver k s) := by
  rw [h.atStart.depositOver]
  exact h

theorem StartKept.collectionOver (h : StartKept a s) (k : Slot) : StartKept a (collectionOver k s) := by
  rw [h.atStart.collectionOver]
  exact h

theorem StartKept.sweepResolved (h : StartKept a s) (k : Slot) (c : SweepCount) : StartKept a (sweepResolved k c s) := by
  rw [h.atStart.sweepResolved]
  exact h

theorem StartKept.setFreeLists (h : StartKept a s) (l : FreeLists) : StartKept a { s with freeLists := l } := h.of_parts rfl

theorem StartKept.modComp (h : StartKept a s) (n : CompNo) (f : Compartment → Compartment) : StartKept a (modComp n f s) :=
  h.of_parts rfl

theorem StartKept.setParcel (h : StartKept a s) (k : Slot) (p : Parcel) : StartKept a (setParcel k p s) := h.of_parts rfl

theorem StartKept.modParcel (h : StartKept a s) (k : Slot) (f : Parcel → Parcel) : StartKept a (modParcel k f s) := by
  unfold Machine.modParcel
  split
  · exact h.setParcel k _
  · exact h

theorem StartKept.raiseMarked (h : StartKept a s) (b : NoticeBody) (drill sensor : Bool) :
    StartKept a (raiseMarked b drill sensor s) := h.of_parts rfl

theorem StartKept.raise (h : StartKept a s) (b : NoticeBody) : StartKept a (raise b s) := h.of_parts rfl

theorem StartKept.setResumed (h : StartKept a s) (n : CompNo) (b : Bool) : StartKept a (setResumed n b s) := h.of_parts rfl

theorem StartKept.stopJobTimers (h : StartKept a s) (n : CompNo) : StartKept a (stopJobTimers n s) := by
  rw [h.atStart.stopJobTimers]
  exact h.setResumed n false

theorem StartKept.withdraw (h : StartKept a s) (n : CompNo) : StartKept a (withdraw n s) := by
  rw [h.atStart.withdraw]
  exact h

theorem StartKept.joinFree (h : StartKept a s) (n : CompNo) : StartKept a (joinFree n s) := kept_ite (h.of_parts rfl) h

theorem StartKept.unlink (h : StartKept a s) (n : CompNo) : StartKept a (unlink n s) := by
  unfold Machine.unlink
  dsimp only
  split
  · exact (h.modParcel _ _).modComp n _
  · exact h.modComp n _

theorem StartKept.free (h : StartKept a s) (n : CompNo) : StartKept a (free n s) := by
  have hfreed := ((((h.unlink n).withdraw n).stopJobTimers n).modComp n fun c =>
    if c.pendingBar then
      { c with state := .barred, cause := some .management, pendingBar := false, phase := .none, attempts := 0, suspect := false }
    else { c with state := .vacant, phase := .none, attempts := 0, suspect := false }).joinFree n
  unfold Machine.free
  split
  · exact hfreed
  · exact hfreed
  · exact hfreed
  · exact hfreed
  · exact hfreed
  · exact (h.unlink n).withdraw n
  · exact h

theorem StartKept.leaveReturnQueue (h : StartKept a s) (k : Slot) : StartKept a (leaveReturnQueue k s) := by
  unfold Machine.leaveReturnQueue
  refine kept_ite (h.of_parts ?_) h
  dsimp only [startParts]
  rw [h.atStart.unswept]
  rfl

theorem StartKept.joinReturnQueue (h : StartKept a s) (k : Slot) (b : Bool) : StartKept a (joinReturnQueue k b s) := by
  have hjoined : StartKept a (if k ∈ s.returns.queue then s
      else { s with returns := { s.returns with queue := s.returns.queue ++ [k] } }) := kept_ite h (h.of_parts rfl)
  unfold Machine.joinReturnQueue
  dsimp only
  split
  · exact hjoined.raiseMarked _ _ _
  · exact hjoined

theorem StartKept.setMaintSlot (h : StartKept a s) (o : Option MaintSlot) : StartKept a { s with maintSlot := o } := h.of_parts rfl

theorem StartKept.leaveFree (h : StartKept a s) (n : CompNo) : StartKept a (leaveFree n s) := h.of_parts rfl

theorem StartKept.barredWith (h : StartKept a s) (n : CompNo) (c : Option BarCause) : StartKept a (barredWith n c s) :=
  (((h.leaveFree n).withdraw n).modComp n _).stopJobTimers n

theorem StartKept.barWithoutReport (h : StartKept a s) (n : CompNo) (c : BarCause) : StartKept a (barWithoutReport n c s) := by
  by_cases hfitted : s.comps[n].state = .unfitted
  · rw [barWithoutReport_unfitted hfitted]
    exact h
  · rw [barWithoutReport_fitted hfitted]
    exact kept_ite ((h.barredWith n _).setMaintSlot none) (h.barredWith n _)

/-! ### Damaged entries, and records that return to STORED -/

theorem StartKept.reportFailure (h : StartKept a s) (c : CheckedTable) (i : Nat) : StartKept a (reportFailure c i s) :=
  h.of_parts rfl

theorem StartKept.failedEntry (h : StartKept a s) (n : CompNo) : StartKept a (failedEntry n s) := by
  have hleft := h.leaveFree n
  have hunlinked := hleft.modComp n fun c => { c with link := none }
  unfold Machine.failedEntry
  refine StartKept.reportFailure (kept_ite ?_ ((hleft.modComp n _).barWithoutReport n _)) _ _
  rw [hunlinked.atStart.modDoor n rfl]
  exact hunlinked

theorem StartKept.barFound (h : StartKept a s) (n : CompNo) : StartKept a (barFound n s) :=
  kept_ite (h.barWithoutReport n _) (h.failedEntry n)

theorem StartKept.setReopen (h : StartKept a s) (l : List ReopenEntry) : StartKept a (setReopen l s) := h.of_parts rfl

/-- What is left of a record's failure once no charge entry, context or sweep holds its slot. -/
theorem StartKept.failedCharged (h : StartKept a s) (k : Slot) : StartKept a (failedCharged k [] s) := by
  unfold Machine.failedCharged
  dsimp only [List.foldl_nil]
  rw [h.atStart.setContextsOn]
  exact ((h.setReopen _).sweepResolved k .failed).reportFailure _ _

theorem StartKept.failedUncharged (h : StartKept a s) (d : Option CompNo) (k : Slot) (p : Parcel) :
    StartKept a (failedUncharged d k p s) := by
  have hwritten := fun c => h.setParcel k { p with state := .quarantined, comp := c }
  have hout : StartKept a (Machine.leaveReturnQueue k ((compartmentNaming k s).elim
      (Machine.setParcel k { p with state := .quarantined, comp := compartmentNaming k s } s) fun n =>
      Machine.barFound n (Machine.setParcel k { p with state := .quarantined, comp := compartmentNaming k s } s))) := by
    refine StartKept.leaveReturnQueue ?_ k
    cases compartmentNaming k s with
    | none => exact hwritten none
    | some n => exact (hwritten (some n)).barFound n
  rw [failedUncharged_elim]
  dsimp only
  generalize Machine.leaveReturnQueue k _ = out at hout ⊢
  cases d with
  | none => exact hout
  | some n => exact (hout.raise _).clearMarkers k

theorem StartKept.failedRecord (h : StartKept a s) (d : Option CompNo) (k : Slot) (p : Parcel) :
    StartKept a (failedRecord d k p s) := by
  have huncharged := h.failedUncharged d k p
  have hnone : s.charge.queue.filter (fun e => e.slot == k) = [] := by rw [h.atStart.uncharged]; rfl
  rw [failedRecord_eq, hnone, huncharged.atStart.dropCharge]
  exact huncharged.failedCharged k

theorem StartKept.quarantineIn (h : StartKept a s) (d : Option CompNo) (k : Slot) : StartKept a (quarantineIn d k s) := by
  unfold Machine.quarantineIn
  split
  · exact h
  · next p _ =>
    have hfailed := h.failedRecord ((markerComp k s).or d) k p
    rw [hfailed.atStart.endJobsOn]
    exact hfailed

theorem StartKept.onRecordElse (h : StartKept a s) {bad : State → State} {expected : List ParcelState}
    {f : Parcel → State → State} (hbad : StartKept a (bad s)) (hf : ∀ p, StartKept a (f p s)) :
    StartKept a (onRecordElse bad k expected f s) := by
  unfold Machine.onRecordElse
  split
  · exact h
  · exact kept_ite (kept_ite (hf _) h) hbad

theorem StartKept.onRecord (h : StartKept a s) {expected : List ParcelState} {f : Parcel → State → State}
    (hf : ∀ p, StartKept a (f p s)) : StartKept a (onRecord k expected f s) :=
  h.onRecordElse (h.quarantineIn (depositComp k s) k) hf

theorem StartKept.returnToStored (h : StartKept a s) (k : Slot) (credit : Amount) : StartKept a (returnToStored k credit s) := by
  unfold Machine.returnToStored
  split
  · exact h
  · exact kept_ite ((h.setParcel k _).joinReturnQueue k false) (h.setParcel k _)

theorem StartKept.endReopen (h : StartKept a s) (k : Slot) : StartKept a (endReopen k s) :=
  have hleft := h.setReopen (s.collection.reopen.filter (fun e => e.slot != k))
  hleft.onRecord fun _ => hleft.returnToStored k _

theorem StartKept.joinReopen (h : StartKept a s) (k : Slot) : StartKept a (joinReopen k s) :=
  have hjoined := h.setReopen (s.collection.reopen.filter (fun e => e.slot != k) ++ [{ slot := k, left := (cfg s).reopen }])
  kept_ite (hjoined.endReopen k) hjoined

/-! ### The engine of a barred compartment's job -/

theorem StartKept.depositBarred (h : StartKept a s) (n : CompNo) (k : Slot) (before : DoorPhase) :
    StartKept a (depositBarred n k before s) := by
  refine h.onRecordElse (h.quarantineIn (some n) k) fun p => ?_
  have hsuspect := (h.modParcel k fun p =>
    { p with state := filledState p.kind, arrival := some s.time.minute, suspect := true }).raise
      (.deposit p.ref (compByte n) .barred (some s.time.minute))
  refine StartKept.depositOver (kept_ite ?_ (((h.free n).modParcel k _).raise _)) k
  dsimp only
  split
  · exact hsuspect
  · exact hsuspect.joinReturnQueue k false

theorem StartKept.collectionBarred (h : StartKept a s) (n : CompNo) (k : Slot) : StartKept a (collectionBarred n k s) :=
  h.onRecord fun _ => ((h.returnToStored k _).raise _).collectionOver k

theorem StartKept.sweepBarred (h : StartKept a s) (k : Slot) : StartKept a (sweepBarred k s) :=
  h.onRecord fun _ => (h.modParcel k _).sweepResolved k .failed

theorem StartKept.tellEngine (h : StartKept a s) (n : CompNo) (before : Compartment) : StartKept a (tellEngine n before s) := by
  unfold Machine.tellEngine
  split
  · exact h
  · split
    · exact h.depositBarred n _ _
    · exact h.depositBarred n _ _
    · exact h.collectionBarred n _
    · exact h.sweepBarred _
    · exact h

theorem StartKept.onComp (h : StartKept a s) (n : CompNo) {f : State → State} (hf : StartKept a (f s)) : StartKept a (onComp n f s) :=
  kept_ite hf ((h.failedEntry n).tellEngine n _)

/-! ### The resolutions (R20, R61, R100, R121) -/

theorem StartKept.resolveMaint (h : StartKept a s) (n : CompNo) : StartKept a (resolveMaint s n) :=
  kept_ite (h.onComp n (h.modComp n _)) h

theorem StartKept.resumeDeposit (h : StartKept a s) (n : CompNo) (k : Slot) : StartKept a (resumeDeposit n k s) := by
  unfold Machine.resumeDeposit
  split
  · exact (h.free n).modParcel k _
  · exact h.setResumed n true
  · exact h

theorem StartKept.resolveDeposit (h : StartKept a s) (k : Slot) : StartKept a (resolveDeposit s k) := by
  refine kept_ite (h.onRecord fun p => ?_) h
  split
  · exact h.onComp _ (h.resumeDeposit _ k)
  · exact h

theorem StartKept.resumeRelease (h : StartKept a s) (st : CompState) (n : CompNo) : StartKept a (resumeRelease st s n) :=
  kept_ite (h.onComp n ((h.modComp n _).setResumed n true)) h

theorem StartKept.resumeCollection (h : StartKept a s) (k : Slot) (p : Parcel) : StartKept a (resumeCollection k p s) := by
  unfold Machine.resumeCollection
  split
  · exact h.returnToStored k _
  · exact h.returnToStored k _
  · exact h.joinReopen k
  · split
    · exact h.resumeRelease _ _
    · exact h

theorem StartKept.resolveCollection (h : StartKept a s) (k : Slot) : StartKept a (resolveCollection s k) :=
  kept_ite (h.onRecord fun p => h.resumeCollection k p) h

/-- The jobs in flight resolved, the free lists as they stood. -/
def jobsResolved (s : State) : State :=
  (List.finRange 240).foldl resolveSweep ((List.finRange 384).foldl resolveCollection
    ((List.finRange 384).foldl resolveDeposit ((List.finRange 240).foldl resolveMaint s)))

theorem resolveJobs_eq (s : State) : resolveJobs s = rebuildFreeLists (jobsResolved s) := rfl

theorem StartKept.jobsResolved (h : StartKept a s) : StartKept a (jobsResolved s) := by
  have hmaint := kept_foldl (fun n h => h.resolveMaint n) (List.finRange 240) h
  have hdeposits := kept_foldl (fun k h => h.resolveDeposit k) (List.finRange 384) hmaint
  have hcollections := kept_foldl (fun k h => h.resolveCollection k) (List.finRange 384) hdeposits
  exact kept_foldl (fun n h => h.resumeRelease .sweeping n) (List.finRange 240) hcollections

theorem StartKept.resolveJobs (h : StartKept a s) : StartKept a (resolveJobs s) := h.jobsResolved.setFreeLists _

end Sys2Proof.Machine

/-! PROOFS. What the starts keep of the agreement (11.4). -/

namespace Sys2Proof.Machine

variable {a s t : State} {n m : CompNo} {k j : Slot} {h : Header} {p : Parcel}

/-! ### A cold start -/

theorem sound_reset : Sound .nothing State.reset := sound_iff.mpr ⟨tablesGood_of_cold rfl rfl rfl, reset_tablesAgree⟩

theorem sound_coldStarted (s : State) : Sound .nothing (coldStarted s) := sound_of_parts sound_reset rfl

theorem sound_coldStart (s : State) : Sound .nothing (coldStart s) := by
  cases hline : s.lines.hold with
  | false =>
    rw [coldStart_of_no_hold hline]
    exact sound_coldStarted s
  | true =>
    rw [coldStart_of_hold hline]
    exact sound_count _ (sound_raise _ (sound_of_parts (sound_coldStarted s) rfl))

/-! ### A kept start -/

theorem atStart_keptValues (kind : StartKind) (s : State) : AtStart (keptValues kind s) where
  jobless u := congrArg TermContext.openJob (Vector.getElem_replicate u.isLt)
  unmarked u := Vector.getElem_replicate u.isLt
  uncharged := rfl
  idle := rfl
  unquoted u := Vector.getElem_replicate u.isLt
  unswept := rfl
  nothingWaits := rfl
  stopped m := Vector.getElem_replicate m.isLt

/-- The tables of a start that keeps them: every close and resumed mark is gone, and no sweep is under way. -/
theorem sound_keptValues (kind : StartKind) (hs : Sound .nothing s) : Sound .nothing (keptValues kind s) := by
  have hdoor : ∀ m : CompNo, (keptValues kind s).doors.records[m].heldClose = none := fun m =>
    congrArg DoorRecord.heldClose ((atStart_keptValues kind s).stopped m)
  have hresumed : ∀ m : CompNo, (keptValues kind s).deposit.resumed[m] = false := fun m => Vector.getElem_replicate m.isLt
  refine ⟨hs.good, fun m => ?_, hs.once, hs.linked, hs.advised, hs.slots, hs.slotsOnce, fun k m hk => (nomatch hk),
    fun m hm => hm.elim, fun m hm => hm.elim⟩
  have hm := hs.entry m
  exact ⟨hm.listed, hm.joined, hm.unlinked, hm.pending, hm.phase, fun e => absurd (hdoor m) e,
    fun e => (nomatch (hresumed m).symm.trans e), hm.loop⟩

/-- The tables agree, with every engine at rest as at the start `a`. -/
structure Resolving (a s : State) : Prop where
  sound : Sound .nothing s
  kept : StartKept a s

theorem Resolving.unswept (r : Resolving a s) : sweptRecord s = none := by rw [sweptRecord, r.kept.atStart.unswept]; rfl

theorem resolving_foldl {α : Type} {f : State → α → State} (hf : ∀ {s} x, Resolving a s → Resolving a (f s x)) (l : List α)
    (r : Resolving a s) : Resolving a (l.foldl f s) := by
  induction l generalizing s with
  | nil => exact r
  | cons x l ih => exact ih (hf x r)

theorem Resolving.resolveMaint (r : Resolving a s) (n : CompNo) : Resolving a (resolveMaint s n) := by
  refine ⟨?_, r.kept.resolveMaint n⟩
  have hn := r.sound.entry n
  unfold Machine.resolveMaint
  split
  · next hmaint =>
    rw [r.sound.onComp n]
    exact sound_modComp r.sound rfl (hn.idle (by rw [hmaint]; rfl) (hn.not_listed (by rw [hmaint]; decide))
      (fun e => nomatch hmaint.symm.trans e) hn.unlinked hn.pending (fun e => absurd rfl e) Iff.rfl)
  · exact r.sound

theorem sound_resumeDeposit (r : Resolving a s) (hlink : s.comps[n].link = some k) : Sound .nothing (resumeDeposit n k s) := by
  unfold resumeDeposit
  split
  · exact sound_advisedAgain r.sound hlink (nothing_spares n)
  · next hloading => exact sound_setResumed_true r.sound (by rw [hloading]; rfl) r.unswept
  · exact r.sound

theorem Resolving.resolveDeposit (r : Resolving a s) (k : Slot) : Resolving a (resolveDeposit s k) := by
  refine ⟨sound_ite (sound_onRecord r.sound fun p hat _ => ?_) r.sound, r.kept.resolveDeposit k⟩
  split
  · next n hcomp =>
    rw [r.sound.onComp n]
    exact sound_resumeDeposit r ((r.sound.linked n k).mpr ⟨p, hat, hcomp⟩)
  · exact r.sound

theorem Resolving.resumeRelease {st : CompState} (hst : isJob st = true) (r : Resolving a s) (n : CompNo) :
    Resolving a (resumeRelease st s n) := by
  refine ⟨?_, r.kept.resumeRelease st n⟩
  have hn := r.sound.entry n
  unfold Machine.resumeRelease
  split
  · next hstate =>
    have hjob : isJob s.comps[n].state = true := by rw [hstate]; exact hst
    have hretried : Sound .nothing (modComp n (fun c => { c with attempts := 0 }) s) := sound_modComp r.sound rfl
      ⟨hn.listed, hn.joined, hn.unlinked, hn.pending, hn.phase, hn.held, hn.resumed, hn.loop⟩
    rw [r.sound.onComp n, markResumed]
    refine sound_setResumed_true hretried ?_ r.unswept
    rw [modComp_at, if_pos rfl]
    exact hjob
  · exact r.sound

theorem Resolving.resolveCollection (r : Resolving a s) (k : Slot) : Resolving a (resolveCollection s k) := by
  refine ⟨sound_ite (sound_onRecord r.sound fun p _ _ => ?_) r.sound, r.kept.resolveCollection k⟩
  unfold resumeCollection
  split
  · exact sound_returnToStored k _ r.sound
  · exact sound_returnToStored k _ r.sound
  · exact sound_joinReopen k r.sound
  · split
    · exact (r.resumeRelease rfl _).sound
    · exact r.sound

theorem listOf_rebuild (cls : SizeClass) (s : State) : listOf cls (rebuildFreeLists s).freeLists = rebuiltList cls s := by
  cases cls <;> rfl

theorem mem_rebuiltList {cls : SizeClass} : n ∈ rebuiltList cls s ↔
    s.comps[n].cls = cls ∧ s.comps[n].state = .vacant ∧ s.comps[n].door = .closed ∧ s.comps[n].pendingBar = false := by
  simp [rebuiltList, and_assoc]

theorem sound_rebuildFreeLists (hs : Sound .nothing s) : Sound .nothing (rebuildFreeLists s) := by
  refine ⟨hs.good, fun m => ?_, fun cls => ?_, hs.linked, hs.advised, hs.slots, hs.slotsOnce, hs.swept, hs.marked, hs.heldOpen⟩
  · have hm := hs.entry m
    refine ⟨fun cls hin => ?_, fun hstate hdoor hbar => .inr ?_, hm.unlinked, hm.pending, hm.phase, hm.held, hm.resumed, hm.loop⟩
    · rw [listOf_rebuild] at hin
      exact mem_rebuiltList.mp hin
    · rw [listOf_rebuild]
      exact mem_rebuiltList.mpr ⟨rfl, hstate, hdoor, hbar⟩
  · rw [listOf_rebuild]
    exact (List.nodup_finRange 240).filter _

theorem resolving_keptValues (kind : StartKind) (hs : Sound .nothing s) : Resolving (keptValues kind s) (keptValues kind s) :=
  ⟨sound_keptValues kind hs, atStart_keptValues kind s, rfl⟩

theorem Resolving.resolveJobs (r : Resolving a s) : Resolving a (resolveJobs s) := by
  have hmaint := resolving_foldl (fun n r => r.resolveMaint n) (List.finRange 240) r
  have hdeposits := resolving_foldl (fun k r => r.resolveDeposit k) (List.finRange 384) hmaint
  have hcollections := resolving_foldl (fun k r => r.resolveCollection k) (List.finRange 384) hdeposits
  have hsweeps := resolving_foldl (fun n r => r.resumeRelease (st := .sweeping) rfl n) (List.finRange 240) hcollections
  exact ⟨sound_rebuildFreeLists hsweeps.sound, r.kept.resolveJobs⟩

theorem sound_startEffects (kind : StartKind) {v : Awaited} (hs : Sound v s) : Sound v (startEffects kind s) := by
  have hbegun := sound_startEnumeration none (sound_raise (.link (.start kind)) hs)
  exact sound_ite (sound_enqueueBroadcast .holdAll (sound_count _ (sound_raise _ hbegun))) hbegun

theorem sound_keptStart (kind : StartKind) (hs : Sound .nothing s) : Sound .nothing (keptStart kind s) :=
  sound_startEffects kind (resolving_keptValues kind hs).resolveJobs.sound

theorem sound_takeRestartEngines (hs : Sound .nothing s) : Sound .nothing (takeRestartEngines h s) :=
  sound_fromOffice (sound_keptStart .engine) hs

theorem sound_takeResetAll (hs : Sound .nothing s) : Sound .nothing (takeResetAll h s) :=
  sound_fromOffice (fun _ => sound_coldStart _) hs

end Sys2Proof.Machine

/-! PROOFS. What the hand-offs, the link and every command keep of the agreement: free lists, links and tables agree after
every step (chapter 9, 4.1, 11.4). -/

namespace Sys2Proof.Machine

open Sys2Proof.Wire

variable {s t : State} {v : Awaited} {n m : CompNo} {k j : Slot} {h : Header} {p : Parcel}

/-! ### Every request, and the hand-offs (9.3) -/

theorem sound_takeWrite (hs : Sound v s) : Sound v (takeWrite h s) := sound_refuse _ _ hs

theorem sound_takeRequest (r : Request) (hs : Sound .nothing s) : Sound .nothing (takeRequest h r s) := by
  cases r with
  | signOn _ => exact sound_takeSignOn _ hs
  | signOff => exact sound_takeSignOff hs
  | deposit _ => exact sound_takeDeposit _ hs
  | returnDrop _ => exact sound_takeReturnDrop _ hs
  | abandon => exact sound_takeAbandon hs
  | collect _ => exact sound_takeCollect _ hs
  | tender _ _ => exact sound_takeTender _ _ hs
  | cancel => exact sound_takeCancel hs
  | sweepStart => exact sound_takeSweepStart hs
  | sweepStop => exact sound_takeSweepStop hs
  | statusCompartment _ => exact sound_takeStatusCompartment _ hs
  | statusParcel _ => exact sound_takeStatusParcel _ hs
  | relay _ _ _ => exact sound_takeRelay _ _ _ hs
  | advise _ => exact sound_takeAdvise _ hs
  | withdraw _ => exact sound_takeWithdraw _ hs
  | reissue _ _ => exact sound_takeReissue _ _ hs
  | enrolCourier _ _ _ _ => exact sound_takeEnrol _ _ _ _ hs
  | revokeCourier _ => exact sound_takeRevoke _ hs
  | timeSet _ _ => exact sound_takeTimeSet _ _ hs
  | retire _ => exact sound_takeRetire _ hs
  | bar _ => exact sound_takeBar _ hs
  | unbar _ => exact sound_takeUnbar _ hs
  | maintEnter _ => exact sound_takeMaintEnter _ hs
  | maintExit _ => exact sound_takeMaintExit _ hs
  | maintTestPulse _ => exact sound_takeTestPulse _ hs
  | maintTrace _ => exact sound_takeMaintTrace _ hs
  | enumerate => exact sound_takeEnumerate hs
  | clearIntegrity => exact sound_takeClearIntegrity hs
  | snapshot => exact sound_takeSnapshot hs
  | mask _ => exact sound_takeMask _ hs
  | drillStep => exact sound_takeDrillStep hs
  | cursor _ _ _ => exact sound_takeCursor _ _ _ hs
  | read => exact sound_takeRead hs
  | writeTariff _ => exact sound_takeWriteTariff _ hs
  | writePeak _ _ _ => exact sound_takeWritePeak _ _ _ hs
  | writeMap _ _ => exact sound_takeWriteMap _ _ hs
  | writeColumn _ _ _ => exact sound_takeWriteColumn _ _ _ hs
  | write _ => exact sound_takeWrite hs
  | configSet _ => exact sound_takeConfigSet _ hs
  | configGet => exact sound_takeConfigGet hs
  | hold => exact sound_takeHold hs
  | unhold => exact sound_takeUnhold hs
  | clearStranded _ => exact sound_takeClearStranded _ hs
  | clearQuarantine _ => exact sound_takeClearQuarantine _ hs
  | restartEngines => exact sound_takeRestartEngines hs
  | resetAll => exact sound_takeResetAll hs

theorem sound_requestTakenFrom (o : Origin) (hs : Sound v s) : Sound v (requestTakenFrom o s) := by
  cases o with
  | terminal t => exact sound_restartInactivity t hs
  | office => exact hs

theorem sound_takeEntry (e : FifoEntry) (hs : Sound .nothing s) : Sound .nothing (takeEntry e s) := by
  unfold takeEntry
  split
  · exact sound_placeReply _ hs
  · split
    · exact sound_placeReply _ hs
    · exact sound_placeReply _ hs
    · exact sound_requestTakenFrom _ (sound_takeRequest _ hs)

theorem sound_handOff (hs : Sound .nothing s) : Sound .nothing (handOff s) := by
  unfold handOff
  split
  · exact hs
  · exact sound_takeEntry _ (sound_setLink _ hs)

theorem sound_handOffs (fuel : Nat) (hs : Sound .nothing s) : Sound .nothing (handOffs fuel s) := by
  induction fuel generalizing s with
  | zero => exact hs
  | succ fuel ih => exact sound_ite (ih (sound_settle (sound_handOff hs))) hs

theorem sound_conclude (hs : Sound .nothing s) : Sound .nothing (conclude s) :=
  sound_ite (sound_handOffs _ hs) (sound_settle hs)

theorem sound_offer (e : FifoEntry) (hs : Sound v s) : Sound v (offer e s) :=
  sound_ite (sound_setLink _ hs) (sound_ite (sound_setLink _ hs) (sound_count _ hs))

/-! ### The link state, the receiver and the transmitter (9.1, 9.2, 9.4) -/

theorem sound_setTx (x : Transmission) (hs : Sound v s) : Sound v (setTx x s) := sound_setLink _ hs

theorem sound_setOnLine (c : Option NoticeClass) (hs : Sound v s) : Sound v (setOnLine c s) := sound_of_parts hs rfl

theorem sound_cutNotice (hs : Sound v s) : Sound v (cutNotice s) := by
  unfold cutNotice
  split
  · exact sound_setTx _ (sound_setOnLine none hs)
  · exact hs

theorem sound_rewriteWindowEnds (hs : Sound v s) : Sound v (rewriteWindowEnds s) := by
  refine sound_foldl (fun t hs => ?_) allTerms hs
  split
  · exact sound_onRecord hs fun _ _ _ => sound_modParcel_same hs (fun _ => rfl) fun _ => rfl
  · exact hs

theorem sound_moveLink (d : LinkState) (hs : Sound v s) : Sound v (moveLink d s) := by
  have hmoved := sound_setLink { s.link with state := d } hs
  have hcut := sound_ite (p := s.link.state = .up) (sound_cutNotice hmoved) hmoved
  have hrewritten := sound_ite (p := s.link.state = .lost) (sound_rewriteWindowEnds hcut) hcut
  exact sound_ite hs (sound_ite (sound_raise _ hrewritten) hrewritten)

theorem sound_goodRun (hs : Sound v s) : Sound v (goodRun s) := by
  unfold goodRun
  exact sound_ite (sound_moveLink _ (sound_setLink _ hs)) (sound_setLink _ hs)

theorem sound_discardRun (hs : Sound v s) : Sound v (discardRun s) := by
  unfold discardRun
  exact sound_ite (sound_moveLink _ (sound_setLink _ hs)) (sound_setLink _ hs)

theorem sound_setRx (x : RxPhase) (b : List Byte) (hs : Sound v s) : Sound v (setRx x b s) := sound_setLink _ hs

theorem sound_setAgain (l : List Byte) (hs : Sound v s) : Sound v (setAgain l s) := sound_setLink _ hs

theorem sound_discardFrame (c : Option Counter) (hs : Sound v s) : Sound v (discardFrame c s) := by
  cases c with
  | none => exact sound_discardRun (sound_setRx _ _ (sound_count _ hs))
  | some c => exact sound_discardRun (sound_setRx _ _ (sound_count _ (sound_count c hs)))

theorem sound_goodFrame (e : FifoEntry) (hs : Sound .nothing s) : Sound .nothing (goodFrame e s) :=
  sound_conclude (sound_restartIdle (sound_wakeCause (sound_offer e (sound_goodRun (sound_setRx _ _ hs)))))

theorem sound_hearOctets (fuel : Nat) (hs : Sound .nothing s) : Sound .nothing (hearOctets fuel s) := by
  induction fuel generalizing s with
  | zero => exact hs
  | succ fuel ih =>
    rw [hearOctets]
    split
    · exact hs
    · next o rest _ =>
      have htaken := sound_setAgain rest hs
      dsimp only
      split
      · exact ih htaken
      · exact ih (sound_setRx _ _ htaken)
      · exact ih (sound_setRx _ _ htaken)
      · exact ih (sound_setAgain _ (sound_discardFrame _ htaken))
      · exact ih (sound_goodFrame _ htaken)

theorem sound_hear (l : List Byte) (hs : Sound .nothing s) : Sound .nothing (hear l s) := sound_hearOctets _ (sound_setAgain l hs)

theorem sound_receiveOctet (o : Byte) (hs : Sound .nothing s) : Sound .nothing (receiveOctet s o) := sound_hear _ (sound_setLink _ hs)

theorem sound_silenceExpires (hs : Sound .nothing s) : Sound .nothing (silenceExpires s) := by
  have hlost : ∀ {x : State}, Sound .nothing x →
      Sound .nothing (moveLink .lost { x with link := { x.link with goodRun := 0, silence := 0 } }) := fun hx =>
    sound_moveLink _ (sound_setLink _ hx)
  unfold silenceExpires
  dsimp only
  split
  · exact sound_hear _ (hlost (sound_discardFrame _ (sound_count _ hs)))
  · exact hlost (sound_count _ hs)

theorem sound_replySent (hs : Sound v s) : Sound v (replySent s) := by
  unfold replySent
  split
  · exact sound_setLink _ hs
  · exact hs

theorem sound_noticeSent (hs : Sound v s) : Sound v (noticeSent s) := by
  unfold noticeSent
  split
  · refine sound_setTx _ (sound_setOnLine none ?_)
    split
    · exact sound_modClass _ _ hs
    · exact hs
  · exact hs

/-! ### Seconds, and the events of the bus and the doors (4.1, 7.2, 7.7, 8.6, 11.5) -/

theorem sound_setTime (x : TimeBase) (hs : Sound v s) : Sound v { s with time := x } := sound_of_parts hs rfl

theorem sound_setLines (x : Lines) (hs : Sound v s) : Sound v { s with lines := x } := sound_of_parts hs rfl

theorem ajarSecond_heldClose (d : DoorRecord) : (ajarSecond d).heldClose = d.heldClose := by
  unfold ajarSecond
  split <;> rfl

/-- A second event leaves the held closes as they are. -/
theorem secondEvents_heldClose (s : State) (n : CompNo) :
    (secondEvents s).doors.records[n].heldClose = s.doors.records[n].heldClose := by
  rw [secondEvents_door]
  split
  · exact ajarSecond_heldClose _
  · rfl

theorem sound_secondEvents (hs : Sound v s) : Sound v (secondEvents s) := by
  refine sound_of_parts hs ?_
  have hheld : (fun n : CompNo => (secondEvents s).doors.records[n].heldClose) = fun n => s.doors.records[n].heldClose :=
    funext (secondEvents_heldClose s)
  rw [agreedParts, hheld]
  rfl

theorem sound_second (hs : Sound v s) : Sound v (second s) := by
  have hcounted := sound_secondEvents (sound_setTime (clockSecond s.time) hs)
  exact sound_ite (sound_boundary _ hcounted) hcounted

theorem sound_act {f : State → State} (hf : ∀ {x : State}, Sound .nothing x → Sound .nothing (f x)) (hs : Sound .nothing s)
    (e : act f s = .next t) : Sound .nothing t := by
  cases e
  exact sound_ite (sound_conclude (hf hs)) hs

theorem sound_elapse (hs : Sound .nothing s) (e : elapse s = .next t) : Sound .nothing t := by
  unfold elapse at e
  split at e
  · exact sound_act sound_second hs e
  · cases e
    exact sound_setTime _ hs

theorem sound_holdLine {b : Bool} (hs : Sound .nothing s) (e : holdLine b s = .next t) : Sound .nothing t := by
  unfold holdLine at e
  split at e
  · exact sound_act (sound_senseHold b) hs e
  · cases e
    exact sound_setLines _ hs

theorem sound_onAttempt {f : Exchange → State → State} (hf : ∀ x, Sound v s → Sound v (f x s)) (hs : Sound v s) :
    Sound v (onAttempt f s) := by
  unfold onAttempt
  split
  · exact hf _ hs
  · exact hs

theorem sound_endRetryWait (f : RetryWait → Bool) (hs : Sound v s) : Sound v (endRetryWait f s) := by
  unfold endRetryWait
  split
  · exact sound_ite (sound_setRetry _ hs) hs
  · exact hs

theorem sound_attentionAssert (hs : Sound v s) : Sound v (match s.dormancy.state with
    | .dormant => wakeCause s
    | .awake => startRound s
    | .waking => s) := by
  split
  · exact sound_wakeCause hs
  · exact sound_startRound hs
  · exact hs

theorem sound_restartGuard (hs : Sound v s) : Sound v (match s.arbiter.guard with
    | some _ => lookOver { s with arbiter := { s.arbiter with guard := none } }
    | none => s) := by
  split
  · exact sound_lookOver (sound_setArbiter _ hs)
  · exact hs

theorem sound_ajarExpired (n : CompNo) (hs : Sound v s) : Sound v (ajarExpired n s) :=
  sound_modDoor_same (f := fun d => { d with ajar := some (cfg (raiseAjar n s.doors.records[n].openSeconds s)).ajar })
    (sound_count _ (sound_raise _ hs)) fun _ => rfl

theorem sound_enterDormant (hs : Sound v s) : Sound v (enterDormant s) := sound_enqueueBroadcast _ (sound_setDormancy _ hs)

theorem sound_retentionIntact (b : Bool) (hs : Sound v s) : Sound v { s with mgmt := { s.mgmt with retentionIntact := b } } :=
  sound_of_parts hs rfl

theorem sound_startByMarker (hs : Sound .nothing s) : Sound .nothing (startByMarker s) :=
  sound_ite (sound_keptStart .warm hs) (sound_coldStart s)

/-! ### Every command -/

theorem sound_exec (i : Instr) (hs : Sound .nothing s) (e : exec i s = .next t) : Sound .nothing t := by
  cases hr : i.request? with
  | some r =>
    rw [exec_of_request? hr] at e
    exact sound_act (sound_offer _) hs e
  | none =>
    cases i with
    | frameReceived l => exact sound_act (fun hs => sound_foldl (fun o hs => sound_receiveOctet o hs) l hs) hs e
    | octetReceived o => exact sound_act (sound_receiveOctet o) hs e
    | silenceExpiry => exact sound_act (fun hs => sound_ite hs (sound_silenceExpires hs)) hs e
    | replyTransmitComplete => exact sound_act sound_replySent hs e
    | noticeTransmitComplete => exact sound_act sound_noticeSent hs e
    | computationComplete => exact sound_act sound_completeComputation hs e
    | quoteLapse t => exact sound_act (fun hs => sound_ite (sound_lapse t hs) hs) hs e
    | reopenWindowEnd k => exact sound_act (fun hs => sound_ite (sound_endReopen k hs) hs) hs e
    | resetAssert => cases e; exact sound_setLines _ hs
    | resetRelease => cases e; exact sound_conclude (sound_startByMarker (sound_setLines _ hs))
    | retentionSupplyLoss => cases e; exact sound_retentionIntact _ hs
    | powerLoss cuts =>
      cases e
      exact sound_setLines _ (sound_ite (sound_ite (sound_retentionIntact _ hs) hs) hs)
    | secondTick => exact sound_elapse hs e
    | minuteBoundary => exact sound_elapse (sound_setTime _ hs) e
    | scanVisit => exact sound_act sound_scanVisit hs e
    | lockoutEnd t => exact sound_act id hs e
    | inactivityExpiry t => exact sound_act (fun hs => sound_ite (sound_signOff t hs) hs) hs e
    | pollRound => exact sound_act (fun hs => sound_ite (sound_startRound hs) hs) hs e
    | probeMark => exact sound_act (fun hs => sound_ite (sound_markProbes hs) hs) hs e
    | attentionAssert => exact sound_act sound_attentionAssert hs e
    | pollAccept b l => exact sound_act (sound_answered b (fun x c => sound_acceptPoll l x c)) hs e
    | probeAccept b w => exact sound_act (sound_answered b (fun x c => sound_acceptProbe w x c)) hs e
    | pulseAccept b => exact sound_act (sound_answered b (fun x c => sound_acceptPulse x c)) hs e
    | traceReadAccept b l => exact sound_act (sound_answered b (fun x c => sound_acceptTrace l x c)) hs e
    | relayAccept b => exact sound_act (sound_answered b (fun x c => sound_acceptRelay x c)) hs e
    | busyAnswer b => exact sound_act (sound_answered b (fun x _ => sound_busyHeard x)) hs e
    | wakeAnswer b => exact sound_act (sound_answered b (fun x _ => sound_wakeHeard x)) hs e
    | busyRetryWaitEnd => exact sound_act (sound_endRetryWait _) hs e
    | wakeRetryWaitEnd => exact sound_act (sound_endRetryWait _) hs e
    | noAnswer => exact sound_act (sound_onAttempt fun x => sound_heardNothing x) hs e
    | stall => exact sound_act (sound_onAttempt fun x => sound_stalled x) hs e
    | holdAllSent => exact sound_act (fun hs => sound_ite (sound_cutPulses (sound_setUse _ hs)) hs) hs e
    | sleepAllSent => exact sound_act (fun hs => sound_ite (sound_sleepColumns (sound_setUse _ hs)) hs) hs e
    | wakeAllSent => exact sound_act (fun hs => sound_ite (sound_setDormancy _ (sound_setUse _ hs)) hs) hs e
    | wakeSettleEnd => exact sound_act (fun hs => sound_ite (sound_wakeSettled hs) hs) hs e
    | pulseEnd n =>
      exact sound_act (fun hs => sound_ite (sound_lookOver (sound_notePulseEnd n _ (sound_leaveCommitted n hs))) hs) hs e
    | restartGuardElapsed => exact sound_act sound_restartGuard hs e
    | holdLineAssert => exact sound_holdLine hs e
    | holdLineRelease => exact sound_holdLine hs e
    | confirmExpiry n => exact sound_act (fun hs => sound_ite (sound_confirmExpired n hs) hs) hs e
    | openLimitExpiry n => exact sound_act (fun hs => sound_ite (sound_openLimitExpired hs (nothing_spares n)) hs) hs e
    | ajarExpiry n => exact sound_act (fun hs => sound_ite (sound_ajarExpired n hs) hs) hs e
    | idleExpiry => exact sound_act (fun hs => sound_ite (sound_enterDormant hs) hs) hs e
    | scrubVisit => exact sound_act sound_scrubVisit hs e
    | _ => cases hr

theorem sound_step (hs : Sound .nothing s) (e : step s = .next t) : Sound .nothing t := by
  unfold step at e
  split at e
  · cases e
    exact hs
  · next c rest _ =>
    have hpopped : Sound .nothing { s with pending := rest } := sound_of_parts hs rfl
    exact sound_exec c hpopped e

/-- Settles O9. The agreement is strengthened by the check bytes, and split into what each entry, record, list and link
says, so that every operation of a taking can be shown to keep it or to leave open a named part that a later one closes. -/
theorem freeListsAndLinksStayInAgreement : Obligations.FreeListsAndLinksStayInAgreement := by
  intro s t hgood hagree hstep
  exact (sound_iff.mp (sound_step (sound_iff.mpr ⟨hgood, hagree⟩) hstep)).2

end Sys2Proof.Machine

/-! PROOFS. What a warm start and an engine restart leave by block, and with no job in flight (R9, R207, R208). -/

namespace Sys2Proof.Machine

variable {a s t r : State} {n m : CompNo} {k j : Slot} {p : Parcel}

/-! ### What every start ends with -/

/-- The bus with the enumeration begun, and the hold broadcast queued when the arbiter holds. -/
def startedBus (s : State) : ColumnBus :=
  { s.bus with
    columns := s.bus.columns.map (fun e => { e with probeDue := true })
    queue := if s.arbiter.holdActive then [.broadcast .holdAll] else []
    enumeration := some { todo := allCols, reply := none } }

/-- A HOLD_ALL on an empty queue. -/
theorem enqueueHoldAll_empty (hqueue : s.bus.queue = []) (hoverflow : s.bus.overflow = []) :
    enqueueBroadcast .holdAll s = { s with bus := { s.bus with queue := [.broadcast .holdAll] } } := by
  have hidle : enqueueBroadcast .holdAll s = if (s.bus.queue.contains (.broadcast .holdAll) ||
      s.bus.overflow.contains (.broadcast .holdAll)) = true then s else enqueueOp (.broadcast .holdAll) s := rfl
  rw [hidle, hqueue, hoverflow]
  refine (if_neg (by decide)).trans ?_
  rw [enqueueOp, hqueue]
  rfl

/-- A hold that is active at the start is raised, counted, and broadcast. -/
theorem heldAtStart (src : HoldSource) (hqueue : s.bus.queue = []) (hoverflow : s.bus.overflow = []) :
    ∃ (u : NoticeUnit) (c : CounterBank), enqueueBroadcast .holdAll (raiseHoldOn src s) =
      { s with bus := { s.bus with queue := [.broadcast .holdAll] }, notices := u, counters := c } :=
  ⟨(raiseHoldOn src s).notices, (raiseHoldOn src s).counters, enqueueHoldAll_empty (s := raiseHoldOn src s) hqueue hoverflow⟩

/-- A start ends on an idle bus with the enumeration and its notices; no counter moves when nothing holds. -/
theorem startEffects_eq (kind : StartKind) (hqueue : s.bus.queue = []) (hoverflow : s.bus.overflow = []) :
    ∃ (u : NoticeUnit) (c : CounterBank), startEffects kind s = { s with bus := startedBus s, notices := u, counters := c } ∧
      (s.arbiter.holdActive = false → u = (raise (.link (.start kind)) s).notices ∧ c = s.counters) := by
  unfold startEffects
  rw [startEnumeration_eq]
  cases hheld : s.arbiter.holdActive with
  | false =>
    refine ⟨_, _, (if_neg (Bool.eq_false_iff.mp hheld)).trans ?_, fun _ => ⟨rfl, rfl⟩⟩
    rw [startedBus, hheld, if_neg Bool.false_ne_true, ← hqueue]
    rfl
  | true =>
    obtain ⟨u, c, htold⟩ := heldAtStart (if s.lines.hold then .line else .office) (s := { raise (.link (.start kind)) s with
      bus := { s.bus with
        columns := s.bus.columns.map (fun e => { e with probeDue := true })
        enumeration := some { todo := allCols, reply := none } } }) hqueue hoverflow
    refine ⟨u, c, (if_pos hheld).trans (htold.trans ?_), fun e => nomatch e⟩
    rw [startedBus, hheld, if_pos rfl]
    rfl

/-- The counts of the starts of each kind, up to 255 (R208). -/
theorem causeAfter_counts (kind : StartKind) (h : kind = .warm ∨ kind = .engine) (c : ResetCause) :
    (causeAfter kind c).last = kind ∧
      (causeAfter kind c).warm.val = (if kind = .warm then min 255 (c.warm.val + 1) else c.warm.val) ∧
      (causeAfter kind c).engine.val = (if kind = .engine then min 255 (c.engine.val + 1) else c.engine.val) := by
  have hcount : ∀ x : Fin 256, (if hx : x.val < 255 then (⟨x.val + 1, by omega⟩ : Fin 256) else x).val = min 255 (x.val + 1) := by
    intro x
    by_cases hx : x.val < 255
    · rw [dif_pos hx, Nat.min_eq_right (by omega)]
    · rw [dif_neg hx, Nat.min_eq_left (by omega)]
      omega
  rcases h with rfl | rfl
  · exact ⟨rfl, hcount c.warm, rfl⟩
  · exact ⟨rfl, rfl, hcount c.engine⟩

/-! ### With no job in flight -/

theorem resolveDeposit_other (h : recordIn k [.depositing] s = false) : resolveDeposit s k = s := if_neg (Bool.eq_false_iff.mp h)

theorem resolveCollection_other (h : recordIn k [.quoting, .due, .untaken, .releasing] s = false) : resolveCollection s k = s :=
  if_neg (Bool.eq_false_iff.mp h)

theorem recordIn_live {l : List ParcelState} (h : parcelAt k s = some p) : recordIn k l s = decide (p.state ∈ l) := by
  rw [recordIn, h]

/-- With no job in flight nothing is resolved. -/
theorem jobsResolved_of_none (hrecords : ∀ k p, parcelAt k s = some p → p.state = .advised ∨ p.state = .stored ∨
      p.state = .returnQueued ∨ p.state = .stranded ∨ p.state = .quarantined)
    (hcomps : ∀ n : CompNo, s.comps[n].state ≠ .maint ∧ s.comps[n].state ≠ .sweeping) : jobsResolved s = s := by
  have hout : ∀ (k : Slot) (l : List ParcelState), (∀ st ∈ l, ¬ (st = .advised ∨ st = .stored ∨ st = .returnQueued ∨
      st = .stranded ∨ st = .quarantined)) → recordIn k l s = false := by
    intro k l hl
    cases hat : parcelAt k s with
    | none => rw [recordIn, hat]
    | some p => rw [recordIn_live hat]; exact decide_eq_false fun hp => hl _ hp (hrecords k p hat)
  have hmaint : (List.finRange 240).foldl resolveMaint s = s := foldl_of_fixed fun n _ => if_neg (hcomps n).1
  have hdeposits : (List.finRange 384).foldl resolveDeposit s = s := foldl_of_fixed fun k _ =>
    resolveDeposit_other (hout k _ (by decide))
  have hcollections : (List.finRange 384).foldl resolveCollection s = s := foldl_of_fixed fun k _ =>
    resolveCollection_other (hout k _ (by decide))
  have hsweeps : (List.finRange 240).foldl resolveSweep s = s := foldl_of_fixed fun n _ => if_neg (hcomps n).2
  rw [jobsResolved, hmaint, hdeposits, hcollections, hsweeps]

/-! ### A kept start, by block -/

/-- A kept start is its resolved jobs with lists, bus, notices and counters of its own. -/
theorem keptStart_eq (kind : StartKind) (s : State) : ∃ (x : State) (u : NoticeUnit) (c : CounterBank),
    x = jobsResolved (keptValues kind s) ∧ startParts x = startParts (keptValues kind s) ∧
      keptStart kind s = { rebuildFreeLists x with bus := startedBus x, notices := u, counters := c } ∧
      (holdWanted s = false → u = (raise (.link (.start kind)) x).notices ∧ c = x.counters) := by
  have hstarted : ∀ x, startParts x = startParts (keptValues kind s) → ∃ (u : NoticeUnit) (c : CounterBank),
      startEffects kind (rebuildFreeLists x) = { rebuildFreeLists x with bus := startedBus x, notices := u, counters := c } ∧
      (holdWanted s = false → u = (raise (.link (.start kind)) x).notices ∧ c = x.counters) := by
    intro x hparts
    have hbus : x.bus = Cold.bus (columnsAfter kind s) (cfg s).pollInterval := congrArg StartParts.bus hparts
    have harbiter : x.arbiter.holdActive = holdWanted s := congrArg (fun y : StartParts => y.arbiter.holdActive) hparts
    obtain ⟨u, c, he, hnone⟩ := startEffects_eq kind (s := rebuildFreeLists x) (congrArg ColumnBus.queue hbus)
      (congrArg ColumnBus.overflow hbus)
    exact ⟨u, c, he, fun hheld => hnone (harbiter.trans hheld)⟩
  have hparts := (StartKept.jobsResolved (a := keptValues kind s) ⟨atStart_keptValues kind s, rfl⟩).parts
  obtain ⟨u, c, he, hnone⟩ := hstarted _ hparts
  exact ⟨_, u, c, rfl, hparts, he, hnone⟩

/-- The bus a start leaves. -/
theorem startedBus_kept (kind : StartKind) (hkind : kind = .warm ∨ kind = .engine)
    (hparts : startParts r = startParts (keptValues kind s)) :
    (startedBus r).queue = (if holdWanted s then [.broadcast .holdAll] else []) ∧ (startedBus r).overflow = [] ∧
      (startedBus r).use = .free ∧ (startedBus r).retry = none ∧ (startedBus r).returning = [] ∧
      ∀ c : Col, (startedBus r).columns[c] =
        { state := if kind = .engine then s.bus.columns[c].state else .unknown
          count := if kind = .engine then s.bus.columns[c].count else 0
          pollDue := false, probeDue := true } := by
  have hbus : r.bus = Cold.bus (columnsAfter kind s) (cfg s).pollInterval := congrArg StartParts.bus hparts
  have harbiter : r.arbiter.holdActive = holdWanted s := congrArg (fun y : StartParts => y.arbiter.holdActive) hparts
  rw [startedBus, hbus, harbiter]
  refine ⟨rfl, rfl, rfl, rfl, rfl, fun c => (Vector.getElem_map _ c.isLt).trans ?_⟩
  have hcolumns : (columnsAfter kind s)[c] =
      { state := if kind = .engine then s.bus.columns[c].state else .unknown
        count := if kind = .engine then s.bus.columns[c].count else 0
        pollDue := false
        probeDue := false } := by
    rcases hkind with rfl | rfl
    · exact Vector.getElem_replicate c.isLt
    · exact Vector.getElem_map _ c.isLt
  exact congrArg (fun e : ColumnEntry => { e with probeDue := true }) hcolumns

end Sys2Proof.Machine

/-! PROOFS. How a warm start and an engine restart resolve the jobs in flight: each resolution at its own compartment and
record, the others standing (R20, R61, R93, R100, R121). -/

namespace Sys2Proof.Machine

variable {a s t x y : State} {n m : CompNo} {k j : Slot} {p : Parcel}

/-! ### What stands while another job is resolved -/

/-- An entry and its resumed mark stand. -/
structure EntryStands (n : CompNo) (s t : State) : Prop where
  entry : t.comps[n] = s.comps[n]
  mark : t.deposit.resumed[n] = s.deposit.resumed[n]

/-- A record, its place in the return queue and its re-open window stand. -/
structure RecordStands (k : Slot) (s t : State) : Prop where
  record : parcelAt k t = parcelAt k s
  queued : k ∈ s.returns.queue → k ∈ t.returns.queue
  window : ∀ e ∈ s.collection.reopen, e.slot = k → e ∈ t.collection.reopen

/-- A compartment and a record stand. -/
def Stands (k : Slot) (n : CompNo) (s t : State) : Prop := EntryStands n s t ∧ RecordStands k s t

theorem EntryStands.refl (n : CompNo) (s : State) : EntryStands n s s := ⟨rfl, rfl⟩

theorem EntryStands.trans (h : EntryStands n s t) (g : EntryStands n t x) : EntryStands n s x :=
  ⟨g.entry.trans h.entry, g.mark.trans h.mark⟩

theorem RecordStands.refl (k : Slot) (s : State) : RecordStands k s s := ⟨rfl, id, fun _ he _ => he⟩

theorem RecordStands.trans (h : RecordStands k s t) (g : RecordStands k t x) : RecordStands k s x :=
  ⟨g.record.trans h.record, fun hq => g.queued (h.queued hq), fun e he hk => g.window e (h.window e he hk) hk⟩

theorem Stands.refl (k : Slot) (n : CompNo) (s : State) : Stands k n s s := ⟨EntryStands.refl n s, RecordStands.refl k s⟩

theorem Stands.trans (h : Stands k n s t) (g : Stands k n t x) : Stands k n s x := ⟨h.1.trans g.1, h.2.trans g.2⟩

/-- The jobs in flight are resolved over tables that agree, and the compartment names no record but the one followed. -/
structure Followed (a : State) (o : Option Slot) (n : CompNo) (s : State) : Prop where
  resolving : Resolving a s
  own : s.comps[n].link = none ∨ s.comps[n].link = o

theorem Followed.own_ne {o : Option Slot} (f : Followed a o n s) (h : o ≠ some j) : s.comps[n].link ≠ some j := by
  rcases f.own with e | e
  · rw [e]; exact nofun
  · rw [e]; exact h

/-- A compartment's link stands or goes. -/
def LinkFalls (n : CompNo) (s t : State) : Prop := t.comps[n].link = s.comps[n].link ∨ t.comps[n].link = none

theorem LinkFalls.own {o : Option Slot} (h : LinkFalls n s t) (hown : s.comps[n].link = none ∨ s.comps[n].link = o) :
    t.comps[n].link = none ∨ t.comps[n].link = o := by
  rcases h with e | e
  · rw [e]; exact hown
  · exact .inl e

/-! ### Entries under MAINT, and releases resumed -/

theorem modComp_stands (h : m ≠ n) (f : Compartment → Compartment) : EntryStands n s (modComp m f s) :=
  ⟨(modComp_at m n f s).trans (if_neg h), rfl⟩

theorem modComp_record (n : CompNo) (f : Compartment → Compartment) : RecordStands k s (modComp n f s) := ⟨rfl, id, fun _ he _ => he⟩

theorem modComp_compLink {f : Compartment → Compartment} (hf : ∀ c, (f c).link = c.link) (n m : CompNo) (s : State) :
    (modComp m f s).comps[n].link = s.comps[n].link := by
  rw [modComp_at]
  split
  · next e => subst e; exact hf _
  · rfl

theorem resolveMaint_read (r : Resolving a s) (h : s.comps[n].state = .maint) :
    resolveMaint s n = modComp n (fun c => { c with phase := .none }) s :=
  (if_pos h).trans (r.sound.onComp n _)

theorem resolveMaint_other (h : s.comps[n].state ≠ .maint) : resolveMaint s n = s := if_neg h

theorem resumeRelease_read {st : CompState} (r : Resolving a s) (h : s.comps[n].state = st) :
    resumeRelease st s n = markResumed n s :=
  (if_pos h).trans (r.sound.onComp n _)

theorem resumeRelease_other {st : CompState} (h : s.comps[n].state ≠ st) : resumeRelease st s n = s := if_neg h

theorem resolveMaint_record (r : Resolving a s) (n : CompNo) : RecordStands k s (resolveMaint s n) := by
  by_cases h : s.comps[n].state = .maint
  · rw [resolveMaint_read r h]
    exact modComp_record n _
  · rw [resolveMaint_other h]
    exact RecordStands.refl k s

theorem resolveMaint_stands (r : Resolving a s) (hm : m ≠ n) : EntryStands n s (resolveMaint s m) := by
  by_cases h : s.comps[m].state = .maint
  · rw [resolveMaint_read r h]
    exact modComp_stands hm _
  · rw [resolveMaint_other h]
    exact EntryStands.refl n s

theorem resolveMaint_link (r : Resolving a s) (n m : CompNo) : LinkFalls n s (resolveMaint s m) := by
  by_cases h : s.comps[m].state = .maint
  · rw [resolveMaint_read r h]
    exact .inl (modComp_compLink (f := fun c => { c with phase := .none }) (fun _ => rfl) n m s)
  · rw [resolveMaint_other h]
    exact .inl rfl

theorem markResumed_entry (n : CompNo) (s : State) : (markResumed n s).comps[n] = sealCompartment n { s.comps[n] with attempts := 0 } :=
  (modComp_at n n (fun c => { c with attempts := 0 }) s).trans (if_pos rfl)

theorem markResumed_mark (n : CompNo) (s : State) : (markResumed n s).deposit.resumed[n] = true := by
  rw [markResumed, setResumed_at, if_pos rfl]

theorem resumeRelease_record {st : CompState} (r : Resolving a s) (n : CompNo) : RecordStands k s (resumeRelease st s n) := by
  by_cases h : s.comps[n].state = st
  · rw [resumeRelease_read r h]
    exact ⟨rfl, id, fun _ he _ => he⟩
  · rw [resumeRelease_other h]
    exact RecordStands.refl k s

theorem resumeRelease_stands {st : CompState} (r : Resolving a s) (hm : m ≠ n) : EntryStands n s (resumeRelease st s m) := by
  by_cases h : s.comps[m].state = st
  · rw [resumeRelease_read r h]
    refine ⟨(modComp_at m n (fun c => { c with attempts := 0 }) s).trans (if_neg hm), ?_⟩
    rw [markResumed, setResumed_at, if_neg hm]
    rfl
  · rw [resumeRelease_other h]
    exact EntryStands.refl n s

theorem resumeRelease_link {st : CompState} (r : Resolving a s) (n m : CompNo) : LinkFalls n s (resumeRelease st s m) := by
  by_cases h : s.comps[m].state = st
  · rw [resumeRelease_read r h]
    exact .inl (modComp_compLink (f := fun c => { c with attempts := 0 }) (fun _ => rfl) n m s)
  · rw [resumeRelease_other h]
    exact .inl rfl

/-! ### Deposits in flight -/

theorem setParcel_record (hj : j ≠ k) (q : Parcel) : RecordStands k s (setParcel j q s) :=
  ⟨(setParcel_at j k q s).trans (if_neg hj), id, fun _ he _ => he⟩

theorem joinFree_stands (n m : CompNo) (s : State) : EntryStands n s (joinFree m s) := by
  unfold joinFree
  dsimp only
  split
  · exact ⟨rfl, rfl⟩
  · exact EntryStands.refl n s

theorem joinFree_record (k : Slot) (m : CompNo) (s : State) : RecordStands k s (joinFree m s) := by
  unfold joinFree
  dsimp only
  split
  · exact ⟨rfl, id, fun _ he _ => he⟩
  · exact RecordStands.refl k s

theorem stopJobTimers_stands (hm : m ≠ n) : EntryStands n s (stopJobTimers m s) := by
  refine ⟨rfl, ?_⟩
  rw [stopJobTimers, setResumed_at, if_neg hm]
  rfl

/-- A HELD compartment is freed from its record. -/
theorem freeHeld (hs : Sound .nothing s) (hheld : s.comps[n].state = .held) (hat : parcelAt k s = some p) (hcomp : p.comp = some n) :
    free n s = joinFree n (stopJobTimers n (withdraw n (modComp n freedUnlinked (setParcel k { p with comp := none } s)))) :=
  free_linked (.inr (by rw [hheld]; rfl)) ((hs.linked n k).mpr ⟨p, hat, hcomp⟩) hat hcomp

/-- The record of a HELD compartment, its deposit given back (R61). -/
def depositResolved (n : CompNo) (k : Slot) (p : Parcel) (s : State) : State :=
  setParcel k { p with state := .advised, comp := none, arrival := none } (free n s)

theorem resolveDeposit_read (r : Resolving a s) (hat : parcelAt k s = some p) (hstate : p.state = .depositing)
    (hcomp : p.comp = some n) : resolveDeposit s k = resumeDeposit n k s := by
  have hin : recordIn k [.depositing] s = true := by rw [recordIn_live hat, hstate]; rfl
  refine (if_pos hin).trans ((onRecord_read hat (r.sound.good.2.1 k) (by rw [hstate]; decide) _).trans ?_)
  rw [hcomp]
  exact r.sound.onComp n _

theorem resumeDeposit_held (hs : Sound .nothing s) (hat : parcelAt k s = some p) (hcomp : p.comp = some n)
    (hheld : s.comps[n].state = .held) : resumeDeposit n k s = depositResolved n k p s := by
  rw [resumeDeposit, hheld]
  exact advised_freed hat ((hs.linked n k).mpr ⟨p, hat, hcomp⟩) hcomp

theorem resumeDeposit_loading (h : s.comps[n].state = .loading) : resumeDeposit n k s = setResumed n true s := by
  rw [resumeDeposit, h]

theorem resumeDeposit_other (hheld : s.comps[n].state ≠ .held) (hloading : s.comps[n].state ≠ .loading) :
    resumeDeposit n k s = s := by
  unfold resumeDeposit
  split
  · next h => exact absurd h hheld
  · next h => exact absurd h hloading
  · rfl

/-- The resolution of a deposit changes nothing, gives a HELD compartment back, or marks a LOADING one. -/
theorem resolveDeposit_cases (r : Resolving a s) (k : Slot) : resolveDeposit s k = s ∨
    (∃ p n, parcelAt k s = some p ∧ p.comp = some n ∧ s.comps[n].state = .held ∧ resolveDeposit s k = depositResolved n k p s) ∨
    (∃ p n, parcelAt k s = some p ∧ p.comp = some n ∧ resolveDeposit s k = setResumed n true s) := by
  cases hin : recordIn k [.depositing] s with
  | false => exact .inl (resolveDeposit_other hin)
  | true =>
    cases hat : parcelAt k s with
    | none => rw [recordIn, hat] at hin; cases hin
    | some p =>
      have hstate : p.state = .depositing := by
        rw [recordIn_live hat] at hin
        exact List.mem_singleton.mp (of_decide_eq_true hin)
      cases hcomp : p.comp with
      | none =>
        refine .inl ((if_pos hin).trans ((onRecord_read hat (r.sound.good.2.1 k) (by rw [hstate]; decide) _).trans ?_))
        rw [hcomp]
      | some n =>
        rw [resolveDeposit_read r hat hstate hcomp]
        by_cases hheld : s.comps[n].state = .held
        · exact .inr (.inl ⟨p, n, rfl, hcomp, hheld, resumeDeposit_held r.sound hat hcomp hheld⟩)
        · by_cases hloading : s.comps[n].state = .loading
          · exact .inr (.inr ⟨p, n, rfl, hcomp, resumeDeposit_loading hloading⟩)
          · exact .inl (resumeDeposit_other hheld hloading)

theorem depositResolved_entry (hs : Sound .nothing s) (hat : parcelAt k s = some p) (hcomp : p.comp = some n)
    (hheld : s.comps[n].state = .held) :
    (depositResolved n k p s).comps[n] = sealCompartment n (freedUnlinked s.comps[n]) := by
  refine Eq.trans (b := (free n s).comps[n]) rfl ?_
  rw [freeHeld hs hheld hat hcomp, (joinFree_stands n n _).entry]
  exact (modComp_at n n freedUnlinked (setParcel k { p with comp := none } s)).trans (if_pos rfl)

theorem depositResolved_stands (hs : Sound .nothing s) (hat : parcelAt k s = some p) (hcomp : p.comp = some m)
    (hheld : s.comps[m].state = .held) (hm : m ≠ n) : EntryStands n s (depositResolved m k p s) := by
  have hwritten : EntryStands n s (modComp m freedUnlinked (setParcel k { p with comp := none } s)) :=
    EntryStands.trans (t := setParcel k { p with comp := none } s) ⟨rfl, rfl⟩ (modComp_stands hm _)
  have hwithdrawn : EntryStands n s (withdraw m (modComp m freedUnlinked (setParcel k { p with comp := none } s))) :=
    ⟨hwritten.entry, hwritten.mark⟩
  have hfreed : EntryStands n s (free m s) := by
    rw [freeHeld hs hheld hat hcomp]
    exact (hwithdrawn.trans (stopJobTimers_stands hm)).trans (joinFree_stands n m _)
  exact ⟨hfreed.entry, hfreed.mark⟩

theorem depositResolved_record (hs : Sound .nothing s) (hat : parcelAt j s = some p) (hcomp : p.comp = some m)
    (hheld : s.comps[m].state = .held) (hj : j ≠ k) : RecordStands k s (depositResolved m j p s) := by
  have hfreed : RecordStands k s (free m s) := by
    rw [freeHeld hs hheld hat hcomp]
    refine RecordStands.trans ?_ (joinFree_record k m _)
    have hwritten := setParcel_record (s := s) hj { p with comp := none }
    exact ⟨hwritten.record, hwritten.queued, hwritten.window⟩
  exact hfreed.trans (setParcel_record hj _)

theorem resolveDeposit_record (r : Resolving a s) (hj : j ≠ k) : RecordStands k s (resolveDeposit s j) := by
  rcases resolveDeposit_cases r j with e | ⟨p, m, hat, hcomp, hheld, e⟩ | ⟨p, m, hat, hcomp, e⟩ <;> rw [e]
  · exact RecordStands.refl k s
  · exact depositResolved_record r.sound hat hcomp hheld hj
  · exact ⟨rfl, id, fun _ he _ => he⟩

/-- A compartment that does not name the record is not the one its deposit is resolved at. -/
theorem Resolving.comp_ne (r : Resolving a s) (hat : parcelAt j s = some p) (hcomp : p.comp = some m)
    (hlink : s.comps[n].link ≠ some j) : m ≠ n := by
  rintro rfl
  exact hlink ((r.sound.linked m j).mpr ⟨p, hat, hcomp⟩)

theorem setResumed_stands (b : Bool) (hm : m ≠ n) : EntryStands n s (setResumed m b s) :=
  ⟨rfl, (setResumed_at m n b s).trans (if_neg hm)⟩

theorem resolveDeposit_stands (r : Resolving a s) (hlink : s.comps[n].link ≠ some j) : EntryStands n s (resolveDeposit s j) := by
  rcases resolveDeposit_cases r j with e | ⟨p, m, hat, hcomp, hheld, e⟩ | ⟨p, m, hat, hcomp, e⟩ <;> rw [e]
  · exact EntryStands.refl n s
  · exact depositResolved_stands r.sound hat hcomp hheld (r.comp_ne hat hcomp hlink)
  · exact setResumed_stands true (r.comp_ne hat hcomp hlink)

theorem resolveDeposit_link (r : Resolving a s) (n : CompNo) (j : Slot) : LinkFalls n s (resolveDeposit s j) := by
  by_cases hlink : s.comps[n].link = some j
  · rcases resolveDeposit_cases r j with e | ⟨p, m, hat, hcomp, hheld, e⟩ | ⟨p, m, hat, hcomp, e⟩ <;> rw [e]
    · exact .inl rfl
    · by_cases hm : m = n
      · subst hm
        refine .inr ?_
        rw [depositResolved_entry r.sound hat hcomp hheld]
        rfl
      · exact .inl (congrArg Compartment.link (depositResolved_stands r.sound hat hcomp hheld hm).entry)
    · exact .inl rfl
  · exact .inl (congrArg Compartment.link (resolveDeposit_stands r hlink).entry)

/-! ### Collections in flight -/

theorem resolveCollection_read (r : Resolving a s) (hat : parcelAt k s = some p)
    (hstate : p.state ∈ [ParcelState.quoting, .due, .untaken, .releasing]) : resolveCollection s k = resumeCollection k p s := by
  have hin : recordIn k [.quoting, .due, .untaken, .releasing] s = true := by
    rw [recordIn_live hat]
    exact decide_eq_true hstate
  exact (if_pos hin).trans (onRecord_read hat (r.sound.good.2.1 k) hstate _)

theorem resumeCollection_quoted (hat : parcelAt k s = some p) (h : p.state = .quoting ∨ p.state = .due) :
    resumeCollection k p s = creditedBack k p p.tendered s := by
  rw [← returnToStored_live hat]
  rcases h with e | e <;> rw [resumeCollection, e]

theorem resumeCollection_untaken (h : p.state = .untaken) : resumeCollection k p s = joinReopen k s := by
  rw [resumeCollection, h]

theorem resumeCollection_releasing (h : p.state = .releasing) (hcomp : p.comp = some n) :
    resumeCollection k p s = resumeRelease .releasing s n := by
  rw [resumeCollection, h, hcomp]

theorem creditedBack_stands (k : Slot) (p : Parcel) (credit : Amount) (n : CompNo) (s : State) :
    EntryStands n s (creditedBack k p credit s) := by
  unfold creditedBack
  dsimp only
  split
  · unfold joinReturnQueue
    dsimp only
    split <;> split <;> exact ⟨rfl, rfl⟩
  · exact ⟨rfl, rfl⟩

theorem joinReturnQueue_record (k j : Slot) (b : Bool) (s : State) : RecordStands k s (joinReturnQueue j b s) := by
  have hjoined : RecordStands k s (if j ∈ s.returns.queue then s
      else { s with returns := { s.returns with queue := s.returns.queue ++ [j] } }) := by
    split
    · exact RecordStands.refl k s
    · exact ⟨rfl, List.mem_append_left [j], fun _ he _ => he⟩
  unfold joinReturnQueue
  dsimp only
  split
  · exact ⟨hjoined.record, hjoined.queued, hjoined.window⟩
  · exact hjoined

theorem creditedBack_record (hj : j ≠ k) (p : Parcel) (credit : Amount) : RecordStands k s (creditedBack j p credit s) := by
  unfold creditedBack
  dsimp only
  split
  · exact (setParcel_record hj _).trans (joinReturnQueue_record k j false _)
  · exact setParcel_record hj _

theorem leaveReopen_record (hj : j ≠ k) : RecordStands k s (setReopen (s.collection.reopen.filter (fun e => e.slot != j)) s) :=
  ⟨rfl, id, fun _ he hk => List.mem_filter.mpr ⟨he, bne_iff_ne.mpr (hk.trans_ne hj.symm)⟩⟩

/-- With a window of length 0 the record is credited at once (R80, R96). -/
theorem joinReopen_credited (hs : Sound .nothing s) (hat : parcelAt k s = some p) (hstate : p.state = .untaken)
    (hzero : s.mgmt.config.reopen = 0) : joinReopen k s =
      creditedBack k p (p.tendered - p.change) (setReopen (s.collection.reopen.filter (fun e => e.slot != k)) s) :=
  (joinReopen_none hzero hat (hs.good.2.1 k) hstate).trans
    (returnToStored_live (s := setReopen (s.collection.reopen.filter (fun e => e.slot != k)) s) hat _)

theorem joinReopen_record (hs : Sound .nothing s) (hat : parcelAt j s = some p) (hstate : p.state = .untaken) (hj : j ≠ k) :
    RecordStands k s (joinReopen j s) := by
  by_cases hzero : s.mgmt.config.reopen = 0
  · rw [joinReopen_credited hs hat hstate hzero]
    exact (leaveReopen_record hj).trans (creditedBack_record hj _ _)
  · rw [joinReopen_full hzero]
    have hleft := leaveReopen_record (s := s) hj
    exact ⟨rfl, id, fun e he hk => List.mem_append_left _ (hleft.window e he hk)⟩

theorem joinReopen_stands (hs : Sound .nothing s) (hat : parcelAt j s = some p) (hstate : p.state = .untaken) (n : CompNo) :
    EntryStands n s (joinReopen j s) := by
  by_cases hzero : s.mgmt.config.reopen = 0
  · rw [joinReopen_credited hs hat hstate hzero]
    exact EntryStands.trans (t := setReopen (s.collection.reopen.filter (fun e => e.slot != j)) s) ⟨rfl, rfl⟩
      (creditedBack_stands j p _ n _)
  · rw [joinReopen_full hzero]
    exact ⟨rfl, rfl⟩

/-- The resolution of a collection changes nothing, credits the record, joins the re-open list, or resumes the release. -/
theorem resolveCollection_cases (r : Resolving a s) (k : Slot) : resolveCollection s k = s ∨
    (∃ p, parcelAt k s = some p ∧ resolveCollection s k = creditedBack k p p.tendered s) ∨
    (∃ p, parcelAt k s = some p ∧ p.state = .untaken ∧ resolveCollection s k = joinReopen k s) ∨
    (∃ p n, parcelAt k s = some p ∧ p.comp = some n ∧ resolveCollection s k = resumeRelease .releasing s n) := by
  cases hin : recordIn k [.quoting, .due, .untaken, .releasing] s with
  | false => exact .inl (resolveCollection_other hin)
  | true =>
    cases hat : parcelAt k s with
    | none => rw [recordIn, hat] at hin; cases hin
    | some p =>
      rw [recordIn_live hat] at hin
      have hmem := of_decide_eq_true hin
      rw [resolveCollection_read r hat hmem]
      simp only [List.mem_cons, List.not_mem_nil, or_false] at hmem
      rcases hmem with e | e | e | e
      · exact .inr (.inl ⟨p, rfl, resumeCollection_quoted hat (.inl e)⟩)
      · exact .inr (.inl ⟨p, rfl, resumeCollection_quoted hat (.inr e)⟩)
      · exact .inr (.inr (.inl ⟨p, rfl, e, resumeCollection_untaken e⟩))
      · cases hcomp : p.comp with
        | none => exact .inl (by rw [resumeCollection, e, hcomp])
        | some n => exact .inr (.inr (.inr ⟨p, n, rfl, hcomp, resumeCollection_releasing e hcomp⟩))

theorem resolveCollection_record (r : Resolving a s) (hj : j ≠ k) : RecordStands k s (resolveCollection s j) := by
  rcases resolveCollection_cases r j with e | ⟨p, hat, e⟩ | ⟨p, hat, hstate, e⟩ | ⟨p, n, hat, hcomp, e⟩ <;> rw [e]
  · exact RecordStands.refl k s
  · exact creditedBack_record hj _ _
  · exact joinReopen_record r.sound hat hstate hj
  · exact resumeRelease_record r n

theorem resolveCollection_stands (r : Resolving a s) (hlink : s.comps[n].link ≠ some j) : EntryStands n s (resolveCollection s j) := by
  rcases resolveCollection_cases r j with e | ⟨p, hat, e⟩ | ⟨p, hat, hstate, e⟩ | ⟨p, m, hat, hcomp, e⟩ <;> rw [e]
  · exact EntryStands.refl n s
  · exact creditedBack_stands j p _ n s
  · exact joinReopen_stands r.sound hat hstate n
  · exact resumeRelease_stands r (r.comp_ne hat hcomp hlink)

theorem resolveCollection_link (r : Resolving a s) (n : CompNo) (j : Slot) : LinkFalls n s (resolveCollection s j) := by
  rcases resolveCollection_cases r j with e | ⟨p, hat, e⟩ | ⟨p, hat, hstate, e⟩ | ⟨p, m, hat, hcomp, e⟩ <;> rw [e]
  · exact .inl rfl
  · exact .inl (congrArg Compartment.link (creditedBack_stands j p _ n s).entry)
  · exact .inl (congrArg Compartment.link (joinReopen_stands r.sound hat hstate n).entry)
  · exact resumeRelease_link r n m

end Sys2Proof.Machine

/-! PROOFS. A warm start and an engine restart, settled: what each leaves by block, with no job in flight, and of each job
in flight (11.4). -/

namespace Sys2Proof.Machine

variable {a s t x y z : State} {n m : CompNo} {k j : Slot} {p q : Parcel} {o : Option Slot}

/-! ### One job followed through the resolutions -/

theorem Followed.resolveMaint (f : Followed a o n s) (m : CompNo) : Followed a o n (resolveMaint s m) :=
  ⟨f.resolving.resolveMaint m, (resolveMaint_link f.resolving n m).own f.own⟩

theorem Followed.resolveDeposit (f : Followed a o n s) (j : Slot) : Followed a o n (resolveDeposit s j) :=
  ⟨f.resolving.resolveDeposit j, (resolveDeposit_link f.resolving n j).own f.own⟩

theorem Followed.resolveCollection (f : Followed a o n s) (j : Slot) : Followed a o n (resolveCollection s j) :=
  ⟨f.resolving.resolveCollection j, (resolveCollection_link f.resolving n j).own f.own⟩

theorem Followed.resolveSweep (f : Followed a o n s) (m : CompNo) : Followed a o n (resolveSweep s m) :=
  ⟨f.resolving.resumeRelease rfl m, (resumeRelease_link f.resolving n m).own f.own⟩

section Folds

variable {α : Type} {f : State → α → State} {l : List α} {b : α}

theorem followed_foldl (hkeep : ∀ {x} c, Followed a o n x → Followed a o n (f x c)) (h : Followed a o n s) :
    Followed a o n (l.foldl f s) := by
  induction l generalizing s with
  | nil => exact h
  | cons c l ih => exact ih (hkeep c h)

/-- A fold none of whose steps is the job's own leaves the job standing. -/
theorem stands_foldl {R : State → State → Prop} (hrefl : ∀ x, R x x) (htrans : ∀ {x y z}, R x y → R y z → R x z)
    (hkeep : ∀ {x} c, Followed a o n x → Followed a o n (f x c)) (hothers : ∀ {x} c, c ∈ l → Followed a o n x → R x (f x c))
    (h : Followed a o n s) : R s (l.foldl f s) := by
  induction l generalizing s with
  | nil => exact hrefl s
  | cons c l ih =>
    exact htrans (hothers c (List.mem_cons_self ..) h) (ih (fun c hc => hothers c (List.mem_cons_of_mem _ hc)) (hkeep c h))

/-- A fold with one step of the job's own leaves the job as that step does. -/
theorem stands_foldl_at {R : State → State → Prop} (hrefl : ∀ x, R x x) (htrans : ∀ {x y z}, R x y → R y z → R x z)
    (hnodup : l.Nodup) (hmem : b ∈ l) (hkeep : ∀ {x} c, Followed a o n x → Followed a o n (f x c))
    (hothers : ∀ {x} c, c ≠ b → Followed a o n x → R x (f x c)) (h : Followed a o n s) :
    ∃ y, Followed a o n y ∧ R s y ∧ R (f y b) (l.foldl f s) := by
  induction l generalizing s with
  | nil => cases hmem
  | cons c l ih =>
    obtain ⟨hc, hnodup⟩ := List.nodup_cons.mp hnodup
    by_cases e : c = b
    · subst e
      exact ⟨s, h, hrefl s, stands_foldl hrefl htrans hkeep (fun d hd => hothers d fun e => hc (e ▸ hd)) (hkeep c h)⟩
    · obtain ⟨y, hy, hbefore, hafter⟩ := ih hnodup ((List.mem_cons.mp hmem).resolve_left (Ne.symm e)) (hkeep c h)
      exact ⟨y, hy, htrans (hothers c e h) hbefore, hafter⟩

end Folds

theorem none_ne : none ≠ some j := nofun

theorem some_ne (h : j ≠ k) : some k ≠ some j := fun e => h (Option.some.inj e).symm

/-- A job is resolved by the steps at its own record and its own compartment, in their order; MAINT is none of it. -/
theorem jobsResolved_at (h : Followed a (some k) n s) (hmaint : s.comps[n].state ≠ .maint) : ∃ y z w,
    Followed a (some k) n y ∧ Stands k n s y ∧ Followed a (some k) n z ∧ Stands k n (resolveDeposit y k) z ∧
      Followed a (some k) n w ∧ Stands k n (resolveCollection z k) w ∧ Stands k n (resolveSweep w n) (jobsResolved s) := by
  have hcomps := List.nodup_finRange 240
  have hslots := List.nodup_finRange 384
  have hfollowed := followed_foldl (l := List.finRange 240) (fun m f => f.resolveMaint m) h
  obtain ⟨x, _, hx, hx'⟩ := stands_foldl_at (Stands.refl k n) Stands.trans hcomps (List.mem_finRange n) (fun m f => f.resolveMaint m)
    (fun m hm f => ⟨resolveMaint_stands f.resolving hm, resolveMaint_record f.resolving m⟩) h
  rw [resolveMaint_other (by rw [hx.1.entry]; exact hmaint)] at hx'
  obtain ⟨y, hy, hxy, hy'⟩ := stands_foldl_at (Stands.refl k n) Stands.trans hslots (List.mem_finRange k) (fun j f => f.resolveDeposit j)
    (fun j hj f => ⟨resolveDeposit_stands f.resolving (f.own_ne (some_ne hj)), resolveDeposit_record f.resolving hj⟩) hfollowed
  have hfollowed := followed_foldl (l := List.finRange 384) (fun j f => f.resolveDeposit j) hfollowed
  obtain ⟨z, hz, hyz, hz'⟩ := stands_foldl_at (Stands.refl k n) Stands.trans hslots (List.mem_finRange k) (fun j f => f.resolveCollection j)
    (fun j hj f => ⟨resolveCollection_stands f.resolving (f.own_ne (some_ne hj)), resolveCollection_record f.resolving hj⟩) hfollowed
  have hfollowed := followed_foldl (l := List.finRange 384) (fun j f => f.resolveCollection j) hfollowed
  obtain ⟨w, hw, hzw, hw'⟩ := stands_foldl_at (Stands.refl k n) Stands.trans hcomps (List.mem_finRange n) (fun m f => f.resolveSweep m)
    (fun m hm f => ⟨resumeRelease_stands f.resolving hm, resumeRelease_record f.resolving m⟩) hfollowed
  exact ⟨y, z, w, hy, (hx.trans hx').trans hxy, hz, hy'.trans hyz, hw, hz'.trans hzw, hw'⟩

/-! ### The steps that pass a job by -/

theorem resolveDeposit_pass (hat : parcelAt k s = some p) (h : p.state ≠ .depositing) : resolveDeposit s k = s :=
  resolveDeposit_other (by rw [recordIn_live hat]; exact decide_eq_false fun e => h (List.mem_singleton.mp e))

theorem resolveCollection_pass (hat : parcelAt k s = some p)
    (h : p.state ∉ [ParcelState.quoting, .due, .untaken, .releasing]) : resolveCollection s k = s :=
  resolveCollection_other (by rw [recordIn_live hat]; exact decide_eq_false h)

theorem Followed.of_link (r : Resolving a s) (hat : parcelAt k s = some p) (hcomp : p.comp = some n) : Followed a (some k) n s :=
  ⟨r, .inr ((r.sound.linked n k).mpr ⟨p, hat, hcomp⟩)⟩

/-- A compartment that names a record is not in MAINT. -/
theorem Resolving.not_maint (r : Resolving a s) (hat : parcelAt k s = some p) (hcomp : p.comp = some n) :
    s.comps[n].state ≠ .maint := fun e =>
  nomatch ((r.sound.entry n).unlinked (.inr (.inr e))).symm.trans ((r.sound.linked n k).mpr ⟨p, hat, hcomp⟩)

/-! ### Deposits -/

theorem freedUnlinked_state (c : Compartment) : (freedUnlinked c).state = .barred ∨ (freedUnlinked c).state = .vacant := by
  show (if c.pendingBar then CompState.barred else .vacant) = .barred ∨
    (if c.pendingBar then CompState.barred else .vacant) = .vacant
  split
  · exact .inl rfl
  · exact .inr rfl

theorem jobsResolved_held (r : Resolving a s) (hat : parcelAt k s = some p) (hcomp : p.comp = some n)
    (hstate : p.state = .depositing) (hheld : s.comps[n].state = .held) :
    parcelAt k (jobsResolved s) = some (sealParcel k { p with state := .advised, comp := none, arrival := none }) ∧
      (jobsResolved s).comps[n] = sealCompartment n (freedUnlinked s.comps[n]) := by
  obtain ⟨y, z, w, hy, hsy, hz, hyz, hw, hzw, hwt⟩ := jobsResolved_at (.of_link r hat hcomp) (r.not_maint hat hcomp)
  have haty : parcelAt k y = some p := hsy.2.record.trans hat
  have hheldy : y.comps[n].state = .held := (congrArg Compartment.state hsy.1.entry).trans hheld
  rw [resolveDeposit_read hy.resolving haty hstate hcomp, resumeDeposit_held hy.resolving.sound haty hcomp hheldy] at hyz
  have hatz : parcelAt k z = some (sealParcel k { p with state := .advised, comp := none, arrival := none }) :=
    hyz.2.record.trans (parcelAt_setParcel _)
  have hentry : z.comps[n] = sealCompartment n (freedUnlinked s.comps[n]) := by
    rw [hyz.1.entry, depositResolved_entry hy.resolving.sound haty hcomp hheldy, hsy.1.entry]
  rw [resolveCollection_pass hatz (show ParcelState.advised ∉ _ by decide)] at hzw
  have hother : w.comps[n].state ≠ .sweeping := by
    rw [hzw.1.entry, hentry]
    show (freedUnlinked s.comps[n]).state ≠ .sweeping
    rcases freedUnlinked_state s.comps[n] with e | e <;> rw [e] <;> decide
  rw [resolveSweep, resumeRelease_other hother] at hwt
  have hall := hzw.trans hwt
  exact ⟨hall.2.record.trans hatz, hall.1.entry.trans hentry⟩

theorem jobsResolved_loading (r : Resolving a s) (hat : parcelAt k s = some p) (hcomp : p.comp = some n)
    (hstate : p.state = .depositing) (hloading : s.comps[n].state = .loading) :
    parcelAt k (jobsResolved s) = some p ∧ (jobsResolved s).comps[n] = s.comps[n] ∧
      (jobsResolved s).deposit.resumed[n] = true := by
  obtain ⟨y, z, w, hy, hsy, hz, hyz, hw, hzw, hwt⟩ := jobsResolved_at (.of_link r hat hcomp) (r.not_maint hat hcomp)
  have haty : parcelAt k y = some p := hsy.2.record.trans hat
  have hloadingy : y.comps[n].state = .loading := (congrArg Compartment.state hsy.1.entry).trans hloading
  rw [resolveDeposit_read hy.resolving haty hstate hcomp, resumeDeposit_loading hloadingy] at hyz
  have hatz : parcelAt k z = some p := hyz.2.record.trans haty
  have hentry : z.comps[n] = s.comps[n] := hyz.1.entry.trans hsy.1.entry
  rw [resolveCollection_pass hatz (by rw [hstate]; decide)] at hzw
  rw [resolveSweep, resumeRelease_other (by rw [hzw.1.entry, hentry, hloading]; decide)] at hwt
  have hall := hzw.trans hwt
  refine ⟨hall.2.record.trans hatz, hall.1.entry.trans hentry, (hall.1.mark.trans hyz.1.mark).trans ?_⟩
  rw [setResumed_at, if_pos rfl]

/-! ### Collections -/

/-- A record in a collection is resolved as it stood at the start, and its entry with it. -/
theorem jobsResolved_collected (r : Resolving a s) (hat : parcelAt k s = some p) (hcomp : p.comp = some n)
    (hstate : p.state ≠ .depositing) : ∃ z w, Followed a (some k) n z ∧ Stands k n s z ∧ Followed a (some k) n w ∧
      Stands k n (resolveCollection z k) w ∧ Stands k n (resolveSweep w n) (jobsResolved s) := by
  obtain ⟨y, z, w, hy, hsy, hz, hyz, hw, hzw, hwt⟩ := jobsResolved_at (.of_link r hat hcomp) (r.not_maint hat hcomp)
  rw [resolveDeposit_pass (hsy.2.record.trans hat) hstate] at hyz
  exact ⟨z, w, hz, hsy.trans hyz, hw, hzw, hwt⟩

theorem Resolving.expired (r : Resolving a s) (k : Slot) (p : Parcel) :
    isExpired k p s.time.minute s = isExpired k p a.time.minute a := by
  have htime : s.time = a.time := congrArg StartParts.time r.kept.parts
  have hcharge : s.charge = a.charge := congrArg StartParts.charge r.kept.parts
  rw [isExpired, isExpired, htime, hcharge]

/-- The record behind a credit: STORED, or expired and in the return queue. -/
theorem creditedBack_at (k : Slot) (p : Parcel) (credit : Amount) (s : State) :
    parcelAt k (creditedBack k p credit s) = some (sealParcel k { p with
      prepaid := p.prepaid + credit, tendered := 0, change := 0, quote := none
      state := if isExpired k p s.time.minute s then .returnQueued else .stored }) ∧
    (isExpired k p s.time.minute s = true → k ∈ (creditedBack k p credit s).returns.queue) := by
  unfold creditedBack
  dsimp only
  split
  · next hexpired =>
    refine ⟨(parcelAt_of_parcels (joinReturnQueue_parcels ..)).trans (parcelAt_setParcel _), fun _ => ?_⟩
    rw [joinReturnQueue_at (parcelAt_setParcel _)]
    show k ∈ if k ∈ _ then _ else _
    split
    · assumption
    · exact List.mem_append_right _ (List.mem_singleton.mpr rfl)
  · next hfresh => exact ⟨parcelAt_setParcel _, fun e => absurd e hfresh⟩

theorem jobsResolved_quoted (r : Resolving a s) (hat : parcelAt k s = some p) (hcomp : p.comp = some n)
    (hstate : p.state = .quoting ∨ p.state = .due) :
    parcelAt k (jobsResolved s) = some (sealParcel k { p with
      prepaid := p.prepaid + p.tendered, tendered := 0, change := 0, quote := none
      state := if isExpired k p a.time.minute a then .returnQueued else .stored }) ∧
    (isExpired k p a.time.minute a = true → k ∈ (jobsResolved s).returns.queue) := by
  obtain ⟨z, w, hz, hsz, hw, hzw, hwt⟩ := jobsResolved_collected r hat hcomp (by rcases hstate with e | e <;> rw [e] <;> decide)
  have hatz : parcelAt k z = some p := hsz.2.record.trans hat
  rw [resolveCollection_read hz.resolving hatz (by rcases hstate with e | e <;> rw [e] <;> decide),
    resumeCollection_quoted hatz hstate] at hzw
  have hall := hzw.2.trans ((resumeRelease_record hw.resolving n).trans hwt.2)
  obtain ⟨hrecord, hqueued⟩ := creditedBack_at k p p.tendered z
  rw [hz.resolving.expired] at hrecord hqueued
  exact ⟨hall.record.trans hrecord, fun e => hall.queued (hqueued e)⟩

theorem Resolving.window (r : Resolving a s) : s.mgmt.config.reopen = a.mgmt.config.reopen := by
  have hmgmt : s.mgmt = a.mgmt := congrArg StartParts.mgmt r.kept.parts
  rw [hmgmt]

theorem jobsResolved_untaken (r : Resolving a s) (hat : parcelAt k s = some p) (hcomp : p.comp = some n)
    (hstate : p.state = .untaken) (hwindow : 0 < a.mgmt.config.reopen) :
    parcelAt k (jobsResolved s) = some p ∧ { slot := k, left := a.mgmt.config.reopen } ∈ (jobsResolved s).collection.reopen := by
  obtain ⟨z, w, hz, hsz, hw, hzw, hwt⟩ := jobsResolved_collected r hat hcomp (by rw [hstate]; decide)
  have hatz : parcelAt k z = some p := hsz.2.record.trans hat
  have hopen : z.mgmt.config.reopen ≠ 0 := by rw [hz.resolving.window]; exact Nat.ne_of_gt hwindow
  rw [resolveCollection_read hz.resolving hatz (by rw [hstate]; decide), resumeCollection_untaken hstate,
    joinReopen_full hopen] at hzw
  have hall := hzw.2.trans ((resumeRelease_record hw.resolving n).trans hwt.2)
  refine ⟨hall.record.trans hatz, hall.window _ (List.mem_append_right _ (List.mem_singleton.mpr ?_)) rfl⟩
  rw [hz.resolving.window]

theorem jobsResolved_windowless (r : Resolving a s) (hat : parcelAt k s = some p) (hcomp : p.comp = some n)
    (hstate : p.state = .untaken) (hwindow : a.mgmt.config.reopen = 0) :
    parcelAt k (jobsResolved s) = some (sealParcel k { p with
      prepaid := p.prepaid + (p.tendered - p.change), tendered := 0, change := 0, quote := none
      state := if isExpired k p a.time.minute a then .returnQueued else .stored }) := by
  obtain ⟨z, w, hz, hsz, hw, hzw, hwt⟩ := jobsResolved_collected r hat hcomp (by rw [hstate]; decide)
  have hatz : parcelAt k z = some p := hsz.2.record.trans hat
  rw [resolveCollection_read hz.resolving hatz (by rw [hstate]; decide), resumeCollection_untaken hstate,
    joinReopen_credited hz.resolving.sound hatz hstate (hz.resolving.window.trans hwindow)] at hzw
  let left := setReopen (z.collection.reopen.filter (fun e => e.slot != k)) z
  have hexpired : isExpired k p left.time.minute left = isExpired k p a.time.minute a := hz.resolving.expired k p
  have hrecord := (creditedBack_at k p (p.tendered - p.change) left).1
  rw [hexpired] at hrecord
  exact (hzw.2.trans ((resumeRelease_record hw.resolving n).trans hwt.2)).record.trans hrecord

/-! ### Releases and swept compartments -/

theorem jobsResolved_released (r : Resolving a s) (hat : parcelAt k s = some p) (hcomp : p.comp = some n)
    (hstate : p.state = .releasing ∧ s.comps[n].state = .releasing ∨ p.state = .sweeping ∧ s.comps[n].state = .sweeping) :
    parcelAt k (jobsResolved s) = some p ∧ (jobsResolved s).deposit.resumed[n] = true ∧
      (jobsResolved s).comps[n] = sealCompartment n { s.comps[n] with attempts := 0 } := by
  obtain ⟨z, w, hz, hsz, hw, hzw, hwt⟩ :=
    jobsResolved_collected r hat hcomp (by rcases hstate with ⟨e, -⟩ | ⟨e, -⟩ <;> rw [e] <;> decide)
  have hatz : parcelAt k z = some p := hsz.2.record.trans hat
  rcases hstate with ⟨hstate, hentry⟩ | ⟨hstate, hentry⟩
  · have hreleasing : z.comps[n].state = .releasing := (congrArg Compartment.state hsz.1.entry).trans hentry
    rw [resolveCollection_read hz.resolving hatz (by rw [hstate]; decide), resumeCollection_releasing hstate hcomp,
      resumeRelease_read hz.resolving hreleasing] at hzw
    have hresumed : w.comps[n] = sealCompartment n { s.comps[n] with attempts := 0 } := by
      rw [hzw.1.entry, markResumed_entry, hsz.1.entry]
    have hother : w.comps[n].state ≠ .sweeping := by
      rw [hresumed]
      show s.comps[n].state ≠ .sweeping
      rw [hentry]
      decide
    rw [resolveSweep, resumeRelease_other hother] at hwt
    exact ⟨(hzw.trans hwt).2.record.trans hatz, (hzw.trans hwt).1.mark.trans (markResumed_mark n z), hwt.1.entry.trans hresumed⟩
  · rw [resolveCollection_pass hatz (by rw [hstate]; decide)] at hzw
    have hall := hsz.trans hzw
    have hsweeping : w.comps[n].state = .sweeping := (congrArg Compartment.state hall.1.entry).trans hentry
    rw [resolveSweep, resumeRelease_read hw.resolving hsweeping] at hwt
    refine ⟨(hwt.2.record.trans hall.2.record).trans hat, hwt.1.mark.trans (markResumed_mark n w), hwt.1.entry.trans ?_⟩
    rw [markResumed_entry, hall.1.entry]

/-! ### The maintenance loop -/

/-- A compartment in MAINT names no record, so the step at it alone reaches it (R20). -/
theorem jobsResolved_maint (r : Resolving a s) (hmaint : s.comps[n].state = .maint) :
    (jobsResolved s).comps[n] = sealCompartment n { s.comps[n] with phase := .none } := by
  have hcomps := List.nodup_finRange 240
  have h : Followed a none n s := ⟨r, .inl ((r.sound.entry n).unlinked (.inr (.inr hmaint)))⟩
  obtain ⟨x, hx, hsx, hx'⟩ := stands_foldl_at (R := EntryStands n) (EntryStands.refl n) EntryStands.trans hcomps
    (List.mem_finRange n) (fun m f => f.resolveMaint m) (fun _ hm f => resolveMaint_stands f.resolving hm) h
  have hmaintx : x.comps[n].state = .maint := (congrArg Compartment.state hsx.entry).trans hmaint
  rw [resolveMaint_read hx.resolving hmaintx] at hx'
  have hfollowed := followed_foldl (l := List.finRange 240) (fun m f => f.resolveMaint m) h
  have hy := stands_foldl (R := EntryStands n) (l := List.finRange 384) (EntryStands.refl n) EntryStands.trans
    (fun j f => f.resolveDeposit j) (fun j _ f => resolveDeposit_stands f.resolving (f.own_ne none_ne)) hfollowed
  have hfollowed := followed_foldl (l := List.finRange 384) (fun j f => f.resolveDeposit j) hfollowed
  have hz := stands_foldl (R := EntryStands n) (l := List.finRange 384) (EntryStands.refl n) EntryStands.trans
    (fun j f => f.resolveCollection j) (fun j _ f => resolveCollection_stands f.resolving (f.own_ne none_ne)) hfollowed
  have hfollowed := followed_foldl (l := List.finRange 384) (fun j f => f.resolveCollection j) hfollowed
  obtain ⟨w, _, hzw, hwt⟩ := stands_foldl_at (R := EntryStands n) (EntryStands.refl n) EntryStands.trans hcomps
    (List.mem_finRange n) (fun m f => f.resolveSweep m) (fun _ hm f => resumeRelease_stands f.resolving hm) hfollowed
  have hall := ((hx'.trans hy).trans hz).trans hzw
  have hentry : w.comps[n] = sealCompartment n { s.comps[n] with phase := .none } := by
    rw [hall.entry, modComp_at, if_pos rfl, hsx.entry]
  have hother : w.comps[n].state ≠ .sweeping := by
    rw [hentry]
    show s.comps[n].state ≠ .sweeping
    rw [hmaint]
    decide
  rw [resolveSweep, resumeRelease_other hother] at hwt
  exact hwt.entry.trans hentry

/-! ### A re-open list without windows -/

theorem joinFree_collection (n : CompNo) (s : State) : (joinFree n s).collection = s.collection := by
  unfold joinFree
  dsimp only
  split <;> rfl

theorem joinReturnQueue_collection (k : Slot) (b : Bool) (s : State) : (joinReturnQueue k b s).collection = s.collection := by
  unfold joinReturnQueue
  dsimp only
  split <;> split <;> rfl

theorem creditedBack_collection (k : Slot) (p : Parcel) (credit : Amount) (s : State) :
    (creditedBack k p credit s).collection = s.collection := by
  unfold creditedBack
  dsimp only
  split
  · exact joinReturnQueue_collection ..
  · rfl

theorem resumeRelease_collection {st : CompState} (r : Resolving a s) (n : CompNo) :
    (resumeRelease st s n).collection = s.collection := by
  by_cases h : s.comps[n].state = st
  · rw [resumeRelease_read r h]; rfl
  · rw [resumeRelease_other h]

theorem resolveMaint_collection (r : Resolving a s) (n : CompNo) : (resolveMaint s n).collection = s.collection := by
  by_cases h : s.comps[n].state = .maint
  · rw [resolveMaint_read r h]; rfl
  · rw [resolveMaint_other h]

theorem resolveDeposit_collection (r : Resolving a s) (k : Slot) : (resolveDeposit s k).collection = s.collection := by
  rcases resolveDeposit_cases r k with e | ⟨p, n, hat, hcomp, hheld, e⟩ | ⟨p, n, hat, hcomp, e⟩ <;> rw [e]
  · refine Eq.trans (b := (free n s).collection) rfl ?_
    rw [freeHeld r.sound hheld hat hcomp, joinFree_collection]
    rfl
  · rfl

/-- Resolving, with a re-open time of 0 and no window open. -/
structure Windowless (a s : State) : Prop where
  resolving : Resolving a s
  empty : s.collection.reopen = []

theorem Windowless.of_collection (h : Windowless a s) (r : Resolving a t) (e : t.collection = s.collection) : Windowless a t :=
  ⟨r, (congrArg CollectionEngine.reopen e).trans h.empty⟩

theorem Windowless.resolveCollection (hzero : a.mgmt.config.reopen = 0) (h : Windowless a s) (k : Slot) :
    Windowless a (resolveCollection s k) := by
  refine ⟨h.resolving.resolveCollection k, ?_⟩
  rcases resolveCollection_cases h.resolving k with e | ⟨p, _, e⟩ | ⟨p, hat, hstate, e⟩ | ⟨p, n, _, _, e⟩ <;> rw [e]
  · exact h.empty
  · rw [creditedBack_collection, h.empty]
  · rw [joinReopen_credited h.resolving.sound hat hstate (h.resolving.window.trans hzero), creditedBack_collection]
    show s.collection.reopen.filter _ = []
    rw [h.empty]
    rfl
  · rw [resumeRelease_collection h.resolving, h.empty]

theorem windowless_foldl {α : Type} {f : State → α → State} (hf : ∀ {s} x, Windowless a s → Windowless a (f s x)) (l : List α)
    (h : Windowless a s) : Windowless a (l.foldl f s) := by
  induction l generalizing s with
  | nil => exact h
  | cons x l ih => exact ih (hf x h)

/-- With a re-open time of 0 no window is opened. -/
theorem jobsResolved_reopen (hzero : a.mgmt.config.reopen = 0) (h : Windowless a s) : (jobsResolved s).collection.reopen = [] := by
  have hmaint := windowless_foldl (fun n h => h.of_collection (h.resolving.resolveMaint n) (resolveMaint_collection h.resolving n))
    (List.finRange 240) h
  have hdeposits := windowless_foldl (fun k h => h.of_collection (h.resolving.resolveDeposit k)
    (resolveDeposit_collection h.resolving k)) (List.finRange 384) hmaint
  have hcollections := windowless_foldl (fun k h => h.resolveCollection hzero k) (List.finRange 384) hdeposits
  have hsweeps := windowless_foldl (f := resolveSweep) (fun n h => h.of_collection (h.resolving.resumeRelease rfl n)
    (resumeRelease_collection h.resolving n)) (List.finRange 240) hcollections
  rw [jobsResolved]
  exact hsweeps.empty

end Sys2Proof.Machine

/-! PROOFS. The statement of the kept starts, by block, with no job in flight, and job by job (11.4). -/

namespace Sys2Proof.Machine

variable {s : State} {kind : StartKind}

/-- Of the blocks a start begins anew, what the jobs in flight leave as it began. -/
theorem keptStart_blocks (s : State) (kind : StartKind) :
    let t := keptStart kind s
    startParts t = { startParts (keptValues kind s) with bus := t.bus } ∧
      (∃ x, startParts x = startParts (keptValues kind s) ∧ t.bus = startedBus x) ∧
      ∀ cls, listOf cls t.freeLists = rebuiltList cls t := by
  intro t
  obtain ⟨x, u, c, -, hparts, he, -⟩ := keptStart_eq kind s
  have ht : t = { rebuildFreeLists x with bus := startedBus x, notices := u, counters := c } := he
  rw [ht]
  refine ⟨?_, ⟨x, hparts, rfl⟩, fun cls => listOf_rebuild cls x⟩
  rw [← hparts]
  rfl

theorem keptStart_tables (s : State) (kind : StartKind) :
    let t := keptStart kind s
    let x := jobsResolved (keptValues kind s)
    t.comps = x.comps ∧ t.parcels = x.parcels ∧ t.creds.ways = x.creds.ways ∧ t.returns.queue = x.returns.queue ∧
      t.deposit = x.deposit ∧ t.collection = x.collection ∧ t.maintSlot = x.maintSlot ∧ t.checker = x.checker ∧
      (holdWanted s = false → t.notices = (raise (.link (.start kind)) x).notices ∧ t.counters = x.counters) := by
  intro t x
  obtain ⟨y, u, c, hx, -, he, hnone⟩ := keptStart_eq kind s
  have ht : t = { rebuildFreeLists y with bus := startedBus y, notices := u, counters := c } := he
  have hxy : x = y := hx.symm
  rw [ht, hxy]
  exact ⟨rfl, rfl, rfl, rfl, rfl, rfl, rfl, rfl, hnone⟩

/-- Settles O44. The resolutions leave every block but the tables as the start began it, damaged entries or not; where the
tables agree, each job is resolved by the steps at its own record and compartment. -/
theorem keptStartKeepsTheDomainAndResolvesJobs : Obligations.KeptStartKeepsTheDomainAndResolvesJobs := by
  intro s kind hkind
  have htables := keptStart_tables s kind
  have hblocks := keptStart_blocks s kind
  generalize keptStart kind s = t at htables hblocks ⊢
  obtain ⟨hcomps, hparcels, hways, hqueue, hdeposit, hcollection, hslot, hchecker, hnotices⟩ := htables
  refine ⟨?_, fun hrecords hstates => ?_, fun hgood hagree => ?_⟩
  · obtain ⟨hparts, ⟨x, hx, hbus⟩, hlists⟩ := hblocks
    obtain ⟨hq, ho, huse, hretry, hreturning, hcolumns⟩ := startedBus_kept kind hkind hx
    obtain ⟨hlast, hwarm, hengine⟩ := causeAfter_counts kind hkind s.mgmt.resetCause
    simp only [startParts, StartParts.mk.injEq] at hparts
    obtain ⟨hlink, hterms, hmarkers, hcharge, hcontexts, hsweep, hscanner, harbiter, -, hdormancy, hdoors, hmgmt, htime, hlines⟩ :=
      hparts
    rw [← hbus] at hq ho huse hretry hreturning hcolumns
    have henumeration : t.bus.enumeration = some { todo := List.finRange 12, reply := none } := by rw [hbus]; rfl
    have hcause : t.mgmt.resetCause = causeAfter kind s.mgmt.resetCause := by rw [hmgmt]; rfl
    rw [← hcause] at hlast hwarm hengine
    refine ⟨hlink, fun u => ?_, fun u => ?_, by rw [hcharge]; rfl, by rw [hcharge]; rfl, fun u => ?_, hsweep, hscanner, harbiter,
      hq, ho, huse, hretry, hreturning, henumeration, hcolumns, hdormancy, fun n => ?_, fun a => ?_, fun a => ?_,
      by rw [hmgmt]; rfl, by rw [hmgmt]; rfl, hlast, hwarm, hengine, by rw [hmgmt]; rfl, hlists, htime, hlines,
      by rw [hcharge]; rfl, by rw [hcharge]; rfl⟩
    · exact (congrArg (fun v : Vector TermContext 4 => v[u]) hterms).trans (Vector.getElem_replicate u.isLt)
    · exact (congrArg (fun v : Vector (Option DepositMarker) 4 => v[u]) hmarkers).trans (Vector.getElem_replicate u.isLt)
    · exact (congrArg (fun v : Vector QuoteContext 4 => v[u]) hcontexts).trans (Vector.getElem_replicate u.isLt)
    · exact (congrArg (fun d : DoorSupervisor => d.records[n]) hdoors).trans (Vector.getElem_replicate n.isLt)
    · exact (congrArg (fun d : DoorSupervisor => d.firstPoll[a]) hdoors).trans (Vector.getElem_replicate a.isLt)
    · refine (congrArg (fun d : DoorSupervisor => d.lastTrace[a]) hdoors).trans ?_
      rcases hkind with rfl | rfl
      · exact Vector.getElem_replicate a.isLt
      · rfl
  · have hnone : jobsResolved (keptValues kind s) = keptValues kind s := jobsResolved_of_none hrecords hstates
    rw [hnone] at hcomps hparcels hways hqueue hdeposit hcollection hslot hchecker hnotices
    exact ⟨hparcels, hcomps, hways, hqueue, hdeposit, hcollection, hslot, hchecker.trans (by cases kind <;> rfl),
      fun hheld => ⟨(hnotices hheld).1, (hnotices hheld).2.trans (by cases kind <;> rfl)⟩⟩
  · have r := resolving_keptValues kind (sound_iff.mpr ⟨hgood, hagree⟩)
    have hrecord : ∀ k, parcelAt k t = parcelAt k (jobsResolved (keptValues kind s)) := fun k => parcelAt_of_parcels hparcels
    have hentry : ∀ n : CompNo, t.comps[n] = (jobsResolved (keptValues kind s)).comps[n] := fun n =>
      congrArg (fun v : Vector Compartment 240 => v[n]) hcomps
    have hmark : ∀ n : CompNo, t.deposit.resumed[n] = (jobsResolved (keptValues kind s)).deposit.resumed[n] := fun n =>
      congrArg (fun d : DepositEngine => d.resumed[n]) hdeposit
    refine ⟨fun k p n hat hcomp => ⟨fun hp hn => ?_, fun hp hn => ?_, fun hp => ?_, fun hp hw => ?_, fun hp hw => ?_, fun hp => ?_⟩,
      fun n hn => (hentry n).trans (jobsResolved_maint r hn)⟩
    · obtain ⟨h1, h2⟩ := jobsResolved_held r hat hcomp hp hn
      exact ⟨(hrecord k).trans h1, (hentry n).trans h2⟩
    · obtain ⟨h1, h2, h3⟩ := jobsResolved_loading r hat hcomp hp hn
      exact ⟨(hrecord k).trans h1, (hentry n).trans h2, (hmark n).trans h3⟩
    · obtain ⟨h1, h2⟩ := jobsResolved_quoted r hat hcomp hp
      exact ⟨(hrecord k).trans h1, fun e => by rw [hqueue]; exact h2 e⟩
    · obtain ⟨h1, h2⟩ := jobsResolved_untaken r hat hcomp hp hw
      exact ⟨(hrecord k).trans h1, by rw [hcollection]; exact h2⟩
    · exact ⟨(hrecord k).trans (jobsResolved_windowless (a := keptValues kind s) r hat hcomp hp hw),
        by rw [hcollection]; exact jobsResolved_reopen (a := keptValues kind s) hw ⟨r, rfl⟩⟩
    · obtain ⟨h1, h2, h3⟩ := jobsResolved_released r hat hcomp hp
      exact ⟨(hrecord k).trans h1, (hmark n).trans h2, (hentry n).trans h3⟩

end Sys2Proof.Machine
